-- ==== Sys2Proof/Word.lean ====
section
/-!
DEFINITION. The plainest data of the model: the byte of a parcel, and a sparse table keyed by number.
-/

namespace Sys2Proof

/-- One byte of a parcel on a link, or of a record layout (spec/12_parcel_and_record_layouts.md). -/
abbrev Byte := BitVec 8

/-- A collection keyed by number (program entries, hold slots, card records …), listed by strictly rising
key. What a key that is not listed holds is said by the operation that reads the table
(Sys2Proof/Machine/Tables.lean). -/
abbrev Tab (α : Type) := List (Nat × α)

end Sys2Proof
end

