-- ==== Sys2Proof/Syntax.lean ====
section
/-!
DEFINITION. The commands of the block: one constructor of `Instr` for each row of spec/opcode_table.json.

A row is one step of the part, "whole and indivisible" (spec/95_what_each_step_holds.md). A command that comes from a
link carries the bytes of the parcel as the line delimits it (R155, R159). A management command carries no operand:
it names the taking of the command that stands at the head of the management input FIFO, where its code, tag and
fields are (R166). A taking at a card, a fetch or a card write names the card by its card index.
-/

namespace Sys2Proof

/-- The four store links (spec/00_scope.md, "Setting"). -/
inductive StoreLink where
  | s0 | s1 | s2 | s3
deriving DecidableEq, Repr

/-- The five links: the store links S0 to S3 and the central link C. -/
inductive Link where
  | store (l : StoreLink)
  | central
deriving DecidableEq, Repr

/-- The three outcomes of a DRAM read (R134). -/
inductive ReadOutcome where
  | data | corrected | uncorrectable
deriving DecidableEq, Repr

/-- The commands of the block, in the order of spec/opcode_table.json. -/
inductive Instr where
  /-- POWER_ON (R179): power is applied. -/
  | powerOn
  /-- RESET_N_LOW (R178): the pin RESET_N falls. -/
  | resetNLow
  /-- RESET_N_HIGH (R178): the pin RESET_N rises. -/
  | resetNHigh
  /-- ENGINE_RESET_EFFECT (R178): an engine reset that was caused takes effect. -/
  | engineResetEffect
  /-- TBLEN_FALL (R168): the pin TBLEN falls. -/
  | tblenFall
  /-- TBLEN_RISE (R168): the pin TBLEN rises. -/
  | tblenRise
  /-- CARRIER_PRESENT (R152): carrier appears on a link. -/
  | carrierPresent (l : Link)
  /-- CARRIER_LOST (R152): carrier is lost on a link. -/
  | carrierLost (l : Link)
  /-- REQUEST (R161): a parcel, sent as a REQUEST, is received whole on a store link. -/
  | request (l : StoreLink) (bytes : List Byte)
  /-- ANSWER (R164): a parcel, sent as an ANSWER, is received whole on C. -/
  | answer (bytes : List Byte)
  /-- MGMT (R159): a parcel, sent as a MGMT, is received whole on C. -/
  | mgmt (bytes : List Byte)
  /-- IDLE (R159): a parcel, sent as an IDLE, is received whole on a link. -/
  | idle (l : Link) (bytes : List Byte)
  /-- PARCEL_SEND (R155): a link unit sends the next parcel handed to it. -/
  | parcelSend (l : Link)
  /-- MILLISECOND_TICK (R68): the millisecond divider passes 24,999. -/
  | millisecondTick
  /-- PACER_EXPIRY (R162): the pacer timer of a store link expires. -/
  | pacerExpiry (l : StoreLink)
  /-- SECOND_TICK (R68): the second tick. -/
  | secondTick
  /-- WATCH_TIMEOUT (R123): the park entries whose expiry second is reached time out. -/
  | watchTimeout
  /-- MINUTE_TICK (R68): the minute tick. -/
  | minuteTick
  /-- HOLD_DUE (R75): the OPEN holds whose expiry minute is reached become LAPSE_DUE. -/
  | holdDue
  /-- DISPATCH (R23): the Dispatcher takes an intake head. -/
  | dispatch
  /-- INQUIRE (R65): an INQUIRE at the head of its card's waiting list is taken. -/
  | inquire (card : Nat)
  /-- ACTIVATE (R85): an ACTIVATE at the head of its card's waiting list is taken. -/
  | activate (card : Nat)
  /-- LOAD (R86): a LOAD at the head of its card's waiting list is taken. -/
  | load (card : Nat)
  /-- REDEEM (R43): a REDEEM at the head of its card's waiting list is taken. -/
  | redeem (card : Nat)
  /-- HOLD (R44): a HOLD at the head of its card's waiting list is taken. -/
  | hold (card : Nat)
  /-- COMPLETE (R59): a COMPLETE at the head of its card's waiting list is taken. -/
  | complete (card : Nat)
  /-- RELEASE (R64): a RELEASE at the head of its card's waiting list is taken. -/
  | release (card : Nat)
  /-- REVERSE (R101): a REVERSE at the head of its card's waiting list is taken. -/
  | reverse (card : Nat)
  /-- WITHDRAW (R40): a WITHDRAW item at the head of its card's waiting list is taken. -/
  | withdraw (card : Nat)
  /-- LAPSE (R77): a lapse item at the head of its card's waiting list is taken. -/
  | lapse (card : Nat)
  /-- DROP_ITEM (R81): a drop item at the head of its card's waiting list is taken. -/
  | dropItem (card : Nat)
  /-- CARD_READ_AT_CARD (R170): a CARD READ item at the head of its card's waiting list is taken. -/
  | cardReadAtCard (card : Nat)
  /-- CARD_FREEZE_AT_CARD (R109): a CARD FREEZE item at the head of its card's waiting list is taken. -/
  | cardFreezeAtCard (card : Nat)
  /-- CARD_THAW_AT_CARD (R109): a CARD THAW item at the head of its card's waiting list is taken. -/
  | cardThawAtCard (card : Nat)
  /-- CARD_WRITE_AT_CARD (R110): a CARD WRITE item at the head of its card's waiting list is taken. -/
  | cardWriteAtCard (card : Nat)
  /-- FETCH_COMPLETE (R28): the fetch of a card's record completes with data, corrected or not. -/
  | fetchComplete (card : Nat) (corrected : Bool)
  /-- FETCH_UNCORRECTABLE (R28): the fetch of a card's record completes uncorrectable. -/
  | fetchUncorrectable (card : Nat)
  /-- CARD_RECORD_WRITE_COMPLETE (R29): the oldest queued DRAM write of a card's record completes. -/
  | cardRecordWriteComplete (card : Nat)
  /-- JOURNAL_WRITE_COMPLETE (R144): the DRAM write of the journal entry with a sequence completes. -/
  | journalWriteComplete (sequence : Nat)
  /-- LOAD_CLEAR_WRITE_QUEUE (R137): the TMC queues the next cleared record of a program's LOAD CLEAR. -/
  | loadClearWriteQueue (program : Nat)
  /-- LOAD_CLEAR_WRITE_COMPLETE (R137): the LOAD CLEAR write of a card index completes. -/
  | loadClearWriteComplete (card : Nat)
  /-- RESTORE_SCAN_END (R113): the scan of a CARD RESTORE ends. -/
  | restoreScanEnd
  /-- RESTORE_WRITE_COMPLETE (R113): the restored record's write completes. -/
  | restoreWriteComplete
  /-- CARD_READ_DIRECT_COMPLETE (R170): the DRAM read of a direct CARD READ completes. -/
  | cardReadDirectComplete (outcome : ReadOutcome)
  /-- JOURNAL_READ_COMPLETE (R148): the reads of a JOURNAL READ complete, with these outcomes in sequence order. -/
  | journalReadComplete (outcomes : List ReadOutcome)
  /-- LOAD_FETCH_COMPLETE (R174): the reads of a LOAD FETCH complete, with these outcomes in pointer order. -/
  | loadFetchComplete (outcomes : List ReadOutcome)
  /-- UNKNOWN_COMMAND (R166): a command with an unknown code is taken from the management FIFO. -/
  | unknownCommand
  /-- STATUS_READ (R171). -/
  | statusRead
  /-- CARD_READ (R170). -/
  | cardRead
  /-- HOLD_READ (R83). -/
  | holdRead
  /-- JOURNAL_READ (R147). -/
  | journalRead
  /-- PROGRAM_READ (R171). -/
  | programRead
  /-- PROMOTION_READ (R89). -/
  | promotionRead
  /-- WATCH_READ (R125). -/
  | watchRead
  /-- CACHE_PROBE (R132). -/
  | cacheProbe
  /-- RETURN_SIZE_SET (R169). -/
  | returnSizeSet
  /-- ACCESS_SET (R168). -/
  | accessSet
  /-- DAY_ADVANCE (R96). -/
  | dayAdvance
  /-- JOURNAL_RELEASE (R149). -/
  | journalRelease
  /-- CARD_FREEZE (R108). -/
  | cardFreeze
  /-- CARD_THAW (R108). -/
  | cardThaw
  /-- WATCH_SET (R116). -/
  | watchSet
  /-- WATCH_CLEAR (R117). -/
  | watchClear
  /-- WATCH_CLEAR_STATUS (R119). -/
  | watchClearStatus
  /-- WATCH_RELEASE (R122). -/
  | watchRelease
  /-- NOTICE_ENABLE (R177). -/
  | noticeEnable
  /-- NOTICE_CLEAR (R177). -/
  | noticeClear
  /-- INTAKE_STOP (R24). -/
  | intakeStop
  /-- INTAKE_START (R24). -/
  | intakeStart
  /-- HOLD_DROP (R80). -/
  | holdDrop
  /-- PROGRAM_WRITE (R5). -/
  | programWrite
  /-- PROGRAM_STATE (R7). -/
  | programState
  /-- PROMOTION_WRITE (R89). -/
  | promotionWrite
  /-- PROMOTION_ENABLE (R89). -/
  | promotionEnable
  /-- PROMOTION_DISABLE (R89). -/
  | promotionDisable
  /-- CARD_WRITE (R108). -/
  | cardWrite
  /-- CARD_RESTORE (R112). -/
  | cardRestore
  /-- LOAD_OPEN (R172). -/
  | loadOpen
  /-- LOAD_CLOSE (R172). -/
  | loadClose
  /-- LOAD_DATA (R173). -/
  | loadData
  /-- LOAD_FETCH (R174). -/
  | loadFetch
  /-- LOAD_CLEAR (R175). -/
  | loadClear
  /-- CACHE_FLUSH (R133). -/
  | cacheFlush
  /-- PACE_SET (R163). -/
  | paceSet
  /-- ENGINE_RESET (R178). -/
  | engineReset
  /-- UNEXPECTED_KIND (R159): a parcel, sent as a kind that its link does not accept, is received whole. -/
  | unexpectedKind (l : Link) (bytes : List Byte)
deriving DecidableEq, Repr

end Sys2Proof
end

