-- ==== Sys2Proof/Machine/State.lean ====
section
/-!
DEFINITION. The state of the part: every register, list, queue, table, counter, mode and pin the spec names, as plain
data, and the queue of the commands that wait. INVENTORY.md lists each with the rule that names it.

Amounts, days, minutes, counters and indexes are `Nat`: "Results of arithmetic are computed exactly" (spec/00_scope.md).
A mask that the links carry as a byte stays a bit vector.
-/

namespace Sys2Proof.Machine

/-! ## Requests, items and answers -/

/-- A till id (R21): a store number and a lane number. -/
structure TillId where
  /-- store number, 0 to 65,535 -/
  store : Nat
  /-- lane number, 0 to 255 -/
  lane : Nat
deriving DecidableEq, Repr

/-- A hold reference (R72): slot number × 256 + reuse count, a 22-bit number. -/
structure HoldRef where
  /-- slot number, 0 to 16,383 -/
  slot : Nat
  /-- reuse count, 0 to 255 -/
  reuse : Nat
deriving DecidableEq, Repr

/-- The nine till request kinds (R21), in the order of their codes (12.2). -/
inductive TillKind where
  | inquire | activate | load | redeem | hold | complete | release | reverse | withdraw
deriving DecidableEq, Repr

/-- The channel of a till request (R21). -/
inductive Channel where
  | till | remote
deriving DecidableEq, Repr

/-- A decoded till request as an intake queue holds it (R21, R161): the fields as the payload carries them, not yet
range-checked (R180), with the origin link stamped and the original payload bytes kept beside them. -/
structure Request where
  /-- the kind byte as received -/
  kindCode : Nat
  /-- the channel byte as received -/
  channelCode : Nat
  till : TillId
  seq : Nat
  /-- the 16 bytes of the card number as received -/
  cardNumber : List Byte
  amount : Option Nat
  /-- the three bytes of the verify value as received, where present -/
  verify : Option (List Byte)
  holdRef : Option HoldRef
  original : Option Nat
  origin : StoreLink
  payload : List Byte
deriving DecidableEq, Repr

/-- A till request that passed the field check (R22), as an item carries it (R30). -/
structure TillRequest where
  kind : TillKind
  channel : Channel
  till : TillId
  seq : Nat
  amount : Option Nat
  /-- the verify value as a number 0 to 999, where present -/
  verify : Option Nat
  holdRef : Option HoldRef
  original : Option Nat
  origin : StoreLink
deriving DecidableEq, Repr

/-- The states of a card record (R16), in the order of their codes. -/
inductive CardState where
  | inactive | active | suspended | closed
deriving DecidableEq, Repr, Inhabited

/-- The fields a CARD WRITE supplies (R110). -/
structure CardWriteFields where
  state : CardState
  paid : Nat
  bonus : Nat
  bonusExpiry : Option Nat
  /-- the three bytes of the verify value as received, where present -/
  verify : Option (List Byte)
  verifyFailures : Nat
deriving DecidableEq, Repr

/-- A card load record (12.5), as LOAD DATA and CARD RESTORE supply it. -/
structure LoadRecord where
  /-- the state byte as received -/
  stateCode : Nat
  paid : Nat
  bonus : Nat
  bonusExpiry : Option Nat
  /-- the three bytes of the verify value as received, where present -/
  verify : Option (List Byte)
deriving DecidableEq, Repr

/-- What an item is (R30). A management item carries the tag of its command. -/
inductive ItemBody where
  | till (r : TillRequest)
  /-- a lapse item; a drop item when it carries the tag of its HOLD DROP -/
  | lapse (ref : HoldRef) (dropTag : Option Nat)
  | cardRead (tag : Nat)
  | cardFreeze (tag : Nat)
  | cardThaw (tag : Nat)
  | cardWrite (tag : Nat) (fields : CardWriteFields)
deriving DecidableEq, Repr

/-- One piece of work queued on a card (R30). -/
structure Item where
  card : Nat
  /-- the program the item counts under; absent for a management item whose card lies in no program's range (R11) -/
  program : Option Nat
  /-- set on a till request that an allowing release returned from the Watch Park (R30, R122) -/
  skip : Bool
  body : ItemBody
deriving DecidableEq, Repr

/-- The 28 outcome codes (R41). -/
inductive TillOutcome where
  | approved | partly | insufficient | velocity | notActive | alreadyActive | capacity | suspended | closed | verify
  | overMaximum | belowMinimum | overTolerance | holdLimit | noHold | lapsed | noOriginal | sequenceClash | journalFull
  | busy | cardUpdating | unavailable | referred | withdrawn | tooLate | notFound | badCard | badRequest
deriving DecidableEq, Repr

/-- The card state and balances an answer carries whenever the card was taken (R41). -/
structure Balances where
  state : CardState
  paid : Nat
  bonus : Nat
  held : Nat
  bonusExpiry : Option Nat
deriving DecidableEq, Repr

/-- An answer record (R41). -/
structure AnswerRecord where
  /-- the request's kind byte as received -/
  kindCode : Nat
  outcome : TillOutcome
  repeated : Bool
  till : TillId
  seq : Nat
  approved : Option Nat
  balances : Option Balances
  holdRef : Option HoldRef
  journalSeq : Option Nat
deriving DecidableEq, Repr

/-! ## Card records and the tables -/

/-- One entry of a card's recent references (R15). -/
structure RecentRef where
  till : TillId
  seq : Nat
  kind : TillKind
  /-- the outcome: PARTIAL when set, APPROVED otherwise -/
  isPartial : Bool
  approved : Nat
  bonusPart : Nat
  paidPart : Nat
  day : Nat
  holdRef : Option HoldRef
  promotion : Option Nat
  bonusGranted : Nat
  reversed : Bool
deriving DecidableEq, Repr

/-- A card record (R13). -/
structure CardRecord where
  program : Nat
  state : CardState
  /-- paid balance P, in cents -/
  paid : Nat
  /-- bonus balance B, in cents -/
  bonus : Nat
  bonusExpiry : Option Nat
  /-- held total H, in cents -/
  held : Nat
  openHolds : Nat
  lastDay : Nat
  dayCount : Nat
  dayAmount : Nat
  /-- verify value 0 to 999, where one is stored -/
  verify : Option Nat
  verifyFailures : Nat
  frozen : Bool
  /-- oldest first, at most 4 -/
  recents : List RecentRef
deriving DecidableEq, Repr, Inhabited

/-- The states of a program (1.4), in the order of their codes (12.6). -/
inductive ProgramStatus where
  | off | pass | draining | loading | live
deriving DecidableEq, Repr

/-- The settings of a Program Table entry (R4), in the order of its table. -/
structure Settings where
  /-- the six-digit program prefix as a number -/
  issuer : Nat
  firstSerial : Nat
  serialCount : Nat
  tableBase : Nat
  maxBalance : Nat
  minLoad : Nat
  bonusCeiling : Nat
  /-- basis points -/
  tipTolerance : Nat
  /-- minutes -/
  holdLifetime : Nat
  holdsPerCard : Nat
  dayCountLimit : Nat
  dayAmountLimit : Nat
  partialAllowed : Bool
  verifyRemote : Bool
deriving DecidableEq, Repr

/-- A Program Table entry (R4). -/
structure ProgramEntry where
  status : ProgramStatus
  drainTarget : Option ProgramStatus
  settings : Settings
  initialised : Bool
  openHolds : Nat
  inFlight : Nat
deriving DecidableEq, Repr

/-- A Promotion Table entry (R88). -/
structure Promotion where
  enabled : Bool
  /-- bit p stands for program p -/
  mask : BitVec 32
  trigger : Nat
  /-- basis points -/
  rate : Nat
  cap : Nat
  startDay : Nat
  endDay : Nat
  lifetime : Nat
deriving DecidableEq, Repr

/-! ## Hold slots -/

/-- The states of a hold slot (R71). -/
inductive SlotState where
  | free | openHold | lapseDue
deriving DecidableEq, Repr

/-- The reasons a hold closes with (R62, R71). -/
inductive CloseReason where
  | complete | release | lapse | drop
deriving DecidableEq, Repr

/-- A hold slot (R70). -/
structure HoldSlot where
  state : SlotState
  reuse : Nat
  card : Nat
  program : Nat
  till : TillId
  seq : Nat
  /-- A, in cents -/
  amount : Nat
  /-- HB, in cents -/
  bonusPart : Nat
  /-- HP, in cents -/
  paidPart : Nat
  openDay : Nat
  openMinute : Nat
  expiryMinute : Nat
  issued : Bool
  /-- absent stands for the close reason "none" -/
  lastClose : Option CloseReason
deriving DecidableEq, Repr

/-! ## The Card Serialiser and the Card Cache -/

/-- The states of a busy entry (R25). -/
inductive EntryState where
  | fetchWait | fetching | active | parked
deriving DecidableEq, Repr

/-- A Busy Card List entry (R25). -/
structure BusyEntry where
  card : Nat
  state : EntryState
  /-- present in PARKED only -/
  current : Option Item
  /-- oldest at the head, at most 8 -/
  waiting : List Item
  /-- outstanding writes: 0 to 65,535; a rise past 65,535 gives a free value (log entry 19) -/
  writes : Nat
  /-- the way of the card's cache set that the entry pins (R128); absent in FETCH_WAIT -/
  way : Option Nat
deriving DecidableEq, Repr

/-- A way of the Card Cache (R127). Its tag and record mean nothing while it is not valid. -/
structure Way where
  valid : Bool
  tag : Nat
  record : CardRecord
  pinned : Bool
deriving DecidableEq, Repr

/-- A set of the Card Cache (R127): four ways and the replacement pointer. -/
structure CacheSet where
  way0 : Way
  way1 : Way
  way2 : Way
  way3 : Way
  /-- the way considered first at the set's next fill, 0 to 3 -/
  pointer : Nat
deriving DecidableEq, Repr

/-! ## The journal -/

/-- The kinds of a journal entry (R140), in the order of their codes (12.4). -/
inductive JournalKind where
  | activate | load | redeem | hold | complete | release | lapse | reverse | expire | adjust
deriving DecidableEq, Repr

/-- A journal entry (R140). -/
structure JournalEntry where
  seq : Nat
  kind : JournalKind
  day : Nat
  minute : Nat
  card : Nat
  program : Nat
  /-- till id and till sequence, where present -/
  till : Option (TillId × Nat)
  paidDelta : Int
  bonusDelta : Int
  heldDelta : Int
  forfeited : Nat
  /-- resulting P -/
  paid : Nat
  /-- resulting B -/
  bonus : Nat
  /-- resulting H -/
  held : Nat
  holdRef : Option HoldRef
  promotion : Option Nat
  restore : Bool
deriving DecidableEq, Repr

/-- The marks of the Journal Unit (R142, R143, R144). free is 1,048,576 − occupancy. -/
structure Journal where
  /-- the sequence the next entry appended takes -/
  next : Nat
  oldest : Nat
  newest : Nat
  occupancy : Nat
  /-- written mark -/
  written : Nat
  /-- ring position the next entry appended takes -/
  position : Nat
  /-- the sequences beyond the written mark whose write has completed and is noted (R144) -/
  noted : List Nat
deriving DecidableEq, Repr

/-! ## The Table Memory Controller -/

/-- Who queued a write of a card record (8.6). -/
inductive CardWriter where
  | serialiser | loadData
  /-- the LOAD CLEAR of a program -/
  | loadClear (program : Nat)
  | restore
deriving DecidableEq, Repr

/-- What a queued DRAM write stores and where. -/
inductive WriteBody where
  | card (index : Nat) (record : CardRecord) (writer : CardWriter)
  | journal (position : Nat) (entry : JournalEntry)
deriving DecidableEq, Repr

/-- A write of the DRAM write queue (R135). `id` counts the writes queued since power-on, so that a read can name the
writes queued before it. -/
structure QueuedWrite where
  id : Nat
  body : WriteBody
deriving DecidableEq, Repr

/-- What a queued DRAM read reads, and for whom (8.6). -/
inductive ReadBody where
  /-- the fetch of a busy entry -/
  | fetch (card : Nat)
  /-- a direct CARD READ -/
  | direct (card : Nat)
  /-- a LOAD FETCH -/
  | window (card : Nat)
  /-- a JOURNAL READ -/
  | journal (position : Nat)
deriving DecidableEq, Repr

/-- A read of the DRAM read queue (R134, R135): the writes with an id below `after` were queued before it. -/
structure QueuedRead where
  body : ReadBody
  after : Nat
  /-- the last write of its address that was queued and not completed when the read was queued: the read delivers what it
  stores -/
  behind : Option WriteBody
deriving DecidableEq, Repr

/-- A LOAD CLEAR in progress (R137, R175). -/
structure ClearJob where
  program : Nat
  tag : Nat
  /-- the program's table base -/
  base : Nat
  /-- the program's serial count -/
  count : Nat
  /-- how many of the range's writes are queued so far -/
  queued : Nat
  /-- how many of them have completed -/
  completed : Nat
deriving DecidableEq, Repr

/-- A CARD RESTORE in progress (R112, R113). -/
structure RestoreJob where
  card : Nat
  program : Nat
  tag : Nat
  load : LoadRecord
  /-- absent while the scan runs; then the record queued and the sequence of its ADJUST entry -/
  written : Option (CardRecord × Nat)
deriving DecidableEq, Repr

/-- The Table Memory Controller (8.6). -/
structure Tmc where
  reads : List QueuedRead
  writes : List QueuedWrite
  /-- the id the next write takes -/
  nextWrite : Nat
  /-- quarantined card indexes, in the order they were added, at most 32 -/
  quarantine : List Nat
  /-- correctable-error count -/
  corrected : Nat
  clears : List ClearJob
  restore : Option RestoreJob
deriving DecidableEq, Repr

/-! ## The Watch Unit -/

/-- The kinds a watch slot watches (R115). -/
structure WatchKinds where
  outgoing : Bool
  incoming : Bool
  look : Bool
deriving DecidableEq, Repr

/-- What a match of a watch slot does beyond recording the hit (R115). -/
inductive WatchAction where
  | note | park
deriving DecidableEq, Repr

/-- A watch slot (R115). -/
structure WatchSlot where
  localEnable : Bool
  globalEnable : Bool
  base : Nat
  span : Nat
  kinds : WatchKinds
  action : WatchAction
deriving DecidableEq, Repr

/-- The status of a watch slot (R119). -/
structure WatchStatus where
  hit : Bool
  last : Option Nat
  count : Nat
deriving DecidableEq, Repr

/-- An occupied entry of the Watch Park (R120). -/
structure ParkEntry where
  item : Item
  card : Nat
  /-- bit n: watch slot n matched the item -/
  matched : BitVec 4
  /-- bit n: watch slot n matched the item and has action PARK -/
  parking : BitVec 4
  expirySecond : Nat
deriving DecidableEq, Repr

/-- The Watch Unit (chapter 7). A park id that `park` does not list is empty. -/
structure WatchUnit where
  slot0 : WatchSlot
  slot1 : WatchSlot
  slot2 : WatchSlot
  slot3 : WatchSlot
  status0 : WatchStatus
  status1 : WatchStatus
  status2 : WatchStatus
  status3 : WatchStatus
  /-- watch timeout, in seconds -/
  timeout : Nat
  park : Tab ParkEntry
deriving DecidableEq, Repr

/-! ## The Management Unit -/

/-- The refusal reasons (R167), in the order of their codes (12.6). -/
inductive Reason where
  | level | state | range | busy | overlap | holdsOpen | notInitialised | noHold | tooLate | unavailable | journalFull
  | unknown
deriving DecidableEq, Repr

/-- A management command as the FIFO holds it: its code, its tag, and the bytes of its fields (R181). -/
structure MgmtCommand where
  code : Nat
  tag : Nat
  fields : List Byte
deriving DecidableEq, Repr

/-- The result of a management command (R166): DONE with the command's data, or REFUSED with a reason. -/
inductive MgmtResult where
  | done (data : List Byte)
  | refused (reason : Reason)
deriving DecidableEq, Repr

/-- A management answer (R166). -/
structure MgmtAnswer where
  code : Nat
  tag : Nat
  result : MgmtResult
deriving DecidableEq, Repr

/-- The eight notice kinds (R176), in the order of their mask bits (12.6). -/
inductive NoticeKind where
  | journalHigh | journalFull | watchHit | watchParked | watchTimeout | cardSuspended | memoryError | linkError
deriving DecidableEq, Repr

/-- The content of a NOTICE parcel (R177, R181). -/
structure Notice where
  pending : BitVec 8
  /-- bit 0: WATCH_PARKED overflow; bit 1: MEMORY_ERROR overflow -/
  qualifiers : BitVec 8
  enabled : BitVec 8
  day : Nat
  minute : Nat
deriving DecidableEq, Repr

/-- The direction of an open load window (R172). -/
inductive Direction where
  | writing | reading
deriving DecidableEq, Repr

/-- The load window (R172). -/
inductive Window where
  | closed
  | opened (direction : Direction) (program : Nat) (pointer : Nat)
deriving DecidableEq, Repr

/-- What a JOURNAL READ fixes when it is taken (R147, R148). -/
structure JournalSelection where
  /-- the sequence of the first entry selected -/
  first : Nat
  /-- how many entries are selected -/
  count : Nat
  more : Bool
  /-- the continuation sequence -/
  continuation : Nat
  oldest : Nat
  written : Nat
  free : Nat
deriving DecidableEq, Repr

/-- The command whose DRAM reads the Management Unit waits for before it takes its next command (R147, R170, R174). -/
inductive MgmtRead where
  | card (tag : Nat) (index : Nat)
  | journal (tag : Nat) (selection : JournalSelection)
  | window (tag : Nat) (first : Nat) (count : Nat)
deriving DecidableEq, Repr

/-- The Management Unit (chapter 11). -/
structure Mgmt where
  /-- access level, 0 to 2 -/
  level : Nat
  /-- return size, 1 to 64 -/
  returnSize : Nat
  window : Window
  /-- the current business day -/
  day : Nat
  /-- notice pending set -/
  pending : BitVec 8
  /-- overflow qualifiers of the pending set -/
  qualifiers : BitVec 8
  /-- notice enable set -/
  enabled : BitVec 8
  /-- tag and command code of each command started and not yet answered -/
  inFlight : List (Nat × Nat)
  reading : Option MgmtRead
deriving DecidableEq, Repr

/-! ## Links -/

/-- A parcel handed to a link unit for sending (R155). -/
inductive OutParcel where
  /-- an ANSWER made by the part -/
  | answer (a : AnswerRecord)
  /-- a central ANSWER forwarded: the return link it arrived with, and its payload -/
  | forwardedAnswer (ret : StoreLink) (payload : List Byte)
  /-- a PAUSE carrying a pause time in milliseconds -/
  | pause (time : Nat)
  /-- pass traffic: the origin link and the original payload -/
  | forwardedRequest (ret : StoreLink) (payload : List Byte)
  | mgmtAnswer (a : MgmtAnswer)
  | notice (n : Notice)
deriving DecidableEq, Repr

/-- What every link unit holds (R152, R153, R155, R160). -/
structure LinkUnit where
  /-- UP when set, DOWN otherwise -/
  up : Bool
  /-- the error report, a mask in the order of 12.6 -/
  errors : BitVec 8
  /-- dropped-answer count, 0 to 65,535 -/
  dropped : Nat
  /-- the parcels handed and not yet sent, oldest first -/
  out : List OutParcel
  /-- the parcels put on the line so far, oldest first (the model's own record of the line) -/
  line : List (List Byte)
deriving DecidableEq, Repr

/-- The states of a pacer (R162). -/
inductive PacerState where
  | idle | pausing | gap
deriving DecidableEq, Repr

/-- The settings of a pacer (R163). -/
structure PacerSettings where
  highMark : Nat
  lowMark : Nat
  /-- milliseconds -/
  pauseTime : Nat
  /-- milliseconds -/
  gapTime : Nat
  /-- 0 means without limit -/
  pauseCount : Nat
deriving DecidableEq, Repr

/-- A pacer (R162). -/
structure Pacer where
  state : PacerState
  /-- milliseconds left; 0 while the timer is stopped -/
  timer : Nat
  /-- pauses-sent count, 0 to 15 -/
  sent : Nat
  active : PacerSettings
  staged : PacerSettings
deriving DecidableEq, Repr

/-- A Store Link Unit (chapter 10). -/
structure StoreUnit where
  link : LinkUnit
  /-- intake queue, oldest at the head, at most 64 -/
  intake : List Request
  pacer : Pacer
deriving DecidableEq, Repr

/-- The four Store Link Units. -/
structure StoreUnits where
  u0 : StoreUnit
  u1 : StoreUnit
  u2 : StoreUnit
  u3 : StoreUnit
deriving DecidableEq, Repr

/-- The Central Link Unit (chapter 10) with the management input FIFO (R159, R166). -/
structure CentralUnit where
  link : LinkUnit
  /-- oldest at the head, at most 16 -/
  fifo : List MgmtCommand
deriving DecidableEq, Repr

/-- The Dispatcher (2.1). -/
structure Dispatcher where
  /-- last-served link -/
  last : StoreLink
  /-- the blocked set, each link at most once -/
  blocked : List StoreLink
  intakeStop : Bool
deriving DecidableEq, Repr

/-- The timebase (R68). -/
structure Timebase where
  /-- millisecond divider, 0 to 24,999 reference cycles -/
  divider : Nat
  /-- millisecond ticks since the last second tick, 0 to 999 -/
  milliseconds : Nat
  /-- seconds counter -/
  seconds : Nat
  /-- second ticks since the last minute tick, 0 to 59 -/
  secondPhase : Nat
  /-- minutes counter -/
  minutes : Nat
deriving DecidableEq, Repr

/-! ## The whole part -/

/-- The state of the part. -/
structure State where
  /-- the commands that wait, first in, first out -/
  pending : List Instr
  /-- the level of the pin RESET_N: high when set -/
  resetN : Bool
  /-- the level of the pin TBLEN: high when set -/
  tblen : Bool
  /-- an engine reset has been caused and has not yet taken effect (R178) -/
  resetPending : Bool
  stores : StoreUnits
  central : CentralUnit
  dispatcher : Dispatcher
  /-- the Busy Card List, in the order its entries were made, at most 256 -/
  busy : List BusyEntry
  /-- Program Table; an entry not listed is at its power-on values -/
  programs : Tab ProgramEntry
  /-- Promotion Table; an entry not listed is at its power-on values -/
  promotions : Tab Promotion
  /-- Hold Table; a slot not listed is at its power-on values -/
  slots : Tab HoldSlot
  /-- the free list: slot numbers, head first -/
  freeList : List Nat
  /-- the expiry list: slot numbers, head first -/
  expiryList : List Nat
  time : Timebase
  /-- Card Cache; a set not listed is at its power-on values -/
  cache : Tab CacheSet
  tmc : Tmc
  /-- the card table in DRAM; a card index not listed has not been written since power-on -/
  cards : Tab CardRecord
  /-- the journal ring in DRAM; a ring position not listed has not been written since power-on -/
  ring : Tab JournalEntry
  journal : Journal
  watch : WatchUnit
  mgmt : Mgmt
  /-- how often power was applied since the model's reset state (the model's own; an argument of the free values) -/
  powerOns : Nat
deriving DecidableEq, Repr

/-! ## Faults and refusals -/

/-- A fault: the command names hardware that does not exist. Raised only for an operand that `Instr.wf` refuses;
safe, since no event of the part can carry such an operand. -/
inductive Fault where
  /-- a card index above 16,777,215: the card table has no such record (R13). Raised by the commands that name a card. Safe. -/
  | noSuchCard (card : Nat)
  /-- a program number above 31: the Program Table has no such entry (R4). Raised by LOAD_CLEAR_WRITE_QUEUE. Safe. -/
  | noSuchProgram (program : Nat)
  /-- a journal sequence that is 0 or above 4,294,967,295 (R142). Raised by JOURNAL_WRITE_COMPLETE. Safe. -/
  | noSuchSequence (sequence : Nat)
deriving DecidableEq, Repr

/-- A refusal: no meaning for the command. -/
inductive Refusal where
  /-- the command has no meaning in the model yet; raised by `exec` alone. Safe. -/
  | notModelled (mnemonic : String)
deriving DecidableEq, Repr

/-! ## Values at power-on -/

/-- The numbers from `start` on, `count` of them. -/
def countUp : Nat → Nat → List Nat
  | 0, _ => []
  | count + 1, start => start :: countUp count (start + 1)

/-- The settings of a Program Table entry at power-on: all 0 and no (R12). -/
def Settings.initial : Settings :=
  { issuer := 0, firstSerial := 0, serialCount := 0, tableBase := 0, maxBalance := 0, minLoad := 0, bonusCeiling := 0,
    tipTolerance := 0, holdLifetime := 0, holdsPerCard := 0, dayCountLimit := 0, dayAmountLimit := 0,
    partialAllowed := false, verifyRemote := false }

/-- A Program Table entry at power-on (R12). -/
def ProgramEntry.initial : ProgramEntry :=
  { status := .off, drainTarget := none, settings := .initial, initialised := false, openHolds := 0, inFlight := 0 }

/-- A Promotion Table entry at power-on (R88). -/
def Promotion.initial : Promotion :=
  { enabled := false, mask := 0#32, trigger := 0, rate := 0, cap := 0, startDay := 0, endDay := 0, lifetime := 0 }

/-- A hold slot at power-on (R84). -/
def HoldSlot.initial : HoldSlot :=
  { state := .free, reuse := 0, card := 0, program := 0, till := { store := 0, lane := 0 }, seq := 0, amount := 0,
    bonusPart := 0, paidPart := 0, openDay := 0, openMinute := 0, expiryMinute := 0, issued := false, lastClose := none }

/-- The record that stands in a way that is not valid, where it means nothing (R127; log entry 30). -/
def CardRecord.blank : CardRecord :=
  { program := 0, state := .inactive, paid := 0, bonus := 0, bonusExpiry := none, held := 0, openHolds := 0,
    lastDay := 0, dayCount := 0, dayAmount := 0, verify := none, verifyFailures := 0, frozen := false, recents := [] }

/-- A way that is not valid and not pinned (R139). -/
def Way.empty : Way :=
  { valid := false, tag := 0, record := .blank, pinned := false }

/-- A cache set at power-on (R139). -/
def CacheSet.empty : CacheSet :=
  { way0 := .empty, way1 := .empty, way2 := .empty, way3 := .empty, pointer := 0 }

/-- The pacer defaults (R163). -/
def PacerSettings.initial : PacerSettings :=
  { highMark := 48, lowMark := 16, pauseTime := 20, gapTime := 10, pauseCount := 0 }

/-- A pacer at power-on (R165). -/
def Pacer.initial : Pacer :=
  { state := .idle, timer := 0, sent := 0, active := .initial, staged := .initial }

/-- What every link unit holds at power-on (R165). -/
def LinkUnit.initial : LinkUnit :=
  { up := false, errors := 0#8, dropped := 0, out := [], line := [] }

/-- A Store Link Unit at power-on (R165). -/
def StoreUnit.initial : StoreUnit :=
  { link := .initial, intake := [], pacer := .initial }

/-- A watch slot at power-on (R126). -/
def WatchSlot.initial : WatchSlot :=
  { localEnable := false, globalEnable := false, base := 0, span := 1,
    kinds := { outgoing := false, incoming := false, look := false }, action := .note }

/-- The status of a watch slot at power-on (R126). -/
def WatchStatus.initial : WatchStatus :=
  { hit := false, last := none, count := 0 }

/-- The part right after power-on: each field at the value of its chapter's reset table (R12, R42, R69, R84, R88, R95, R126,
R139, R151, R165, R179). The levels of the two pins are the model's choice (log entry 7). -/
def State.reset : State :=
  { pending := []
    resetN := true
    tblen := false
    resetPending := false
    stores := { u0 := .initial, u1 := .initial, u2 := .initial, u3 := .initial }
    central := { link := .initial, fifo := [] }
    dispatcher := { last := .s3, blocked := [], intakeStop := false }
    busy := []
    programs := []
    promotions := []
    slots := []
    freeList := countUp 16384 0
    expiryList := []
    time := { divider := 0, milliseconds := 0, seconds := 0, secondPhase := 0, minutes := 0 }
    cache := []
    tmc := { reads := [], writes := [], nextWrite := 0, quarantine := [], corrected := 0, clears := [], restore := none }
    cards := []
    ring := []
    journal := { next := 1, oldest := 1, newest := 0, occupancy := 0, written := 0, position := 0, noted := [] }
    watch :=
      { slot0 := .initial, slot1 := .initial, slot2 := .initial, slot3 := .initial,
        status0 := .initial, status1 := .initial, status2 := .initial, status3 := .initial,
        timeout := 20, park := [] }
    mgmt :=
      { level := 0, returnSize := 1, window := .closed, day := 0, pending := 0#8, qualifiers := 0#8,
        enabled := 0#8, inFlight := [], reading := none }
    powerOns := 0 }

end Sys2Proof.Machine
end

