-- ==== Sys2Proof/Config.lean ====
section
/-!
DEFINITION. The free values: what the spec calls undefined, or does not state, while the part goes on. None has a body,
so nothing can be proved of one and every claim holds whatever they are.
-/

namespace Sys2Proof.Config

/-- The byte at an offset of the 146-byte image of a card record whose DRAM location nothing has written since power-on:
"The power-on content of the card table is undefined" (R9, R19), and a direct read sends "the bytes DRAM holds in each
field, unchecked" (12.5, R170). Arguments: how often power was applied, the card index, the offset. Log entry 8. -/
opaque undefinedCardByte : Nat → Nat → Nat → Byte

/-- The byte at an offset of a journal ring position whose DRAM location nothing has written since power-on: "After
power-on the ring's DRAM content is undefined" (R151). Arguments: how often power was applied, the ring position, the
offset. Log entry 8. -/
opaque undefinedJournalByte : Nat → Nat → Nat → Byte

/-- The card record that is read where its content is undefined: by a fetch of a DRAM location not written since power-on, or
by a decision of a busy entry whose way a load write made invalid (R138). Arguments: how often power was applied, the card
index. Log entries 8 and 17. -/
opaque undefinedCard : Nat → Nat → Machine.CardRecord

/-- The slot number a HOLD READ that returns no hold names as the following start: R83 gives it as "one above the last
slot returned" and says nothing where none was returned. Argument: the start slot of the read. Log entry 11. -/
opaque holdReadNextWhenNone : Nat → Nat

/-- The outstanding writes of a busy entry after a rise past 65,535: R25 gives the field the range 0 to 65,535, R29 raises it at
every write queued and R135 lets none wait, and no rule states the result there. Arguments: how often power was applied,
the number of the write queued. Log entry 19. -/
opaque writesBeyond : Nat → Nat → BitVec 16

end Sys2Proof.Config
end

