-- ==== Sys2Proof/Machine/Tables.lean ====
section
/-!
DEFINITION. Reading and writing the sparse tables, and the sizes the spec gives the part's collections.

Two kinds of table. In one with a power-on value (programs, hold slots, cache sets …) a key that is not listed holds that
value, and a write of that value removes the entry, so that equal tables are equal lists. In one without (the two parts
of the DRAM, the Watch Park) a key that is not listed has not been written, or is empty.
-/

namespace Sys2Proof.Machine

/-! ## Sizes (spec/00_scope.md, "Organisation") -/

/-- Card records of the card table. -/
def cardTableSize : Nat := 16777216
/-- Entries of the journal ring. -/
def ringSize : Nat := 1048576
/-- Entries of the journal kept for settlements (R145). -/
def journalReserve : Nat := 32768
/-- Program Table entries. -/
def programTableSize : Nat := 32
/-- Promotion Table entries. -/
def promotionTableSize : Nat := 64
/-- Hold Table slots. -/
def holdTableSize : Nat := 16384
/-- Card Cache sets. -/
def cacheSets : Nat := 1024
/-- Busy Card List entries. -/
def busyListSize : Nat := 256
/-- Items of a waiting list. -/
def waitingListSize : Nat := 8
/-- Requests of an intake queue. -/
def intakeSize : Nat := 64
/-- Commands of the management input FIFO. -/
def fifoSize : Nat := 16
/-- Entries of the Watch Park. -/
def parkSize : Nat := 16
/-- Card indexes of the quarantine list. -/
def quarantineSize : Nat := 32
/-- Entries of a card's recent references. -/
def recentSize : Nat := 4
/-- The largest payload of a parcel, in bytes. -/
def payloadMax : Nat := 1024
/-- The last value of the seconds and minutes counters (R68) and the last journal sequence (R142). -/
def counterMax : Nat := 4294967295
/-- The last value of the 16-bit saturating counts (R119, R134, R153). -/
def saturation : Nat := 65535
/-- The last business day (R95). -/
def dayMax : Nat := 65535

/-! ## Tables -/

/-- What a key is listed with. -/
def Tab.find {α : Type} : Tab α → Nat → Option α
  | [], _ => none
  | (k, v) :: t, key => if key = k then some v else Tab.find t key

/-- List a key with a value, keeping the keys strictly rising. -/
def Tab.insert {α : Type} : Tab α → Nat → α → Tab α
  | [], key, value => [(key, value)]
  | (k, v) :: t, key, value =>
    if key < k then (key, value) :: (k, v) :: t
    else if key = k then (key, value) :: t
    else (k, v) :: Tab.insert t key value

/-- Remove a key. -/
def Tab.erase {α : Type} : Tab α → Nat → Tab α
  | [], _ => []
  | (k, v) :: t, key => if key = k then t else (k, v) :: Tab.erase t key

/-- What a key holds, in a table whose keys hold `initial` where they are not listed. -/
def Tab.get {α : Type} (initial : α) (t : Tab α) (key : Nat) : α :=
  (Tab.find t key).getD initial

/-- Write a key of such a table. -/
def Tab.set {α : Type} [DecidableEq α] (initial : α) (t : Tab α) (key : Nat) (value : α) : Tab α :=
  if value = initial then Tab.erase t key else Tab.insert t key value

/-- Change every listed value of such a table. -/
def Tab.update {α : Type} [DecidableEq α] (initial : α) (f : Nat → α → α) : Tab α → Tab α
  | [] => []
  | (k, v) :: t => if f k v = initial then Tab.update initial f t else (k, f k v) :: Tab.update initial f t

/-- The keys of a table rise strictly. -/
def Tab.rising {α : Type} : Tab α → Bool
  | [] => true
  | [_] => true
  | (k, _) :: (k', v') :: t => decide (k < k') && Tab.rising ((k', v') :: t)

/-- The canonical form of a table without a power-on value. -/
def Tab.wf {α : Type} (t : Tab α) : Bool := Tab.rising t

/-- The canonical form of a table whose unlisted keys hold `initial`. -/
def Tab.wfWith {α : Type} [DecidableEq α] (initial : α) (t : Tab α) : Bool :=
  Tab.rising t && t.all fun e => decide (e.2 ≠ initial)

/-! ## The part's tables -/

/-- A Program Table entry. -/
def State.program (s : State) (p : Nat) : ProgramEntry := Tab.get ProgramEntry.initial s.programs p

/-- A Promotion Table entry. -/
def State.promotion (s : State) (n : Nat) : Promotion := Tab.get Promotion.initial s.promotions n

/-- A hold slot. -/
def State.slot (s : State) (n : Nat) : HoldSlot := Tab.get HoldSlot.initial s.slots n

/-- A cache set. -/
def State.cacheSet (s : State) (n : Nat) : CacheSet := Tab.get CacheSet.empty s.cache n

end Sys2Proof.Machine
end

