-- ==== Sys2Proof/Machine/Flags.lean ====
section
/-!
DEFINITION. The numeric codes of listed values, and the flag bytes and masks the layouts define
(spec/12_parcel_and_record_layouts.md): "A choice among listed values is coded 0 for the first value listed, 1 for the
next, and so on. A set of listed values is a byte mask."
-/

namespace Sys2Proof.Machine

/-! ## Codes -/

/-- The code of a store link: 0 for S0 to 3 for S3 (12.1). -/
def storeLinkCode : StoreLink → Nat
  | .s0 => 0 | .s1 => 1 | .s2 => 2 | .s3 => 3

/-- The store link that a return link names (12.1): its low two bits. -/
def storeLinkOf (n : Nat) : StoreLink :=
  match n % 4 with
  | 0 => .s0
  | 1 => .s1
  | 2 => .s2
  | _ => .s3

/-- The code of a till request kind (12.2). -/
def tillKindCode : TillKind → Nat
  | .inquire => 0 | .activate => 1 | .load => 2 | .redeem => 3 | .hold => 4 | .complete => 5 | .release => 6
  | .reverse => 7 | .withdraw => 8

/-- The till request kind a code names (12.2, R22). -/
def tillKindOf : Nat → Option TillKind
  | 0 => some .inquire
  | 1 => some .activate
  | 2 => some .load
  | 3 => some .redeem
  | 4 => some .hold
  | 5 => some .complete
  | 6 => some .release
  | 7 => some .reverse
  | 8 => some .withdraw
  | _ => none

/-- The code of a channel (12.2). -/
def channelCode : Channel → Nat
  | .till => 0 | .remote => 1

/-- The channel a code names (12.2, R22). -/
def channelOf : Nat → Option Channel
  | 0 => some .till
  | 1 => some .remote
  | _ => none

/-- The code of a card state (12.2). -/
def cardStateCode : CardState → Nat
  | .inactive => 0 | .active => 1 | .suspended => 2 | .closed => 3

/-- The card state a code names (12.2). -/
def cardStateOf : Nat → Option CardState
  | 0 => some .inactive
  | 1 => some .active
  | 2 => some .suspended
  | 3 => some .closed
  | _ => none

/-- The code of a till outcome (12.6). -/
def tillOutcomeCode : TillOutcome → Nat
  | .approved => 0x00 | .partly => 0x01 | .insufficient => 0x02 | .velocity => 0x03 | .notActive => 0x04
  | .alreadyActive => 0x05 | .capacity => 0x06 | .suspended => 0x07 | .closed => 0x08 | .verify => 0x09
  | .overMaximum => 0x0A | .belowMinimum => 0x0B | .overTolerance => 0x0C | .holdLimit => 0x0D | .noHold => 0x0E
  | .lapsed => 0x0F | .noOriginal => 0x10 | .sequenceClash => 0x11 | .journalFull => 0x12 | .busy => 0x13
  | .cardUpdating => 0x14 | .unavailable => 0x15 | .referred => 0x16 | .withdrawn => 0x17 | .tooLate => 0x18
  | .notFound => 0x19 | .badCard => 0x1A | .badRequest => 0x1B

/-- The code of a refusal reason (12.6). -/
def reasonCode : Reason → Nat
  | .level => 1 | .state => 2 | .range => 3 | .busy => 4 | .overlap => 5 | .holdsOpen => 6 | .notInitialised => 7
  | .noHold => 8 | .tooLate => 9 | .unavailable => 10 | .journalFull => 11 | .unknown => 12

/-- The code of a program state (12.6). -/
def programStatusCode : ProgramStatus → Nat
  | .off => 0 | .pass => 1 | .draining => 2 | .loading => 3 | .live => 4

/-- The target a PROGRAM STATE may name (R7, 12.6): a target coded 2 or above 4 names none. -/
def programTargetOf : Nat → Option ProgramStatus
  | 0 => some .off
  | 1 => some .pass
  | 3 => some .loading
  | 4 => some .live
  | _ => none

/-- The code of a hold slot state (12.6). -/
def slotStateCode : SlotState → Nat
  | .free => 0 | .openHold => 1 | .lapseDue => 2

/-- The code of a journal entry kind (12.4). -/
def journalKindCode : JournalKind → Nat
  | .activate => 0 | .load => 1 | .redeem => 2 | .hold => 3 | .complete => 4 | .release => 5 | .lapse => 6
  | .reverse => 7 | .expire => 8 | .adjust => 9

/-- The code of a load window's state (12.6). -/
def windowCode : Window → Nat
  | .closed => 0
  | .opened .writing _ _ => 1
  | .opened .reading _ _ => 2

/-- The code of a watch action (R115). -/
def watchActionCode : WatchAction → Nat
  | .note => 0 | .park => 1

/-- The code of a field listed as "yes, no" or "on, off" (log entry 9). -/
def yesNoCode (b : Bool) : Nat := if b then 0 else 1

/-- The value of such a field (log entry 9). -/
def yesNoOf : Nat → Option Bool
  | 0 => some true
  | 1 => some false
  | _ => none

/-- The code of an indication that is set or clear (log entry 9). -/
def indication (b : Bool) : Nat := if b then 1 else 0

/-! ## Masks -/

/-- A byte with one bit set. -/
def bit8 (n : Nat) : BitVec 8 := 1#8 <<< n

/-- The mask bit of a notice kind (12.6). -/
def noticeBit : NoticeKind → Nat
  | .journalHigh => 0 | .journalFull => 1 | .watchHit => 2 | .watchParked => 3 | .watchTimeout => 4
  | .cardSuspended => 5 | .memoryError => 6 | .linkError => 7

/-- Whether a mask holds a notice kind. -/
def noticeIn (k : NoticeKind) (mask : BitVec 8) : Bool := mask.getLsbD (noticeBit k)

/-- The qualifier bit of the overflow of a notice kind (R176, R181): only WATCH_PARKED and MEMORY_ERROR have one. -/
def overflowMask : NoticeKind → BitVec 8
  | .watchParked => 1#8
  | .memoryError => 2#8
  | _ => 0#8

/-- The qualifiers that leave with the kinds of a mask (R177). -/
def qualifiersOf (mask : BitVec 8) : BitVec 8 :=
  (if noticeIn .watchParked mask then overflowMask .watchParked else 0#8) |||
    (if noticeIn .memoryError mask then overflowMask .memoryError else 0#8)

/-- The kinds of receive error (R160). -/
inductive LinkError where
  | headerCorrected | headerBad | length | unexpectedKind | payloadBad | decode
deriving DecidableEq, Repr

/-- The mask bit of a receive error kind (12.6). -/
def linkErrorBit : LinkError → Nat
  | .headerCorrected => 0 | .headerBad => 1 | .length => 2 | .unexpectedKind => 3 | .payloadBad => 4 | .decode => 5

/-- The kinds of a watch slot from their mask: OUT, IN, LOOK (R115; log entry 25 for the other bits). -/
def watchKindsOf (mask : BitVec 8) : WatchKinds :=
  { outgoing := mask.getLsbD 0, incoming := mask.getLsbD 1, look := mask.getLsbD 2 }

/-- The mask of a watch slot's kinds (R115). -/
def watchKindsMask (k : WatchKinds) : Nat :=
  (if k.outgoing then 1 else 0) + (if k.incoming then 2 else 0) + (if k.look then 4 else 0)

/-- A flags byte: the bits given, bit 0 first. -/
def flagBits : List Bool → Nat
  | [] => 0
  | b :: bs => (if b then 1 else 0) + 2 * flagBits bs

end Sys2Proof.Machine
end

