-- ==== Sys2Proof/Machine/Operands.lean ====
section
/-!
DEFINITION. Every operand form of the links: how numbers, digits, optional fields and choices are laid out (R180, R181),
the decoding of a REQUEST payload and the Dispatcher's field check (R22), and the fields of each management command.

A reader of fields takes the bytes that are left and gives a value with the bytes after it, or nothing where the payload
ends too early or a selector byte is neither 0 nor 1 (R181).
-/

namespace Sys2Proof.Machine

/-! ## Numbers and digits -/

/-- A number in `n` bytes, least significant byte first. -/
def leBytes : Nat → Nat → List Byte
  | 0, _ => []
  | n + 1, v => BitVec.ofNat 8 v :: leBytes n (v / 256)

/-- The number that bytes hold, least significant byte first. -/
def leNat : List Byte → Nat
  | [] => 0
  | b :: bs => b.toNat + 256 * leNat bs

/-- The fewest whole bytes that hold the numbers 0 to `max` (R181). -/
def byteWidth (max : Nat) : Nat :=
  if max < 256 then 1 else if max < 65536 then 2 else if max < 16777216 then 3 else if max < 4294967296 then 4 else 5

/-- A number whose stated range ends at `max` (R181). -/
def num (max v : Nat) : List Byte := leBytes (byteWidth max) v

/-- A signed number in `n` bytes, in two's complement (12). -/
def leSigned (n : Nat) (v : Int) : List Byte := leBytes n (v % (2 ^ (8 * n) : Nat)).toNat

/-- An optional field: a byte 0 where it is absent, a byte 1 before its bytes where it is present (R181). -/
def optional {α : Type} (f : α → List Byte) : Option α → List Byte
  | none => [0#8]
  | some v => 1#8 :: f v

/-- The decimal digit a character codes: 30h to 39h (12). -/
def digitOf (b : Byte) : Option Nat :=
  if 48 ≤ b.toNat ∧ b.toNat ≤ 57 then some (b.toNat - 48) else none

/-- The digits that characters code, where every one is a digit. -/
def digitsOf : List Byte → Option (List Nat)
  | [] => some []
  | b :: bs =>
    match digitOf b, digitsOf bs with
    | some d, some ds => some (d :: ds)
    | _, _ => none

/-- The number that digits spell, most significant digit first. -/
def digitsNat (ds : List Nat) : Nat := ds.foldl (fun n d => 10 * n + d) 0

/-- The number three digit characters spell. -/
def verifyValueOf (bs : List Byte) : Option Nat := (digitsOf bs).map digitsNat

/-- A verify value as three digit characters. -/
def verifyBytes (v : Nat) : List Byte :=
  [BitVec.ofNat 8 (48 + v / 100 % 10), BitVec.ofNat 8 (48 + v / 10 % 10), BitVec.ofNat 8 (48 + v % 10)]

/-- A hold reference as a number: slot number × 256 + reuse count (R72). -/
def holdRefNat (r : HoldRef) : Nat := r.slot * 256 + r.reuse

/-- The hold reference a number names. -/
def holdRefOf (n : Nat) : HoldRef := { slot := n / 256, reuse := n % 256 }

/-! ## Reading fields -/

/-- A number in `n` bytes. -/
def takeNumber (n : Nat) (bs : List Byte) : Option (Nat × List Byte) :=
  if bs.length < n then none else some (leNat (bs.take n), bs.drop n)

/-- A number whose stated range ends at `max` (R181). -/
def takeNum (max : Nat) (bs : List Byte) : Option (Nat × List Byte) := takeNumber (byteWidth max) bs

/-- `n` bytes as they stand. -/
def takeBytes (n : Nat) (bs : List Byte) : Option (List Byte × List Byte) :=
  if bs.length < n then none else some (bs.take n, bs.drop n)

/-- An optional field (R181). A payload that ends before its presence byte, or inside its bytes, gives none, by which the command
is refused RANGE, also where the field is the last and every required field is there (DESIGN CHOICE, log entry 34). -/
def takeOptional {α : Type} (f : List Byte → Option (α × List Byte)) (bs : List Byte) : Option (Option α × List Byte) :=
  match bs with
  | [] => none
  | b :: rest =>
    if b = 0#8 then some (none, rest)
    else if b = 1#8 then (f rest).map fun p => (some p.1, p.2)
    else none

/-- A card named by number or by index (R170). -/
inductive CardName where
  /-- 16 digit characters -/
  | number (digits : List Byte)
  | index (n : Nat)
deriving DecidableEq, Repr

/-- A card name: a selector byte, 0 for a number and 1 for an index (R181). -/
def takeCardName (bs : List Byte) : Option (CardName × List Byte) :=
  match bs with
  | [] => none
  | b :: rest =>
    if b = 0#8 then (takeBytes 16 rest).map fun p => (.number p.1, p.2)
    else if b = 1#8 then (takeNum 16777215 rest).map fun p => (.index p.1, p.2)
    else none

/-- A till id: store, then lane (R21). -/
def takeTill (bs : List Byte) : Option (TillId × List Byte) := do
  let (store, bs) ← takeNum 65535 bs
  let (lane, bs) ← takeNum 255 bs
  return ({ store := store, lane := lane }, bs)

/-- A till id as it is sent. -/
def tillBytes (t : TillId) : List Byte := num 65535 t.store ++ num 255 t.lane

/-! ## Till requests -/

/-- The byte at an offset, 0 beyond the end. -/
def byteAt (bs : List Byte) (n : Nat) : Nat := (bs.getD n 0#8).toNat

/-- `n` bytes from an offset on. -/
def slice (bs : List Byte) (offset n : Nat) : List Byte := (bs.drop offset).take n

/-- A REQUEST payload decodes when its length is exactly 36 bytes (R180, 12.2). A field whose presence bit is clear is
absent, and bits 22 and 23 of the hold reference field are ignored. -/
def decodeRequest (origin : StoreLink) (p : List Byte) : Option Request :=
  if p.length = 36 then
    let presence := p.getD 2 0#8
    let ref := leNat (slice p 31 3) % 4194304
    some
      { kindCode := byteAt p 0
        channelCode := byteAt p 1
        till := { store := leNat (slice p 4 2), lane := byteAt p 3 }
        seq := leNat (slice p 6 2)
        cardNumber := slice p 8 16
        amount := if presence.getLsbD 0 then some (leNat (slice p 24 4)) else none
        verify := if presence.getLsbD 1 then some (slice p 28 3) else none
        holdRef := if presence.getLsbD 2 then some (holdRefOf ref) else none
        original := if presence.getLsbD 3 then some (leNat (slice p 34 2)) else none
        origin := origin
        payload := p }
  else none

/-- The kinds that require an amount (R21). -/
def needsAmount : TillKind → Bool
  | .activate | .load | .redeem | .hold | .complete => true
  | .inquire | .release | .reverse | .withdraw => false

/-- The kinds that require a hold reference (R21). -/
def needsHoldRef : TillKind → Bool
  | .complete | .release => true
  | .inquire | .activate | .load | .redeem | .hold | .reverse | .withdraw => false

/-- The kinds that require an original sequence (R21). -/
def needsOriginal : TillKind → Bool
  | .reverse | .withdraw => true
  | .inquire | .activate | .load | .redeem | .hold | .complete | .release => false

/-- Whether an amount that is present lies in 1 to 10,000,000 (R22). -/
def amountOk : Option Nat → Bool
  | none => true
  | some a => decide (1 ≤ a) && decide (a ≤ 10000000)

/-- Whether a verify value that is present is three decimal digits (R22). -/
def verifyOk : Option (List Byte) → Bool
  | none => true
  | some bs => (digitsOf bs).isSome

/-- The field check (R22): the request an item carries, and the digits of its card number; nothing where the request is
to be answered BAD_REQUEST. -/
def fieldCheck (r : Request) : Option (TillRequest × List Nat) :=
  match tillKindOf r.kindCode, channelOf r.channelCode, digitsOf r.cardNumber with
  | some kind, some channel, some digits =>
    if (needsAmount kind && r.amount.isNone) || (needsHoldRef kind && r.holdRef.isNone)
        || (needsOriginal kind && r.original.isNone) || !amountOk r.amount || !verifyOk r.verify then none
    else
      some
        ({ kind := kind, channel := channel, till := r.till, seq := r.seq, amount := r.amount,
           verify := r.verify.bind verifyValueOf, holdRef := r.holdRef, original := r.original, origin := r.origin },
         digits)
  | _, _, _ => none

/-! ## Card numbers -/

/-- Twice a digit, less 9 where that exceeds 9 (R1). -/
def doubledDigit (d : Nat) : Nat := if 9 < 2 * d then 2 * d - 9 else 2 * d

/-- The sum of R1 over the first 15 digits, from the left: digits 1, 3, …, 15 are doubled. -/
def checkSum : List Nat → Nat
  | [] => 0
  | [d] => doubledDigit d
  | d :: e :: ds => doubledDigit d + e + checkSum ds

/-- The check digit of the first 15 digits (R1). -/
def checkDigit (first : List Nat) : Nat := (10 - checkSum first % 10) % 10

/-- Whether the check digit of a card number is valid (R1). -/
def checkDigitValid (digits : List Nat) : Bool :=
  decide (digits.getD 15 10 = checkDigit (digits.take 15))

/-- The program prefix of a card number: digits 1 to 6 (1.1). -/
def issuerOf (digits : List Nat) : Nat := digitsNat (digits.take 6)

/-- The serial of a card number: digits 7 to 15 (1.1). -/
def serialOf (digits : List Nat) : Nat := digitsNat ((digits.drop 6).take 9)

/-! ## Card load records -/

/-- A card load record of 24 bytes (12.5). -/
def decodeLoadRecord (bs : List Byte) : LoadRecord :=
  let flags := bs.getD 1 0#8
  { stateCode := byteAt bs 0
    paid := leNat (slice bs 2 4)
    bonus := leNat (slice bs 6 4)
    bonusExpiry := if flags.getLsbD 0 then some (leNat (slice bs 10 2)) else none
    verify := if flags.getLsbD 1 then some (slice bs 12 3) else none }

/-- `n` load records from the start of a LOAD DATA's fields. -/
def decodeLoadRecords : Nat → List Byte → List LoadRecord
  | 0, _ => []
  | n + 1, bs => decodeLoadRecord (bs.take 24) :: decodeLoadRecords n (bs.drop 24)

/-! ## The fields of each management command (R181), in the order of the command's rule -/

/-- A command with one number, whose range ends at `max`. -/
def oneNumber (max : Nat) (bs : List Byte) : Option Nat := (takeNum max bs).map (·.1)

/-- JOURNAL READ: an optional start sequence (R147). Fields without its presence byte are refused RANGE (DESIGN CHOICE, log entry
34). -/
def journalReadFields (bs : List Byte) : Option (Option Nat) :=
  (takeOptional (takeNum 4294967295) bs).map (·.1)

/-- CARD READ, CARD FREEZE, CARD THAW: the card (R170). -/
def cardFields (bs : List Byte) : Option CardName := (takeCardName bs).map (·.1)

/-- A listed value coded by one byte, in a command that refuses an unlisted one RANGE (log entry 9). -/
def takeYesNo (bs : List Byte) : Option (Bool × List Byte) := do
  let (code, bs) ← takeNum 255 bs
  let value ← yesNoOf code
  return (value, bs)

/-- The fields of CARD WRITE (R110): the card, then state, P, B, bonus expiry, verify value, verify failures. -/
def cardWriteFields (bs : List Byte) : Option (CardName × CardWriteFields) := do
  let (card, bs) ← takeCardName bs
  let (code, bs) ← takeNum 255 bs
  let state ← cardStateOf code
  let (paid, bs) ← takeNum 2147483647 bs
  let (bonus, bs) ← takeNum 10000000 bs
  let (expiry, bs) ← takeOptional (takeNum 65535) bs
  let (verify, bs) ← takeOptional (takeBytes 3) bs
  let (failures, _) ← takeNum 3 bs
  return (card,
    { state := state, paid := paid, bonus := bonus, bonusExpiry := expiry, verify := verify, verifyFailures := failures })

/-- The fields of CARD RESTORE (R112): the card index and one load record. -/
def cardRestoreFields (bs : List Byte) : Option (Nat × LoadRecord) := do
  let (card, bs) ← takeNum 16777215 bs
  let (record, _) ← takeBytes 24 bs
  return (card, decodeLoadRecord record)

/-- The fields of WATCH SET (R115, R116). The span is a number in 2 bytes (12.6). -/
structure WatchSetFields where
  slot : Nat
  localEnable : Option Bool
  globalEnable : Option Bool
  base : Nat
  span : Nat
  kinds : BitVec 8
  /-- the action byte -/
  action : Nat
  timeout : Option Nat
deriving DecidableEq, Repr

/-- The fields of WATCH SET (R115, R116). Fields that end before the presence byte of the timeout, or inside the timeout, are refused
RANGE (DESIGN CHOICE, log entry 34). -/
def watchSetFields (bs : List Byte) : Option WatchSetFields := do
  let (slot, bs) ← takeNum 3 bs
  let (localCode, bs) ← takeNum 255 bs
  let (globalCode, bs) ← takeNum 255 bs
  let (base, bs) ← takeNum 16777215 bs
  let (span, bs) ← takeNum 4096 bs
  let (kinds, bs) ← takeNum 255 bs
  let (action, bs) ← takeNum 255 bs
  let (timeout, _) ← takeOptional (takeNum 60) bs
  return { slot := slot, localEnable := yesNoOf localCode, globalEnable := yesNoOf globalCode, base := base, span := span,
           kinds := BitVec.ofNat 8 kinds, action := action, timeout := timeout }

/-- The fields of WATCH RELEASE (R122). -/
structure WatchReleaseFields where
  parkId : Nat
  /-- the action byte: 0 allow, 1 deny -/
  action : Nat
  card : Nat
  till : TillId
  seq : Nat
deriving DecidableEq, Repr

/-- The fields of WATCH RELEASE (R122). -/
def watchReleaseFields (bs : List Byte) : Option WatchReleaseFields := do
  let (parkId, bs) ← takeNum 15 bs
  let (action, bs) ← takeNum 255 bs
  let (card, bs) ← takeNum 16777215 bs
  let (till, bs) ← takeTill bs
  let (seq, _) ← takeNum 65535 bs
  return { parkId := parkId, action := action, card := card, till := till, seq := seq }

/-- The fields of PROGRAM WRITE (R4, R5): the program number, then every setting. The last part says whether the two
yes-or-no settings hold a listed code. -/
def programWriteFields (bs : List Byte) : Option (Nat × Settings × Bool) := do
  let (program, bs) ← takeNum 31 bs
  let (issuer, bs) ← takeNum 999999 bs
  let (firstSerial, bs) ← takeNum 999999999 bs
  let (serialCount, bs) ← takeNum 16777216 bs
  let (tableBase, bs) ← takeNum 16777215 bs
  let (maxBalance, bs) ← takeNum 10000000 bs
  let (minLoad, bs) ← takeNum 10000000 bs
  let (bonusCeiling, bs) ← takeNum 10000000 bs
  let (tipTolerance, bs) ← takeNum 5000 bs
  let (holdLifetime, bs) ← takeNum 10080 bs
  let (holdsPerCard, bs) ← takeNum 8 bs
  let (dayCountLimit, bs) ← takeNum 255 bs
  let (dayAmountLimit, bs) ← takeNum 10000000 bs
  let (partialCode, bs) ← takeNum 255 bs
  let (remoteCode, _) ← takeNum 255 bs
  return (program,
    { issuer := issuer, firstSerial := firstSerial, serialCount := serialCount, tableBase := tableBase,
      maxBalance := maxBalance, minLoad := minLoad, bonusCeiling := bonusCeiling, tipTolerance := tipTolerance,
      holdLifetime := holdLifetime, holdsPerCard := holdsPerCard, dayCountLimit := dayCountLimit,
      dayAmountLimit := dayAmountLimit, partialAllowed := (yesNoOf partialCode).getD false,
      verifyRemote := (yesNoOf remoteCode).getD false },
    (yesNoOf partialCode).isSome && (yesNoOf remoteCode).isSome)

/-- The fields of PROGRAM STATE (R7): the program number and the target's code. -/
def programStateFields (bs : List Byte) : Option (Nat × Nat) := do
  let (program, bs) ← takeNum 31 bs
  let (target, _) ← takeNum 255 bs
  return (program, target)

/-- The fields of PROMOTION WRITE (R88, R89): the entry number, then the fields but the state. -/
def promotionWriteFields (bs : List Byte) : Option (Nat × Promotion) := do
  let (entry, bs) ← takeNum 63 bs
  let (mask, bs) ← takeNumber 4 bs
  let (trigger, bs) ← takeNum 10000000 bs
  let (rate, bs) ← takeNum 10000 bs
  let (cap, bs) ← takeNum 10000000 bs
  let (startDay, bs) ← takeNum 65535 bs
  let (endDay, bs) ← takeNum 65535 bs
  let (lifetime, _) ← takeNum 3650 bs
  return (entry,
    { enabled := false, mask := BitVec.ofNat 32 mask, trigger := trigger, rate := rate, cap := cap, startDay := startDay,
      endDay := endDay, lifetime := lifetime })

/-- The fields of LOAD OPEN (R172): the program, the start serial, the direction's code. -/
def loadOpenFields (bs : List Byte) : Option (Nat × Nat × Nat) := do
  let (program, bs) ← takeNum 31 bs
  let (serial, bs) ← takeNum 999999999 bs
  let (direction, _) ← takeNum 255 bs
  return (program, serial, direction)

/-- The fields of PACE SET (R163): the link choice, then the five settings. -/
def paceSetFields (bs : List Byte) : Option (Nat × PacerSettings) := do
  let (choice, bs) ← takeNum 255 bs
  let (highMark, bs) ← takeNum 64 bs
  let (lowMark, bs) ← takeNum 63 bs
  let (pauseTime, bs) ← takeNum 255 bs
  let (gapTime, bs) ← takeNum 255 bs
  let (pauseCount, _) ← takeNum 15 bs
  return (choice,
    { highMark := highMark, lowMark := lowMark, pauseTime := pauseTime, gapTime := gapTime, pauseCount := pauseCount })

end Sys2Proof.Machine
end

