-- ==== Sys2Proof/Machine/Wire.lean ====
section
/-!
DEFINITION. The parcel on the line: header, header check (R156, R157) and payload check (R158).
-/

namespace Sys2Proof.Machine

/-! ## The header check -/

/-- The codes of header bits 0 to 23 (R156). -/
def headerCodes : List Nat :=
  [3, 5, 6, 7, 9, 10, 11, 12, 13, 14, 15, 17, 18, 19, 20, 21, 22, 23, 24, 25, 26, 27, 28, 29]

/-- The XOR of the codes of the bits of `h` that are 1, bit 0 taking the first code of the list. -/
def xorOfCodes (h : Nat) : List Nat → Nat
  | [] => 0
  | c :: cs => (if h % 2 = 1 then c else 0) ^^^ xorOfCodes (h / 2) cs

/-- Check bits 0 to 4 of a header (R156). -/
def checkBits (h : Nat) : Nat := xorOfCodes h headerCodes

/-- How many of the low `n` bits are 1. -/
def onesIn : Nat → Nat → Nat
  | 0, _ => 0
  | n + 1, v => v % 2 + onesIn n (v / 2)

/-- The parity bit of a header and its check bits (R156). -/
def parityBit (h check : Nat) : Nat := (onesIn 24 h + onesIn 5 check) % 2

/-- Byte 3 of a header as it is sent (R156). -/
def headerCheckByte (h : Nat) : Nat := checkBits h + 32 * parityBit h (checkBits h)

/-- The header bit that has a code. -/
def headerBitOf (code : Nat) : Nat → List Nat → Option Nat
  | _, [] => none
  | i, c :: cs => if c = code then some i else headerBitOf code (i + 1) cs

/-- The result of the header check (R157). -/
inductive HeaderResult where
  | clean (h : Nat)
  | corrected (h : Nat)
  | uncorrectable
deriving DecidableEq, Repr

/-- The header check on receive (R157): the 24 header bits and byte 3, of which bits 6 and 7 are ignored. -/
def checkHeader (h byte3 : Nat) : HeaderResult :=
  let received := byte3 % 32
  let syndrome := checkBits h ^^^ received
  let overall := (onesIn 24 h + onesIn 5 received + byte3 / 32 % 2) % 2
  if overall = 0 then
    if syndrome = 0 then .clean h else .uncorrectable
  else if syndrome = 0 ∨ syndrome = 1 ∨ syndrome = 2 ∨ syndrome = 4 ∨ syndrome = 8 ∨ syndrome = 16 then .corrected h
  else
    match headerBitOf syndrome 0 headerCodes with
    | some i => .corrected (h ^^^ 2 ^ i)
    | none => .uncorrectable

/-! ## The header's fields (12.1) -/

/-- The header bits of a kind, a return link and a payload length. -/
def headerOf (kind ret length : Nat) : Nat := kind + 64 * ret + 256 * length

/-- The kind field: bits 0 to 5 of byte 0. -/
def headerKind (h : Nat) : Nat := h % 64

/-- The return link field: bits 6 and 7 of byte 0. -/
def headerReturn (h : Nat) : Nat := h / 64 % 4

/-- The payload length field: bytes 1 and 2. -/
def headerLength (h : Nat) : Nat := h / 256

/-- Parcel kind codes (12.1). -/
def kindIdle : Nat := 0x00
/-- Parcel kind code of REQUEST (12.1). -/
def kindRequest : Nat := 0x01
/-- Parcel kind code of ANSWER (12.1). -/
def kindAnswer : Nat := 0x02
/-- Parcel kind code of MGMT (12.1). -/
def kindMgmt : Nat := 0x03
/-- Parcel kind code of MGMT_ANSWER (12.1). -/
def kindMgmtAnswer : Nat := 0x04
/-- Parcel kind code of NOTICE (12.1). -/
def kindNotice : Nat := 0x05
/-- Parcel kind code of PAUSE (12.1). -/
def kindPause : Nat := 0x06

/-! ## The payload check -/

/-- One bit of the payload check (R158, step 3). -/
def crcBit (register : BitVec 16) (bit : Bool) : BitVec 16 :=
  if bit != register.msb then (register <<< 1) ^^^ 0x1021#16 else register <<< 1

/-- The low `n` bits of a number, least significant first. -/
def lowBits : Nat → Nat → List Bool
  | 0, _ => []
  | n + 1, v => decide (v % 2 = 1) :: lowBits n (v / 2)

/-- One payload byte of the payload check, least significant bit first (R158, step 2). -/
def crcByte (register : BitVec 16) (b : Byte) : BitVec 16 := (lowBits 8 b.toNat).foldl crcBit register

/-- The payload check value (R158). -/
def payloadCheck (payload : List Byte) : BitVec 16 := payload.foldl crcByte 0xFFFF#16

/-! ## Whole parcels -/

/-- A parcel as it is sent (R155): header, header check, payload, and the payload check where the payload is not empty. -/
def encodeParcel (kind ret : Nat) (payload : List Byte) : List Byte :=
  let h := headerOf kind ret payload.length
  leBytes 3 h ++ [BitVec.ofNat 8 (headerCheckByte h)] ++ payload
    ++ (if payload.isEmpty then [] else leBytes 2 (payloadCheck payload).toNat)

/-- What the receive checks make of a parcel's bytes, before its kind is looked at: the header in use and whether it was
corrected, or the check that failed (R159, checks 1 and 2). -/
inductive Framing where
  | headerBad
  | lengthBad (corrected : Bool)
  | framed (corrected : Bool) (h : Nat)
deriving DecidableEq, Repr

/-- Receive checks 1 and 2 (R159). A parcel shorter than its header cannot pass the header check (log entry 6). -/
def frame (bytes : List Byte) : Framing :=
  if bytes.length < 4 then .headerBad
  else
    let sizeOk (h : Nat) : Bool :=
      decide (headerLength h ≤ payloadMax)
        && decide (bytes.length = if headerLength h = 0 then 4 else headerLength h + 6)
    match checkHeader (leNat (bytes.take 3)) (byteAt bytes 3) with
    | .uncorrectable => .headerBad
    | .clean h => if sizeOk h then .framed false h else .lengthBad false
    | .corrected h => if sizeOk h then .framed true h else .lengthBad true

/-- The payload of a framed parcel. -/
def payloadOf (h : Nat) (bytes : List Byte) : List Byte := slice bytes 4 (headerLength h)

/-- Receive check 4 (R159): the two bytes after the payload hold its check value, low byte first. -/
def payloadOk (h : Nat) (bytes : List Byte) : Bool :=
  headerLength h == 0
    || leNat (slice bytes (4 + headerLength h) 2) == (payloadCheck (payloadOf h bytes)).toNat

end Sys2Proof.Machine
end

