-- ==== Sys2Proof/Machine/Layouts.lean ====
section
/-!
DEFINITION. The payloads the part sends: answers (12.2), management answers (12.3), notices (R181), journal entries (12.4)
and card records (12.5). "In every payload and record the part sends, an absent field is sent as zero bytes, its presence
bit is clear, and unused bits and bytes are 0" (R180).
-/

namespace Sys2Proof.Machine

/-- One byte holding a number. -/
def oneByte (n : Nat) : List Byte := leBytes 1 n

/-- The answer payload, 34 bytes (12.2). -/
def encodeAnswer (a : AnswerRecord) : List Byte :=
  let b := a.balances
  let expiry := b.bind (·.bonusExpiry)
  oneByte a.kindCode ++ oneByte (tillOutcomeCode a.outcome)
    ++ oneByte (flagBits [a.repeated, a.approved.isSome, b.isSome, expiry.isSome, a.holdRef.isSome, a.journalSeq.isSome])
    ++ oneByte a.till.lane ++ leBytes 2 a.till.store ++ leBytes 2 a.seq
    ++ oneByte ((b.map fun x => cardStateCode x.state).getD 0)
    ++ leBytes 4 (a.approved.getD 0)
    ++ leBytes 4 ((b.map (·.paid)).getD 0) ++ leBytes 4 ((b.map (·.bonus)).getD 0) ++ leBytes 4 ((b.map (·.held)).getD 0)
    ++ leBytes 2 (expiry.getD 0) ++ leBytes 3 ((a.holdRef.map holdRefNat).getD 0) ++ leBytes 4 (a.journalSeq.getD 0)

/-- The MGMT_ANSWER payload (12.3, R181): a REFUSED answer carries no data. -/
def encodeMgmtAnswer (a : MgmtAnswer) : List Byte :=
  oneByte a.code ++ leBytes 2 a.tag ++
    match a.result with
    | .done data => oneByte 0 ++ oneByte 0 ++ data
    | .refused reason => oneByte 1 ++ oneByte (reasonCode reason)

/-- The bytes of a MGMT_ANSWER payload that a DONE answer's data may fill (R155, 12.3). -/
def answerRoom : Nat := payloadMax - 5

/-- The NOTICE payload, 9 bytes (R181). -/
def encodeNotice (n : Notice) : List Byte :=
  [n.pending, n.qualifiers, n.enabled] ++ leBytes 2 n.day ++ leBytes 4 n.minute

/-- A journal entry as JOURNAL READ returns it, 64 bytes (12.4). -/
def encodeJournalEntry (e : JournalEntry) : List Byte :=
  let till := e.till.map (·.1)
  leBytes 4 e.seq ++ oneByte (journalKindCode e.kind)
    ++ oneByte (flagBits [e.till.isSome, e.holdRef.isSome, e.promotion.isSome, e.restore])
    ++ leBytes 2 e.day ++ leBytes 4 e.minute ++ leBytes 3 e.card ++ oneByte e.program
    ++ oneByte ((till.map (·.lane)).getD 0) ++ leBytes 2 ((till.map (·.store)).getD 0)
    ++ leBytes 2 ((e.till.map (·.2)).getD 0)
    ++ leSigned 4 e.paidDelta ++ leSigned 4 e.bonusDelta ++ leSigned 4 e.heldDelta
    ++ leBytes 4 e.forfeited ++ leBytes 4 e.paid ++ leBytes 4 e.bonus ++ leBytes 4 e.held
    ++ leBytes 3 ((e.holdRef.map holdRefNat).getD 0) ++ oneByte (e.promotion.getD 0) ++ leBytes 11 0

/-- A recent-reference slot of a card record, 29 bytes (12.5). -/
def encodeRecent (r : RecentRef) : List Byte :=
  leBytes 2 r.till.store ++ oneByte r.till.lane ++ leBytes 2 r.seq ++ oneByte (tillKindCode r.kind)
    ++ oneByte (flagBits [r.isPartial, r.reversed, r.holdRef.isSome, r.promotion.isSome])
    ++ leBytes 4 r.approved ++ leBytes 4 r.bonusPart ++ leBytes 4 r.paidPart ++ leBytes 2 r.day
    ++ leBytes 3 ((r.holdRef.map holdRefNat).getD 0) ++ oneByte (r.promotion.getD 0) ++ leBytes 4 r.bonusGranted

/-- The `n` recent-reference slots of a card record: the list, oldest first; the rest are 0 (12.5). -/
def encodeRecents : Nat → List RecentRef → List Byte
  | 0, _ => []
  | n + 1, [] => leBytes 29 0 ++ encodeRecents n []
  | n + 1, r :: rs => encodeRecent r ++ encodeRecents n rs

/-- A card record as CARD READ and LOAD FETCH return it, 146 bytes (12.5). -/
def encodeCardRecord (r : CardRecord) : List Byte :=
  oneByte r.program ++ oneByte (cardStateCode r.state)
    ++ oneByte (flagBits [r.bonusExpiry.isSome, r.verify.isSome, r.frozen]) ++ oneByte r.verifyFailures
    ++ leBytes 4 r.paid ++ leBytes 4 r.bonus ++ leBytes 4 r.held ++ leBytes 2 (r.bonusExpiry.getD 0)
    ++ oneByte r.openHolds ++ leBytes 2 r.lastDay ++ oneByte r.dayCount ++ leBytes 4 r.dayAmount
    ++ (match r.verify with | some v => verifyBytes v | none => leBytes 3 0)
    ++ oneByte r.recents.length ++ encodeRecents recentSize r.recents

/-- The size of a card record as CARD READ and LOAD FETCH return it (12.5). -/
def cardRecordBytes : Nat := 146

/-- The size of a journal entry as JOURNAL READ returns it (12.4). -/
def journalEntryBytes : Nat := 64

/-- The kind code, return link and payload a parcel is sent with (R155). -/
def parcelParts (l : Link) : OutParcel → Nat × Nat × List Byte
  | .answer a => (kindAnswer, (match l with | .store k => storeLinkCode k | .central => 0), encodeAnswer a)
  | .forwardedAnswer ret payload => (kindAnswer, storeLinkCode ret, payload)
  | .pause time => (kindPause, 0, oneByte time)
  | .forwardedRequest ret payload => (kindRequest, storeLinkCode ret, payload)
  | .mgmtAnswer a => (kindMgmtAnswer, 0, encodeMgmtAnswer a)
  | .notice n => (kindNotice, 0, encodeNotice n)

/-- The bytes a parcel is sent as on a link (R155, R156, R158). -/
def parcelBytes (l : Link) (p : OutParcel) : List Byte :=
  encodeParcel (parcelParts l p).1 (parcelParts l p).2.1 (parcelParts l p).2.2

end Sys2Proof.Machine
end

