-- ==== Sys2Proof/Machine/Updates.lean ====
section
/-!
DEFINITION. One named update for each field of the state. Sys2Proof/Laws/State.lean says what each leaves alone.
-/

namespace Sys2Proof.Machine

/-- The state with `pending` replaced. -/
def State.withPending (s : State) (v : List Instr) : State := { s with pending := v }

/-- The state with `resetN` replaced. -/
def State.withResetN (s : State) (v : Bool) : State := { s with resetN := v }

/-- The state with `tblen` replaced. -/
def State.withTblen (s : State) (v : Bool) : State := { s with tblen := v }

/-- The state with `resetPending` replaced. -/
def State.withResetPending (s : State) (v : Bool) : State := { s with resetPending := v }

/-- The state with `stores` replaced. -/
def State.withStores (s : State) (v : StoreUnits) : State := { s with stores := v }

/-- The state with `central` replaced. -/
def State.withCentral (s : State) (v : CentralUnit) : State := { s with central := v }

/-- The state with `dispatcher` replaced. -/
def State.withDispatcher (s : State) (v : Dispatcher) : State := { s with dispatcher := v }

/-- The state with `busy` replaced. -/
def State.withBusy (s : State) (v : List BusyEntry) : State := { s with busy := v }

/-- The state with `programs` replaced. -/
def State.withPrograms (s : State) (v : Tab ProgramEntry) : State := { s with programs := v }

/-- The state with `promotions` replaced. -/
def State.withPromotions (s : State) (v : Tab Promotion) : State := { s with promotions := v }

/-- The state with `slots` replaced. -/
def State.withSlots (s : State) (v : Tab HoldSlot) : State := { s with slots := v }

/-- The state with `freeList` replaced. -/
def State.withFreeList (s : State) (v : List Nat) : State := { s with freeList := v }

/-- The state with `expiryList` replaced. -/
def State.withExpiryList (s : State) (v : List Nat) : State := { s with expiryList := v }

/-- The state with `time` replaced. -/
def State.withTime (s : State) (v : Timebase) : State := { s with time := v }

/-- The state with `cache` replaced. -/
def State.withCache (s : State) (v : Tab CacheSet) : State := { s with cache := v }

/-- The state with `tmc` replaced. -/
def State.withTmc (s : State) (v : Tmc) : State := { s with tmc := v }

/-- The state with `cards` replaced. -/
def State.withCards (s : State) (v : Tab CardRecord) : State := { s with cards := v }

/-- The state with `ring` replaced. -/
def State.withRing (s : State) (v : Tab JournalEntry) : State := { s with ring := v }

/-- The state with `journal` replaced. -/
def State.withJournal (s : State) (v : Journal) : State := { s with journal := v }

/-- The state with `watch` replaced. -/
def State.withWatch (s : State) (v : WatchUnit) : State := { s with watch := v }

/-- The state with `mgmt` replaced. -/
def State.withMgmt (s : State) (v : Mgmt) : State := { s with mgmt := v }

/-- The state with `powerOns` replaced. -/
def State.withPowerOns (s : State) (v : Nat) : State := { s with powerOns := v }

end Sys2Proof.Machine
end

