-- ==== Sys2Proof/Machine/Ops.lean ====
section
/-!
DEFINITION. The operations the commands share: handing parcels to a link unit, raising notices, appending to the journal,
queueing DRAM transfers, the counts of a program, the Card Cache, the Busy Card List and the hand-over of an item.
-/

namespace Sys2Proof.Machine

/-! ## Link units -/

/-- The unit of a store link. -/
def storeUnitOf (u : StoreUnits) : StoreLink → StoreUnit
  | .s0 => u.u0 | .s1 => u.u1 | .s2 => u.u2 | .s3 => u.u3

/-- The units with that of one store link replaced. -/
def setStoreUnitOf (u : StoreUnits) (l : StoreLink) (v : StoreUnit) : StoreUnits :=
  match l with
  | .s0 => { u with u0 := v }
  | .s1 => { u with u1 := v }
  | .s2 => { u with u2 := v }
  | .s3 => { u with u3 := v }

/-- The unit of a store link. -/
def State.storeUnit (s : State) (l : StoreLink) : StoreUnit := storeUnitOf s.stores l

/-- The state with the unit of a store link replaced. -/
def State.setStoreUnit (s : State) (l : StoreLink) (v : StoreUnit) : State :=
  s.withStores (setStoreUnitOf s.stores l v)

/-- The common part of a link's unit. -/
def State.linkUnit (s : State) : Link → LinkUnit
  | .store l => (s.storeUnit l).link
  | .central => s.central.link

/-- The state with the common part of a link's unit replaced. -/
def State.setLinkUnit (s : State) (l : Link) (v : LinkUnit) : State :=
  match l with
  | .store k => s.setStoreUnit k { s.storeUnit k with link := v }
  | .central => s.withCentral { s.central with link := v }

/-- The parcels whose dropping a link unit counts (R153, R154): on a store link every ANSWER, on C every MGMT_ANSWER and
NOTICE. -/
def countedDrop : OutParcel → Bool
  | .answer _ => true
  | .forwardedAnswer _ _ => true
  | .pause _ => false
  | .forwardedRequest _ _ => false
  | .mgmtAnswer _ => true
  | .notice _ => true

/-- A count of 0 to 65,535 that stays at 65,535, risen by `n` (R119, R134, R153). -/
def saturating (count n : Nat) : Nat := min saturation (count + n)

/-- Hand a parcel to a link unit (R155): it waits to be sent while the link is UP, and is dropped while it is DOWN (R153,
R154). -/
def handTo (u : LinkUnit) (p : OutParcel) : LinkUnit :=
  if u.up then { u with out := u.out ++ [p] }
  else if countedDrop p then { u with dropped := saturating u.dropped 1 }
  else u

/-- Hand a parcel to the unit of a store link. -/
def handStore (l : StoreLink) (p : OutParcel) (s : State) : State :=
  s.setLinkUnit (.store l) (handTo (s.linkUnit (.store l)) p)

/-- Hand a parcel to the Central Link Unit. -/
def handCentral (p : OutParcel) (s : State) : State :=
  s.setLinkUnit .central (handTo (s.linkUnit .central) p)

/-- Answer a management command (R166). -/
def reply (code tag : Nat) (result : MgmtResult) (s : State) : State :=
  handCentral (.mgmtAnswer { code := code, tag := tag, result := result }) s

/-- A command is started (R166): its tag and code join the record of commands in flight. -/
def startCommand (code tag : Nat) (s : State) : State :=
  s.withMgmt { s.mgmt with inFlight := s.mgmt.inFlight ++ [(tag, code)] }

/-- A started command's tag leaves the record of commands in flight. -/
def endCommand (code tag : Nat) (s : State) : State :=
  s.withMgmt { s.mgmt with inFlight := s.mgmt.inFlight.erase (tag, code) }

/-- A started command is answered (R166). -/
def replyStarted (code tag : Nat) (result : MgmtResult) (s : State) : State :=
  reply code tag result (endCommand code tag s)

/-! ## Command codes (12.3) of the started commands, whose answers other blocks cause -/

/-- The code of CARD READ (12.3). -/
def codeCardRead : Nat := 0x02
/-- The code of CARD FREEZE (12.3). -/
def codeCardFreeze : Nat := 0x12
/-- The code of CARD THAW (12.3). -/
def codeCardThaw : Nat := 0x13
/-- The code of HOLD DROP (12.3). -/
def codeHoldDrop : Nat := 0x1C
/-- The code of CARD WRITE (12.3). -/
def codeCardWrite : Nat := 0x25
/-- The code of CARD RESTORE (12.3). -/
def codeCardRestore : Nat := 0x26
/-- The code of LOAD CLEAR (12.3). -/
def codeLoadClear : Nat := 0x2B

/-! ## Notices -/

/-- The NOTICE parcel as the state stands (R177). -/
def noticeOf (s : State) : Notice :=
  { pending := s.mgmt.pending, qualifiers := s.mgmt.qualifiers, enabled := s.mgmt.enabled, day := s.mgmt.day,
    minute := s.time.minutes }

/-- Hand a NOTICE parcel to the Central Link Unit (R177). -/
def sendNotice (s : State) : State := handCentral (.notice (noticeOf s)) s

/-- Raise a notice kind, with or without the overflow qualifier (R176); where the kind is enabled and was not pending, or the
qualifier is newly set, a NOTICE parcel is handed to the Central Link Unit (R177). -/
def raiseNotice (k : NoticeKind) (overflow : Bool) (s : State) : State :=
  let bit := bit8 (noticeBit k)
  let qualifier := if overflow then overflowMask k else 0#8
  let newKind := !noticeIn k s.mgmt.pending
  let newQualifier := s.mgmt.qualifiers ||| qualifier != s.mgmt.qualifiers
  let raised := s.withMgmt { s.mgmt with pending := s.mgmt.pending ||| bit, qualifiers := s.mgmt.qualifiers ||| qualifier }
  if noticeIn k s.mgmt.enabled && (newKind || newQualifier) then sendNotice raised else raised

/-! ## DRAM transfers -/

/-- Queue a DRAM write (R135). -/
def queueWrite (body : WriteBody) (s : State) : State :=
  s.withTmc
    { s.tmc with writes := s.tmc.writes ++ [{ id := s.tmc.nextWrite, body := body }], nextWrite := s.tmc.nextWrite + 1 }

/-- A queued write stores to the address a read reads. -/
def sameAddress (w : WriteBody) (r : ReadBody) : Bool :=
  match w, r with
  | .card index _ _, .fetch card => index == card
  | .card index _ _, .direct card => index == card
  | .card index _ _, .window card => index == card
  | .card _ _ _, .journal _ => false
  | .journal position _, .journal p => position == p
  | .journal _ _, .fetch _ => false
  | .journal _ _, .direct _ => false
  | .journal _ _, .window _ => false

/-- The last queued write of the address a read reads. -/
def lastWriteTo (body : ReadBody) (s : State) : Option WriteBody :=
  ((s.tmc.writes.filter fun w => sameAddress w.body body).getLast?).map (·.body)

/-- Queue a DRAM read (R134, R135). -/
def queueRead (body : ReadBody) (s : State) : State :=
  s.withTmc
    { s.tmc with reads := s.tmc.reads ++ [{ body := body, after := s.tmc.nextWrite, behind := lastWriteTo body s }] }

/-- The write that the oldest queued read of a kind was queued behind (R135). -/
def writeBehind (body : ReadBody) (s : State) : Option WriteBody :=
  (s.tmc.reads.find? fun r => decide (r.body = body)).bind (·.behind)

/-- The card record a queued read delivers (R135): what the write it was queued behind stores, also where a later write of the
address has completed since; with no such write, what DRAM holds at its completion, later writes included (DESIGN CHOICE, log
entry 53). -/
def readCard (body : ReadBody) (card : Nat) (s : State) : Option CardRecord :=
  match writeBehind body s with
  | some (.card _ r _) => some r
  | some (.journal _ _) => Tab.find s.cards card
  | none => Tab.find s.cards card

/-- The journal entry a queued read of a ring position delivers (R135), as above. -/
def readEntry (position : Nat) (s : State) : Option JournalEntry :=
  match writeBehind (.journal position) s with
  | some (.journal _ e) => some e
  | some (.card _ _ _) => Tab.find s.ring position
  | none => Tab.find s.ring position

/-- A card index is on the quarantine list (R136). -/
def State.quarantined (s : State) (card : Nat) : Bool := s.tmc.quarantine.contains card

/-! ## The journal -/

/-- The journal's free count (R143). -/
def journalFree (s : State) : Nat := ringSize - s.journal.occupancy

/-- The successor of a sequence (R142). -/
def successor (n : Nat) : Nat := if n = counterMax then 1 else n + 1

/-- How many successor steps lead from one sequence to another (R142). -/
def stepsFrom (a b : Nat) : Nat := (b + counterMax - a) % counterMax

/-- A sequence is at or after the oldest (R142). -/
def atOrAfterOldest (s : State) (n : Nat) : Bool := decide (stepsFrom s.journal.oldest n < 2147483648)

/-- How many entries are readable: those from the oldest through the written mark (R144). -/
def readableCount (s : State) : Nat :=
  if s.journal.written = 0 then 0
  else if stepsFrom s.journal.oldest s.journal.written < s.journal.occupancy then
    stepsFrom s.journal.oldest s.journal.written + 1
  else 0

/-- The occupancy whose reaching raises JOURNAL_HIGH (R146). -/
def journalHighMark : Nat := 786432
/-- The occupancy whose reaching raises JOURNAL_FULL (R146). -/
def journalFullMark : Nat := 1015808

/-- Append an entry, which takes the next sequence (R142, R143), and raise the notices of R146. -/
def appendJournal (e : JournalEntry) (s : State) : State :=
  let j := s.journal
  let appended := s.withJournal
    { j with
      next := successor j.next
      oldest := if j.occupancy = 0 then j.next else j.oldest
      newest := j.next
      occupancy := j.occupancy + 1
      position := (j.position + 1) % ringSize }
  let queued := queueWrite (.journal j.position { e with seq := j.next }) appended
  if j.occupancy + 1 = journalHighMark then raiseNotice .journalHigh false queued
  else if j.occupancy + 1 = journalFullMark then raiseNotice .journalFull false queued
  else queued

/-! ## Program counts -/

/-- Write a Program Table entry. -/
def State.setProgram (s : State) (p : Nat) (e : ProgramEntry) : State :=
  s.withPrograms (Tab.set ProgramEntry.initial s.programs p e)

/-- An item of a program joins a waiting list of the Card Serialiser (R11). -/
def countIn (p : Option Nat) (s : State) : State :=
  match p with
  | none => s
  | some n => s.setProgram n { s.program n with inFlight := (s.program n).inFlight + 1 }

/-- An item of a program leaves the Card Serialiser (R11); a DRAINING program whose in-flight count reaches 0 takes its drain
target (R8). -/
def countOut (p : Option Nat) (s : State) : State :=
  match p with
  | none => s
  | some n =>
    let e := s.program n
    let left := { e with inFlight := e.inFlight - 1 }
    if e.status = .draining ∧ left.inFlight = 0 then
      s.setProgram n { left with status := e.drainTarget.getD .pass, drainTarget := none }
    else s.setProgram n left

/-- A hold of a program opens (R10). -/
def countHold (p : Nat) (s : State) : State :=
  s.setProgram p { s.program p with openHolds := (s.program p).openHolds + 1 }

/-- A hold of a program closes (R10). -/
def uncountHold (p : Nat) (s : State) : State :=
  s.setProgram p { s.program p with openHolds := (s.program p).openHolds - 1 }

/-- A card index lies in a program's card index range (R6). -/
def inRange (c : Settings) (card : Nat) : Bool :=
  decide (c.tableBase ≤ card) && decide (card < c.tableBase + c.serialCount)

/-- The program that is not OFF whose card index range contains a card index (R11). -/
def programOfCard (s : State) (card : Nat) : Option Nat :=
  (s.programs.find? fun e => decide (e.2.status ≠ .off) && inRange e.2.settings card).map (·.1)

/-! ## The Card Cache -/

/-- The set of a card index (R127). -/
def setOf (card : Nat) : Nat := card % cacheSets

/-- The tag of a card index (R127). -/
def tagOf (card : Nat) : Nat := card / cacheSets

/-- A way of a set. -/
def wayOf (c : CacheSet) (w : Nat) : Way :=
  match w with
  | 0 => c.way0
  | 1 => c.way1
  | 2 => c.way2
  | _ => c.way3

/-- A set with one way replaced. -/
def setWayOf (c : CacheSet) (w : Nat) (v : Way) : CacheSet :=
  match w with
  | 0 => { c with way0 := v }
  | 1 => { c with way1 := v }
  | 2 => { c with way2 := v }
  | _ => { c with way3 := v }

/-- Write a cache set. -/
def State.setCacheSet (s : State) (n : Nat) (c : CacheSet) : State :=
  s.withCache (Tab.set CacheSet.empty s.cache n c)

/-- A way of a card's set. -/
def State.wayAt (s : State) (card w : Nat) : Way := wayOf (s.cacheSet (setOf card)) w

/-- Write a way of a card's set. -/
def State.setWayAt (s : State) (card w : Nat) (v : Way) : State :=
  s.setCacheSet (setOf card) (setWayOf (s.cacheSet (setOf card)) w v)

/-- A way holds a card's record (R127). -/
def wayHolds (v : Way) (card : Nat) : Bool := v.valid && v.tag == tagOf card

/-- The way of its set that holds a card's record (R127). -/
def hitWay (s : State) (card : Nat) : Option Nat :=
  [0, 1, 2, 3].find? fun w => wayHolds (s.wayAt card w) card

/-- The way a fill chooses (R129): from the replacement pointer upward, the first that is not pinned. -/
def chooseWay (c : CacheSet) : Option Nat :=
  ([0, 1, 2, 3].map fun k => (c.pointer + k) % 4).find? fun w => !(wayOf c w).pinned

/-- A way made invalid; its pin stays (R138). -/
def invalidWay (v : Way) : Way := { Way.empty with pinned := v.pinned }

/-- Make invalid any way that holds a card (R136, R138). -/
def invalidateCard (card : Nat) (s : State) : State :=
  match hitWay s card with
  | none => s
  | some w => s.setWayAt card w (invalidWay (s.wayAt card w))

/-- Choose, pin and make invalid a way for a card not in the cache (R129); nothing where all four are pinned. -/
def takeWay (card : Nat) (s : State) : Option (Nat × State) :=
  let c := s.cacheSet (setOf card)
  (chooseWay c).map fun w =>
    (w, s.setCacheSet (setOf card) { setWayOf c w { Way.empty with pinned := true } with pointer := (w + 1) % 4 })

/-! ## The Busy Card List -/

/-- The busy entry of a card (R25). -/
def State.busyOf (s : State) (card : Nat) : Option BusyEntry := s.busy.find? fun e => e.card == card

/-- Change the busy entry of a card. -/
def updateBusy (card : Nat) (f : BusyEntry → BusyEntry) (s : State) : State :=
  s.withBusy (s.busy.map fun e => if e.card = card then f e else e)

/-- The card record a busy entry's decisions read: the record of its pinned way. Where a load write made that way invalid
(R138), the record is undefined (log entry 17). -/
def recordOf (s : State) (e : BusyEntry) : CardRecord :=
  let v := s.wayAt e.card (e.way.getD 0)
  if v.valid then v.record else Config.undefinedCard s.powerOns e.card

/-- Start the fetch of a FETCH_WAIT entry where its set has a way that is not pinned (R28, R130). -/
def startFetch (s : State) (card : Nat) : State :=
  match takeWay card s with
  | none => s
  | some (w, t) =>
    queueRead (.fetch card) (updateBusy card (fun e => { e with state := .fetching, way := some w }) t)

/-- Start the FETCH_WAIT entries of a set, oldest first, while a way of the set is not pinned (R28, R130). -/
def startWaiting (set : Nat) (s : State) : State :=
  ((s.busy.filter fun e => decide (e.state = .fetchWait) && setOf e.card == set).map (·.card)).foldl startFetch s

/-- Free the busy entry of a card (R29): its way is unpinned and keeps what it holds, the blocked set is emptied, and a
FETCH_WAIT entry of the set may start. -/
def freeEntry (card : Nat) (s : State) : State :=
  match s.busyOf card with
  | none => s
  | some e =>
    let removed := s.withBusy (s.busy.filter fun x => x.card != card)
    let unpinned :=
      match e.way with
      | none => removed
      | some w => removed.setWayAt card w { removed.wayAt card w with pinned := false }
    startWaiting (setOf card) (unpinned.withDispatcher { unpinned.dispatcher with blocked := [] })

/-- Free the busy entry of a card where its waiting list is empty, it has no current item and no write is outstanding (R29). -/
def freeIfDone (card : Nat) (s : State) : State :=
  match s.busyOf card with
  | none => s
  | some e => if e.waiting.isEmpty && e.current.isNone && e.writes == 0 then freeEntry card s else s

/-! ## Hand-over -/

/-- The result of handing an item to the Card Serialiser (R26, R27). -/
inductive HandOver where
  | entered
  /-- the card index is on the quarantine list -/
  | quarantined
  /-- the waiting list of the card's entry holds 8 items -/
  | waitingFull
  /-- the Busy Card List holds 256 entries and the card has none -/
  | listFull
deriving DecidableEq, Repr

/-- Make the busy entry of a card with one item (R26, step 3). -/
def newEntry (it : Item) (s : State) : State :=
  let entry (state : EntryState) (way : Option Nat) : BusyEntry :=
    { card := it.card, state := state, current := none, waiting := [it], writes := 0, way := way }
  match hitWay s it.card with
  | some w =>
    let pinned := s.setWayAt it.card w { s.wayAt it.card w with pinned := true }
    pinned.withBusy (pinned.busy ++ [entry .active (some w)])
  | none =>
    match takeWay it.card s with
    | some (w, t) => queueRead (.fetch it.card) (t.withBusy (t.busy ++ [entry .fetching (some w)]))
    | none => s.withBusy (s.busy ++ [entry .fetchWait none])

/-- Hand an item to the Card Serialiser (R26, R27). An item that enters adds 1 to its program's in-flight count (R11). -/
def handOver (it : Item) (s : State) : HandOver × State :=
  if s.quarantined it.card then (.quarantined, s)
  else
    match s.busyOf it.card with
    | some e =>
      if waitingListSize ≤ e.waiting.length then (.waitingFull, s)
      else (.entered, countIn it.program (updateBusy it.card (fun x => { x with waiting := x.waiting ++ [it] }) s))
    | none =>
      if busyListSize ≤ s.busy.length then (.listFull, s)
      else (.entered, countIn it.program (newEntry it s))

/-! ## Reset -/

/-- The blocks take work: no engine reset is under way and RESET_N is not held low (R178). -/
def State.working (s : State) : Bool := s.resetN && !s.resetPending

end Sys2Proof.Machine
end

