-- ==== Sys2Proof/Machine/Decision.lean ====
section
/-!
DEFINITION. What every decision event at a card shares (chapter 2.3, 3.3, 3.5, 3.9, 5.6, 7.2): the roll, the repeat check, the
watch check, the draw and the bonus return, the closing of a hold, the recent references and the answers.
-/

namespace Sys2Proof.Machine

/-! ## Answers -/

/-- The card state and balances of a record, as an answer carries them (R41). -/
def balancesOf (r : CardRecord) : Balances :=
  { state := r.state, paid := r.paid, bonus := r.bonus, held := r.held, bonusExpiry := r.bonusExpiry }

/-- An answer that carries no balances (R41). -/
def bareAnswer (kindCode : Nat) (till : TillId) (seq : Nat) (outcome : TillOutcome) : AnswerRecord :=
  { kindCode := kindCode, outcome := outcome, repeated := false, till := till, seq := seq, approved := none,
    balances := none, holdRef := none, journalSeq := none }

/-- Answer a till request with no balances, on its origin link. -/
def answerBare (t : TillRequest) (outcome : TillOutcome) (s : State) : State :=
  handStore t.origin (.answer (bareAnswer (tillKindCode t.kind) t.till t.seq outcome)) s

/-- Answer a till request that was taken at its card, showing a record, on its origin link (R41). -/
def answerTaken (t : TillRequest) (outcome : TillOutcome) (repeated : Bool) (approved : Option Nat)
    (holdRef : Option HoldRef) (journalSeq : Option Nat) (shown : CardRecord) (s : State) : State :=
  handStore t.origin
    (.answer
      { bareAnswer (tillKindCode t.kind) t.till t.seq outcome with
        repeated := repeated, approved := approved, balances := some (balancesOf shown), holdRef := holdRef,
        journalSeq := journalSeq }) s

/-- What a decision step hands on (R37): the state with everything but the card record settled, the record, and what the
answer says. `shown` is the record the answer's balances show. -/
structure Verdict where
  st : State
  record : CardRecord
  outcome : TillOutcome
  approved : Option Nat
  holdRef : Option HoldRef
  journalSeq : Option Nat
  shown : CardRecord

/-- A decline (R66): the balances as they stand, and nothing else in the answer. -/
def decline (s : State) (r : CardRecord) (o : TillOutcome) : Verdict :=
  { st := s, record := r, outcome := o, approved := none, holdRef := none, journalSeq := none, shown := r }

/-! ## Journal entries and recent references -/

/-- An entry of a kind for a card as its record stands after the change, with no till, no deltas, no hold reference and no
promotion; the sequence is given at the append (R140, R143). -/
def entryFor (kind : JournalKind) (card : Nat) (s : State) (after : CardRecord) : JournalEntry :=
  { seq := 0, kind := kind, day := s.mgmt.day, minute := s.time.minutes, card := card, program := after.program,
    till := none, paidDelta := 0, bonusDelta := 0, heldDelta := 0, forfeited := 0, paid := after.paid,
    bonus := after.bonus, held := after.held, holdRef := none, promotion := none, restore := false }

/-- Add an entry to the tail of a card's recent references; the oldest leaves a list of 4 (R15). -/
def addRecent (x : RecentRef) (l : List RecentRef) : List RecentRef :=
  if recentSize ≤ l.length then l.tail ++ [x] else l ++ [x]

/-- The recent reference of a decision, before the parts its kind fills (R15). -/
def recentFor (t : TillRequest) (day : Nat) (isPartial : Bool) (approved bonusPart paidPart : Nat) : RecentRef :=
  { till := t.till, seq := t.seq, kind := t.kind, isPartial := isPartial, approved := approved, bonusPart := bonusPart,
    paidPart := paidPart, day := day, holdRef := none, promotion := none, bonusGranted := 0, reversed := false }

/-- The recent reference that has a till id and a till sequence (R33, R39, R102); at most one has (R15). -/
def findRecent (till : TillId) (seq : Nat) (l : List RecentRef) : Option RecentRef :=
  l.find? fun x => decide (x.till = till) && x.seq == seq

/-! ## Bonus value -/

/-- Any OPEN or LAPSE_DUE hold of the card has HB above 0 (R14). -/
def holdsBonus (s : State) (card : Nat) : Bool :=
  s.slots.any fun e => e.2.card == card && decide (e.2.state ≠ .free) && decide (0 < e.2.bonusPart)

/-- The bonus expiry after a change (R14): absent when B is 0 and no hold of the card holds bonus, kept otherwise. -/
def expiryKept (bonus : Nat) (held : Bool) (expiry : Option Nat) : Option Nat :=
  if bonus = 0 ∧ held = false then none else expiry

/-- The room below the bonus ceiling (R61, R91). -/
def bonusRoom (ceiling bonus : Nat) : Nat := ceiling - bonus

/-- How much of a bonus return is kept, and the bonus expiry after it (R61). -/
def settleReturn (ret ceiling day : Nat) (r : CardRecord) : Nat × Option Nat :=
  if ret = 0 then (0, r.bonusExpiry)
  else
    match r.bonusExpiry with
    | some e => if day ≤ e then (min ret (bonusRoom ceiling r.bonus), some e) else (0, some e)
    | none => (min ret (bonusRoom ceiling r.bonus), some day)

/-! ## The roll (R97 to R99) -/

/-- The roll would forfeit bonus (R97, step 1): B is above 0 and its expiry lies before the current day. -/
def rollForfeits (day : Nat) (r : CardRecord) : Bool :=
  decide (0 < r.bonus) && match r.bonusExpiry with
    | some e => decide (e < day)
    | none => false

/-- The record as the three steps of the roll leave it (R97). -/
def rolled (day : Nat) (held : Bool) (r : CardRecord) : CardRecord :=
  if rollForfeits day r then
    { r with bonus := 0, bonusExpiry := if held then r.bonusExpiry else none, dayCount := 0, dayAmount := 0, lastDay := day }
  else { r with dayCount := 0, dayAmount := 0, lastDay := day }

/-- The result of the roll step (R35, R99). -/
inductive Rolled where
  /-- the roll was applied, or none was due -/
  | applied (s : State) (r : CardRecord)
  /-- the roll cannot be applied for lack of a journal entry; the view is what it would have left -/
  | blocked (view : CardRecord)

/-- The roll step of a decision event (R35, R97, R98, R99). The view of a blocked roll has the bonus expiry as R99 gives it, kept
where an open hold holds bonus; R65 words it as absent (DEDUCED, log entry 41). -/
def applyRoll (card : Nat) (s : State) (r : CardRecord) : Rolled :=
  if s.mgmt.day ≤ r.lastDay then .applied s r
  else
    let after := rolled s.mgmt.day (holdsBonus s card) r
    if rollForfeits s.mgmt.day r then
      if journalFree s = 0 then .blocked after
      else
        .applied (appendJournal { entryFor .expire card s after with bonusDelta := -(r.bonus : Int) } s) after
    else .applied s after

/-! ## Card state gates (R17) -/

/-- The gate of REDEEM, HOLD and LOAD. -/
def gateSpend : CardState → Option TillOutcome
  | .inactive => some .notActive
  | .active => none
  | .suspended => some .suspended
  | .closed => some .closed

/-- The gate of COMPLETE, RELEASE and REVERSE. -/
def gateSettle : CardState → Option TillOutcome
  | .inactive => some .notActive
  | .active => none
  | .suspended => none
  | .closed => some .closed

/-- The gate of ACTIVATE. -/
def gateActivate : CardState → Option TillOutcome
  | .inactive => none
  | .active => some .alreadyActive
  | .suspended => some .suspended
  | .closed => some .closed

/-! ## Hold slots -/

/-- Write a hold slot. -/
def State.setSlot (s : State) (n : Nat) (h : HoldSlot) : State :=
  s.withSlots (Tab.set HoldSlot.initial s.slots n h)

/-- Join the expiry list: after every slot whose expiry minute is less than or equal to its own (R74). -/
def insertExpiry (expiryOf : Nat → Nat) (n : Nat) : List Nat → List Nat
  | [] => [n]
  | m :: ms => if expiryOf m ≤ expiryOf n then m :: insertExpiry expiryOf n ms else n :: m :: ms

/-- What a hold reference resolves to (R57). -/
inductive HoldFound where
  | found (slot : HoldSlot)
  | lapsed
  | missing
deriving DecidableEq, Repr

/-- Resolve a hold reference for a card against its slot as it stands (R57). -/
def resolveHold (s : State) (card : Nat) (ref : HoldRef) : HoldFound :=
  let h := s.slot ref.slot
  if ref.slot < holdTableSize ∧ h.reuse = ref.reuse ∧ h.card = card then
    if h.state ≠ .free then .found h
    else if h.lastClose = some .lapse then .lapsed
    else .missing
  else .missing

/-- What closing a hold leaves (R62): the state with the slot freed, the record, and the bonus kept and forfeited. -/
structure Closed where
  st : State
  record : CardRecord
  kept : Nat
  forfeited : Nat

/-- Close a hold (R62): H falls by A and the open hold count by 1, the paid return joins P (R60), the bonus return is settled
(R61), the program's open holds count falls by 1, the slot is freed with its close reason and joins the tail of the free
list, and the bonus expiry follows R14. -/
def closeHold (card n : Nat) (reason : CloseReason) (paidReturn bonusReturn ceiling : Nat) (s : State) (r : CardRecord) :
    Closed :=
  let h := s.slot n
  let freed :=
    (((s.setSlot n { h with state := .free, issued := false, lastClose := some reason }).withExpiryList
      (s.expiryList.filter fun m => m != n)).withFreeList (s.freeList ++ [n]))
  let st := uncountHold h.program freed
  let back := settleReturn bonusReturn ceiling s.mgmt.day r
  let bonus := r.bonus + back.1
  { st := st
    record :=
      { r with
        paid := r.paid + paidReturn
        bonus := bonus
        bonusExpiry := expiryKept bonus (holdsBonus st card) back.2
        held := r.held - h.amount
        openHolds := r.openHolds - 1 }
    kept := back.1
    forfeited := bonusReturn - back.1 }

/-! ## The watch check (R118 to R121) -/

/-- A till kind lies in one of a slot's kind groups (R115). -/
def kindWatched (k : WatchKinds) : TillKind → Bool
  | .redeem | .hold | .complete => k.outgoing
  | .activate | .load | .reverse => k.incoming
  | .inquire => k.look
  | .release | .withdraw => false

/-- A watch slot matches an item (R118). -/
def slotMatches (w : WatchSlot) (card : Nat) (kind : TillKind) : Bool :=
  (w.localEnable || w.globalEnable) && decide (w.base ≤ card) && decide (card < w.base + w.span) && kindWatched w.kinds kind

/-- A mask of four bits. -/
def mask4 (b0 b1 b2 b3 : Bool) : BitVec 4 :=
  (if b0 then 1#4 else 0#4) ||| (if b1 then 2#4 else 0#4) ||| (if b2 then 4#4 else 0#4) ||| (if b3 then 8#4 else 0#4)

/-- The watch slots that match an item (R118). -/
def matchMask (w : WatchUnit) (card : Nat) (kind : TillKind) : BitVec 4 :=
  mask4 (slotMatches w.slot0 card kind) (slotMatches w.slot1 card kind) (slotMatches w.slot2 card kind)
    (slotMatches w.slot3 card kind)

/-- The watch slots that match an item and have action PARK (R118). -/
def parkMask (w : WatchUnit) (card : Nat) (kind : TillKind) : BitVec 4 :=
  matchMask w card kind &&&
    mask4 (decide (w.slot0.action = .park)) (decide (w.slot1.action = .park)) (decide (w.slot2.action = .park))
      (decide (w.slot3.action = .park))

/-- The status of a slot after the check of an item (R119). -/
def recordHit (hit : Bool) (card : Nat) (st : WatchStatus) : WatchStatus :=
  if hit then { hit := true, last := some card, count := saturating st.count 1 } else st

/-- The watch status after a match (R119): every matching slot's. -/
def recordHits (m : BitVec 4) (card : Nat) (w : WatchUnit) : WatchUnit :=
  { w with
    status0 := recordHit (m.getLsbD 0) card w.status0
    status1 := recordHit (m.getLsbD 1) card w.status1
    status2 := recordHit (m.getLsbD 2) card w.status2
    status3 := recordHit (m.getLsbD 3) card w.status3 }

/-- The empty park entry with the lowest park id (R120). -/
def emptyParkId (w : WatchUnit) : Option Nat :=
  (List.range parkSize).find? fun n => (Tab.find w.park n).isNone

/-! ## The end of a decision event -/

/-- The outstanding writes of an entry after one more write is queued (R25, R29): a rise past 65,535 gives a free value (log
entry 19). -/
def raisedWrites (s : State) (n : Nat) : Nat :=
  if n < saturation then n + 1 else (Config.writesBeyond s.powerOns s.tmc.nextWrite).toNat

/-- The decision event changed the record, or did not (R29, R131): a changed record stands in the cached way, one DRAM write
of it is queued, and the entry's outstanding-write count rises by 1. A way that a load write made invalid stays invalid (R138). -/
def settleRecord (card : Nat) (before after : CardRecord) (s : State) : State :=
  if after = before then s
  else
    match s.busyOf card with
    | none => s
    | some e =>
      let w := e.way.getD 0
      let v := s.wayAt card w
      let cached := if v.valid then s.setWayAt card w { v with record := after } else s
      queueWrite (.card card after .serialiser) (updateBusy card (fun x => { x with writes := raisedWrites s x.writes }) cached)

/-- An item leaves the Card Serialiser at the end of its decision event (R31): its program's in-flight count falls (R11), and
the entry is freed if nothing keeps it (R29). -/
def leaveCard (it : Item) (s : State) : State := freeIfDone it.card (countOut it.program s)

end Sys2Proof.Machine
end

