-- ==== Sys2Proof/Machine/Spending.lean ====
section
/-!
DEFINITION. The decisions of INQUIRE, REDEEM, HOLD, COMPLETE and RELEASE (chapter 3), each over the state and the card
record as step 4 of the decision event leaves them (R31).
-/

namespace Sys2Proof.Machine

/-- The settings an item is decided under: those of its program's entry as it stands at the decision (chapter 3). -/
def settingsOf (s : State) (p : Nat) : Settings := (s.program p).settings

/-! ## Verification (3.2) -/

/-- The verification check applies (R46). -/
def verifyApplies (t : TillRequest) (c : Settings) : Bool :=
  (decide (t.channel = .remote) && c.verifyRemote) || t.verify.isSome

/-- The record after the verification step, and whether the item passes it (R46, R47). -/
def verifyStep (t : TillRequest) (c : Settings) (r : CardRecord) : CardRecord × Bool :=
  if verifyApplies t c then
    match r.verify, t.verify with
    | some stored, some given =>
      if stored = given then ({ r with verifyFailures := 0 }, true)
      else
        let failures := min 3 (r.verifyFailures + 1)
        ({ r with verifyFailures := failures, state := if failures = 3 then .suspended else r.state }, false)
    | _, _ => (r, false)
  else (r, true)

/-- A VERIFY decline: a failure that suspends the card raises CARD_SUSPENDED (R47). -/
def declineVerify (s : State) (before after : CardRecord) : Verdict :=
  decline (if after.state = before.state then s else raiseNotice .cardSuspended false s) after .verify

/-! ## Amount and draw (3.3, 3.5) -/

/-- The day remaining (R48). -/
def dayRemaining (c : Settings) (r : CardRecord) : Nat := c.dayAmountLimit - r.dayAmount

/-- The available value (R18). -/
def available (r : CardRecord) : Nat := r.paid + r.bonus

/-- The day amount after an addition, capped at 10,000,000 (R49). -/
def addDayAmount (dayAmount x : Nat) : Nat := min 10000000 (dayAmount + x)

/-- The result of the amount step (R51). -/
inductive Amount where
  | approve (x : Nat) (isPartial : Bool)
  | decline (outcome : TillOutcome)
deriving DecidableEq, Repr

/-- The amount step (R51). -/
def amountStep (c : Settings) (r : CardRecord) (requested : Nat) : Amount :=
  let x := min requested (min (available r) (dayRemaining c r))
  if x = requested then .approve x false
  else if 0 < x ∧ c.partialAllowed then .approve x true
  else if available r ≤ dayRemaining c r then .decline .insufficient
  else .decline .velocity

/-- The outcome of an approval in full or in part. -/
def approval (isPartial : Bool) : TillOutcome := if isPartial then .partly else .approved

/-- The bonus draw of an amount drawn from the available value (R52); the paid draw is the rest. -/
def bonusDraw (x : Nat) (r : CardRecord) : Nat := min x r.bonus

/-- The paid draw of an amount drawn from the available value (R52). -/
def paidDraw (x : Nat) (r : CardRecord) : Nat := x - bonusDraw x r

/-! ## Inquiry and redemption -/

/-- INQUIRE (R65). `shown` is the record, or the rolled view where the roll could not be applied (R35). -/
def decideInquire (s : State) (r shown : CardRecord) : Verdict :=
  { st := s, record := r, outcome := .approved, approved := none, holdRef := none, journalSeq := none, shown := shown }

/-- An approved or partial REDEEM for `x` (R53). -/
def settleRedeem (card : Nat) (t : TillRequest) (s : State) (r : CardRecord) (x : Nat) (isPartial : Bool) : Verdict :=
  let fromBonus := bonusDraw x r
  let fromPaid := paidDraw x r
  let moved :=
    { r with
      paid := r.paid - fromPaid
      bonus := r.bonus - fromBonus
      bonusExpiry := expiryKept (r.bonus - fromBonus) (holdsBonus s card) r.bonusExpiry
      dayCount := r.dayCount + 1
      dayAmount := addDayAmount r.dayAmount x }
  let entry :=
    { entryFor .redeem card s moved with
      till := some (t.till, t.seq), paidDelta := -(fromPaid : Int), bonusDelta := -(fromBonus : Int) }
  let after :=
    { moved with recents := addRecent (recentFor t s.mgmt.day isPartial x fromBonus fromPaid) r.recents }
  { st := appendJournal entry s, record := after, outcome := approval isPartial, approved := some x, holdRef := none,
    journalSeq := some s.journal.next, shown := after }

/-- REDEEM (R43). -/
def decideRedeem (card p : Nat) (t : TillRequest) (s : State) (r : CardRecord) : Verdict :=
  let c := settingsOf s p
  match gateSpend r.state with
  | some o => decline s r o
  | none =>
    let v := verifyStep t c r
    if !v.2 then declineVerify s r v.1
    else if c.dayCountLimit ≤ v.1.dayCount then decline s v.1 .velocity
    else if journalFree s ≤ journalReserve then decline s v.1 .journalFull
    else
      match amountStep c v.1 (t.amount.getD 0) with
      | .decline o => decline s v.1 o
      | .approve x isPartial => settleRedeem card t s v.1 x isPartial

/-! ## Holds -/

/-- The slot of an approved hold (R55). It takes the item's program, as R55 says, also where the record names another (R13;
DEDUCED, log entry 18). -/
def openSlot (card p : Nat) (t : TillRequest) (c : Settings) (s : State) (old : HoldSlot) (x fromBonus : Nat) : HoldSlot :=
  { state := .openHold, reuse := (old.reuse + 1) % 256, card := card, program := p, till := t.till, seq := t.seq,
    amount := x, bonusPart := fromBonus, paidPart := x - fromBonus, openDay := s.mgmt.day, openMinute := s.time.minutes,
    expiryMinute := s.time.minutes + c.holdLifetime, issued := false, lastClose := none }

/-- An approved hold takes the head of the free list (R55): the slot is written, leaves the free list and joins the expiry
list (R74), and the program's open holds count rises (R10). -/
def allocateHold (p n : Nat) (h : HoldSlot) (s : State) : State :=
  let written := s.setSlot n h
  countHold p
    ((written.withFreeList s.freeList.tail).withExpiryList
      (insertExpiry (fun m => (written.slot m).expiryMinute) n s.expiryList))

/-- An approved or partial HOLD for `x` in the slot `n` (R54, R55, R56). -/
def settleHold (card p n : Nat) (t : TillRequest) (s : State) (r : CardRecord) (x : Nat) (isPartial : Bool) : Verdict :=
  let fromBonus := bonusDraw x r
  let fromPaid := paidDraw x r
  let h := openSlot card p t (settingsOf s p) s (s.slot n) x fromBonus
  let ref : HoldRef := { slot := n, reuse := h.reuse }
  let st := allocateHold p n h s
  let moved :=
    { r with
      paid := r.paid - fromPaid
      bonus := r.bonus - fromBonus
      bonusExpiry := expiryKept (r.bonus - fromBonus) (holdsBonus st card) r.bonusExpiry
      held := r.held + x
      openHolds := r.openHolds + 1
      dayCount := r.dayCount + 1
      dayAmount := addDayAmount r.dayAmount x }
  let entry :=
    { entryFor .hold card s moved with
      till := some (t.till, t.seq), paidDelta := -(fromPaid : Int), bonusDelta := -(fromBonus : Int), heldDelta := x,
      holdRef := some ref }
  let after :=
    { moved with
      recents :=
        addRecent { recentFor t s.mgmt.day isPartial x fromBonus fromPaid with holdRef := some ref } r.recents }
  { st := appendJournal entry st, record := after, outcome := approval isPartial, approved := some x, holdRef := some ref,
    journalSeq := some s.journal.next, shown := after }

/-- HOLD (R44). -/
def decideHold (card p : Nat) (t : TillRequest) (s : State) (r : CardRecord) : Verdict :=
  let c := settingsOf s p
  match gateSpend r.state with
  | some o => decline s r o
  | none =>
    let v := verifyStep t c r
    if !v.2 then declineVerify s r v.1
    else if c.dayCountLimit ≤ v.1.dayCount then decline s v.1 .velocity
    else if c.holdsPerCard ≤ v.1.openHolds then decline s v.1 .holdLimit
    else
      match s.freeList with
      | [] => decline s v.1 .capacity
      | n :: _ =>
        if journalFree s ≤ journalReserve then decline s v.1 .journalFull
        else
          match amountStep c v.1 (t.amount.getD 0) with
          | .decline o => decline s v.1 o
          | .approve x isPartial => settleHold card p n t s v.1 x isPartial

/-! ## Completion and release -/

/-- The completion limit of a hold (R58). -/
def completionLimit (c : Settings) (amount : Nat) : Nat := amount * (10000 + c.tipTolerance) / 10000

/-- A COMPLETE of `final` that closes a hold (R59 to R63). -/
def settleComplete (card p : Nat) (ref : HoldRef) (h : HoldSlot) (t : TillRequest) (s : State) (r : CardRecord)
    (final : Nat) : Verdict :=
  let bonusUsed := min final h.bonusPart
  let paidUsed := min (final - bonusUsed) h.paidPart
  let overage := final - h.amount
  let covered := min overage (available r)
  let overBonus := bonusDraw covered r
  let overPaid := paidDraw covered r
  let approved := final - overage + covered
  let paidReturn := h.paidPart - paidUsed
  let closed :=
    closeHold card ref.slot .complete paidReturn (h.bonusPart - bonusUsed) (settingsOf s p).bonusCeiling s
      { r with paid := r.paid - overPaid, bonus := r.bonus - overBonus }
  let moved := { closed.record with dayAmount := addDayAmount r.dayAmount covered }
  let entry :=
    { entryFor .complete card s moved with
      till := some (t.till, t.seq)
      paidDelta := (paidReturn : Int) - overPaid
      bonusDelta := (closed.kept : Int) - overBonus
      heldDelta := -(h.amount : Int)
      forfeited := closed.forfeited
      holdRef := some ref }
  let isPartial := decide (approved < final)
  let after :=
    { moved with
      recents :=
        addRecent
          { recentFor t s.mgmt.day isPartial approved (bonusUsed + overBonus) (paidUsed + overPaid) with
            holdRef := some ref }
          r.recents }
  { st := appendJournal entry closed.st, record := after, outcome := approval isPartial, approved := some approved,
    holdRef := none, journalSeq := some s.journal.next, shown := after }

/-- COMPLETE (R45). -/
def decideComplete (card p : Nat) (t : TillRequest) (s : State) (r : CardRecord) : Verdict :=
  match gateSettle r.state with
  | some o => decline s r o
  | none =>
    let ref := t.holdRef.getD { slot := 0, reuse := 0 }
    match resolveHold s card ref with
    | .missing => decline s r .noHold
    | .lapsed => decline s r .lapsed
    | .found h =>
      if completionLimit (settingsOf s p) h.amount < t.amount.getD 0 then decline s r .overTolerance
      else if journalFree s = 0 then decline s r .journalFull
      else settleComplete card p ref h t s r (t.amount.getD 0)

/-- A RELEASE that closes a hold (R64). -/
def settleRelease (card p : Nat) (ref : HoldRef) (h : HoldSlot) (t : TillRequest) (s : State) (r : CardRecord) : Verdict :=
  let closed := closeHold card ref.slot .release h.paidPart h.bonusPart (settingsOf s p).bonusCeiling s r
  let entry :=
    { entryFor .release card s closed.record with
      till := some (t.till, t.seq), paidDelta := h.paidPart, bonusDelta := closed.kept, heldDelta := -(h.amount : Int),
      forfeited := closed.forfeited, holdRef := some ref }
  let after := { closed.record with recents := addRecent (recentFor t s.mgmt.day false h.amount 0 0) r.recents }
  { st := appendJournal entry closed.st, record := after, outcome := .approved, approved := some h.amount,
    holdRef := none, journalSeq := some s.journal.next, shown := after }

/-- RELEASE (R45). -/
def decideRelease (card p : Nat) (t : TillRequest) (s : State) (r : CardRecord) : Verdict :=
  match gateSettle r.state with
  | some o => decline s r o
  | none =>
    let ref := t.holdRef.getD { slot := 0, reuse := 0 }
    match resolveHold s card ref with
    | .missing => decline s r .noHold
    | .lapsed => decline s r .lapsed
    | .found h =>
      if journalFree s = 0 then decline s r .journalFull
      else settleRelease card p ref h t s r

end Sys2Proof.Machine
end

