-- ==== Sys2Proof/Machine/Loads.lean ====
section
/-!
DEFINITION. The decisions of ACTIVATE and LOAD and the selection of a promotion (chapter 5).
-/

namespace Sys2Proof.Machine

/-! ## Selecting a promotion (R90) -/

/-- A Promotion Table entry is a candidate for a load of `amount` on a card of program `p` (R90). -/
def isCandidate (p day amount : Nat) (e : Promotion) : Bool :=
  e.enabled && e.mask.getLsbD p && decide (e.startDay ≤ day) && decide (day ≤ e.endDay) && decide (e.trigger ≤ amount)

/-- A candidate's bonus (R90). -/
def candidateBonus (amount : Nat) (e : Promotion) : Nat := min (amount * e.rate / 10000) e.cap

/-- The bonus of a selection, 0 where no promotion is selected. -/
def selectedBonus (amount : Nat) (best : Option (Nat × Promotion)) : Nat :=
  match best with
  | none => 0
  | some e => candidateBonus amount e.2

/-- The better of the selection so far and the next entry: the greater bonus, and the entry met first among equals; a bonus
of 0 is never selected (R90). -/
def betterPromotion (p day amount : Nat) (best : Option (Nat × Promotion)) (e : Nat × Promotion) :
    Option (Nat × Promotion) :=
  if isCandidate p day amount e.2 && decide (selectedBonus amount best < candidateBonus amount e.2) then some e else best

/-- The promotion selected for a load (R90), from the entries in rising order; an entry at its power-on values is DISABLED. -/
def selectPromotion (p day amount : Nat) (t : Tab Promotion) : Option (Nat × Promotion) :=
  t.foldl (betterPromotion p day amount) none

/-! ## The grant -/

/-- The bonus granted (R91). -/
def bonusGranted (c : Settings) (r : CardRecord) (amount : Nat) (best : Option (Nat × Promotion)) : Nat :=
  min (selectedBonus amount best) (bonusRoom c.bonusCeiling r.bonus)

/-- The bonus expiry after a grant of `granted` (R92). -/
def grantExpiry (day granted lifetime : Nat) (expiry : Option Nat) : Option Nat :=
  if granted = 0 then expiry
  else
    let e := min dayMax (day + lifetime)
    match expiry with
    | none => some e
    | some x => some (max x e)

/-! ## Decisions -/

/-- An ACTIVATE or LOAD that passes every check (R93, R94). Its entry takes the item's program, as R94 says, also where the record
names another (R13, R140; DEDUCED, log entry 18). -/
def settleLoad (kind : JournalKind) (card p : Nat) (t : TillRequest) (s : State) (r : CardRecord) (amount : Nat) :
    Verdict :=
  let best := selectPromotion p s.mgmt.day amount s.promotions
  let granted := bonusGranted (settingsOf s p) r amount best
  let promotion := if granted = 0 then none else best.map (·.1)
  let moved :=
    { r with
      paid := r.paid + amount
      bonus := r.bonus + granted
      bonusExpiry := grantExpiry s.mgmt.day granted ((best.map (·.2.lifetime)).getD 0) r.bonusExpiry
      state := if kind = .activate then .active else r.state }
  let entry :=
    { entryFor kind card s moved with
      program := p, till := some (t.till, t.seq), paidDelta := amount, bonusDelta := granted, promotion := promotion }
  let after :=
    { moved with
      recents :=
        addRecent
          { recentFor t s.mgmt.day false amount granted amount with promotion := promotion, bonusGranted := granted }
          r.recents }
  { st := appendJournal entry s, record := after, outcome := .approved, approved := some amount, holdRef := none,
    journalSeq := some s.journal.next, shown := after }

/-- Steps 2 to 6 of R85, after the state step. -/
def loadSteps (kind : JournalKind) (card p : Nat) (t : TillRequest) (s : State) (r : CardRecord) : Verdict :=
  let c := settingsOf s p
  let amount := t.amount.getD 0
  if amount < c.minLoad then decline s r .belowMinimum
  else if c.maxBalance < r.paid + amount then decline s r .overMaximum
  else if journalFree s ≤ journalReserve then decline s r .journalFull
  else settleLoad kind card p t s r amount

/-- ACTIVATE (R85). -/
def decideActivate (card p : Nat) (t : TillRequest) (s : State) (r : CardRecord) : Verdict :=
  match gateActivate r.state with
  | some o => decline s r o
  | none => loadSteps .activate card p t s r

/-- LOAD (R86). -/
def decideLoad (card p : Nat) (t : TillRequest) (s : State) (r : CardRecord) : Verdict :=
  match gateSpend r.state with
  | some o => decline s r o
  | none => loadSteps .load card p t s r

end Sys2Proof.Machine
end

