-- ==== Sys2Proof/Machine/Reversal.lean ====
section
/-!
DEFINITION. The decision of REVERSE (6.1 to 6.3).
-/

namespace Sys2Proof.Machine

/-! ## The original -/

/-- The kinds that can be reversed (R102). -/
def reversible : TillKind → Bool
  | .activate | .load | .redeem | .hold | .complete => true
  | .inquire | .release | .reverse | .withdraw => false

/-- The original of a REVERSE (R102): the entry with the till id and the original sequence, where its kind is reversible, it
is not reversed, and its day is the current day. -/
def originalOf (t : TillRequest) (day : Nat) (r : CardRecord) : Option RecentRef :=
  match findRecent t.till (t.original.getD 0) r.recents with
  | none => none
  | some x => if reversible x.kind && !x.reversed && x.day == day then some x else none

/-- Mark the original reversed (R107, step 1). -/
def markReversed (till : TillId) (seq : Nat) (l : List RecentRef) : List RecentRef :=
  l.map fun x => if x.till = till ∧ x.seq = seq then { x with reversed := true } else x

/-! ## What a reversal moves -/

/-- What the settlement of a reversal leaves (R103 to R106), before it is recorded. -/
structure Reversed where
  st : State
  record : CardRecord
  /-- paid part and bonus part of the REVERSE's own recent reference, without sign (R107; log entry 24) -/
  paidPart : Nat
  bonusPart : Nat
  paidDelta : Int
  bonusDelta : Int
  heldDelta : Int
  forfeited : Nat
  /-- hold reference of the journal entry -/
  holdRef : Option HoldRef
  /-- promotion number of the journal entry -/
  promotion : Option Nat

/-- The parts of a REDEEM or COMPLETE return to the balances they came from (R103, R104). `dayBack` is what the day amount
falls by. -/
def giveBack (x : RecentRef) (ceiling dayBack card : Nat) (ref : Option HoldRef) (s : State) (r : CardRecord) : Reversed :=
  let back := settleReturn x.bonusPart ceiling s.mgmt.day r
  let bonus := r.bonus + back.1
  { st := s
    record :=
      { r with
        paid := r.paid + x.paidPart
        bonus := bonus
        bonusExpiry := expiryKept bonus (holdsBonus s card) back.2
        dayAmount := r.dayAmount - dayBack }
    paidPart := x.paidPart
    bonusPart := back.1
    paidDelta := x.paidPart
    bonusDelta := back.1
    heldDelta := 0
    forfeited := x.bonusPart - back.1
    holdRef := ref
    promotion := none }

/-- The hold of a reversed HOLD is closed as a RELEASE closes it (R105). -/
def undoHold (card : Nat) (ref : HoldRef) (h : HoldSlot) (ceiling : Nat) (s : State) (r : CardRecord) : Reversed :=
  let closed := closeHold card ref.slot .release h.paidPart h.bonusPart ceiling s r
  { st := closed.st, record := closed.record, paidPart := h.paidPart, bonusPart := closed.kept, paidDelta := h.paidPart,
    bonusDelta := closed.kept, heldDelta := -(h.amount : Int), forfeited := closed.forfeited, holdRef := some ref,
    promotion := none }

/-- The value of a reversed LOAD or ACTIVATE is taken back (R106). -/
def takeBack (x : RecentRef) (card : Nat) (s : State) (r : CardRecord) : Reversed :=
  let paid := r.paid - x.approved
  let bonus := r.bonus - x.bonusGranted
  { st := s
    record :=
      { r with
        paid := paid
        bonus := bonus
        bonusExpiry := expiryKept bonus (holdsBonus s card) r.bonusExpiry
        state :=
          if x.kind = .activate ∧ r.state = .active ∧ paid = 0 ∧ bonus = 0 ∧ r.held = 0 then .inactive else r.state }
    paidPart := x.approved
    bonusPart := x.bonusGranted
    paidDelta := -(x.approved : Int)
    bonusDelta := -(x.bonusGranted : Int)
    heldDelta := 0
    forfeited := 0
    holdRef := none
    promotion := x.promotion }

/-! ## The decision -/

/-- A REVERSE that settles is recorded and answered (R107). -/
def recordReversal (card : Nat) (t : TillRequest) (x : RecentRef) (s : State) (before : CardRecord) (v : Reversed) :
    Verdict :=
  let entry :=
    { entryFor .reverse card s v.record with
      till := some (t.till, t.seq), paidDelta := v.paidDelta, bonusDelta := v.bonusDelta, heldDelta := v.heldDelta,
      forfeited := v.forfeited, holdRef := v.holdRef, promotion := v.promotion }
  let after :=
    { v.record with
      recents :=
        addRecent (recentFor t s.mgmt.day false x.approved v.bonusPart v.paidPart)
          (markReversed x.till x.seq before.recents) }
  { st := appendJournal entry v.st, record := after, outcome := .approved, approved := some x.approved, holdRef := none,
    journalSeq := some s.journal.next, shown := after }

/-- The kind condition and the settlement of a found original (R101, steps 3 to 5): the outcome of a decline, or what is
moved. -/
def undo (card p : Nat) (x : RecentRef) (s : State) (r : CardRecord) : Except TillOutcome Reversed :=
  let ceiling := (settingsOf s p).bonusCeiling
  match x.kind with
  | .redeem => if journalFree s = 0 then .error .journalFull else .ok (giveBack x ceiling x.approved card none s r)
  | .complete => if journalFree s = 0 then .error .journalFull else .ok (giveBack x ceiling 0 card x.holdRef s r)
  | .hold =>
    let ref := x.holdRef.getD { slot := 0, reuse := 0 }
    match resolveHold s card ref with
    | .found h => if journalFree s = 0 then .error .journalFull else .ok (undoHold card ref h ceiling s r)
    | .lapsed => .error .noOriginal
    | .missing => .error .noOriginal
  | .load | .activate =>
    if r.paid < x.approved ∨ r.bonus < x.bonusGranted then .error .insufficient
    else if journalFree s = 0 then .error .journalFull
    else .ok (takeBack x card s r)
  | .inquire | .release | .reverse | .withdraw => .error .noOriginal

/-- REVERSE (R101). -/
def decideReverse (card p : Nat) (t : TillRequest) (s : State) (r : CardRecord) : Verdict :=
  match gateSettle r.state with
  | some o => decline s r o
  | none =>
    match originalOf t s.mgmt.day r with
    | none => decline s r .noOriginal
    | some x =>
      match undo card p x s r with
      | .error o => decline s r o
      | .ok v => recordReversal card t x s r v

end Sys2Proof.Machine
end

