-- ==== Sys2Proof/Machine/AtCard.lean ====
section
/-!
DEFINITION. The decision event (2.3): an item at the head of its card's waiting list is taken, passes the five steps of R31
and leaves, and the fifteen commands that name such a taking.
-/

namespace Sys2Proof.Machine

/-! ## Till requests -/

/-- The decision of each till kind at step 5 (R37). `shown` is the record an INQUIRE shows. -/
def decideTill (card p : Nat) (t : TillRequest) (s : State) (r shown : CardRecord) : Verdict :=
  match t.kind with
  | .inquire => decideInquire s r shown
  | .activate => decideActivate card p t s r
  | .load => decideLoad card p t s r
  | .redeem => decideRedeem card p t s r
  | .hold => decideHold card p t s r
  | .complete => decideComplete card p t s r
  | .release => decideRelease card p t s r
  | .reverse => decideReverse card p t s r
  | .withdraw =>
    decline s r (if (findRecent t.till (t.original.getD 0) r.recents).isSome then .tooLate else .notFound)

/-- The end of a decision event whose item leaves the Card Serialiser: the record's change is settled (R29, R131) and the
item leaves (R31). -/
def finishItem (it : Item) (before after : CardRecord) (s : State) : State :=
  leaveCard it (settleRecord it.card before after s)

/-- Step 5 for a till request: it is decided, answered (R37, R41) and leaves. -/
def decideStep (it : Item) (t : TillRequest) (before : CardRecord) (s : State) (r shown : CardRecord) : State :=
  let v := decideTill it.card (it.program.getD 0) t s r shown
  finishItem it before v.record
    (answerTaken t v.outcome false v.approved v.holdRef v.journalSeq v.shown v.st)

/-- An item is parked in the empty park entry `id` (R120): the busy entry becomes PARKED and WATCH_PARKED is raised. -/
def parkItem (it : Item) (id : Nat) (matched parking : BitVec 4) (before after : CardRecord) (s : State) : State :=
  let entry : ParkEntry :=
    { item := it, card := it.card, matched := matched, parking := parking,
      expirySecond := s.time.seconds + s.watch.timeout }
  let parked := s.withWatch { s.watch with park := Tab.insert s.watch.park id entry }
  raiseNotice .watchParked false
    (updateBusy it.card (fun x => { x with state := .parked, current := some it })
      (settleRecord it.card before after parked))

/-- Step 4, the watch check (R118 to R121), and what follows it. The REFERRED answer at a full Watch Park shows the record as
it stands (R121), also to an INQUIRE whose roll is blocked (DESIGN CHOICE, log entry 55). -/
def watchStep (it : Item) (t : TillRequest) (before : CardRecord) (s : State) (r shown : CardRecord) : State :=
  let matched := matchMask s.watch it.card t.kind
  if it.skip || matched == 0#4 then decideStep it t before s r shown
  else
    let parking := parkMask s.watch it.card t.kind
    let hit := raiseNotice .watchHit false (s.withWatch (recordHits matched it.card s.watch))
    if parking == 0#4 then decideStep it t before hit r shown
    else
      match emptyParkId hit.watch with
      | some id => parkItem it id matched parking before r hit
      | none =>
        finishItem it before r
          (raiseNotice .watchParked true (answerTaken t .referred false none none none r hit))

/-- Step 3, the roll (R35), and what follows it. -/
def rollStep (it : Item) (t : TillRequest) (s : State) (r : CardRecord) : State :=
  match applyRoll it.card s r with
  | .applied s' r' => watchStep it t r s' r' r'
  | .blocked view =>
    if t.kind = .inquire then watchStep it t r s r view
    else finishItem it r r (answerTaken t .journalFull false none none none r s)

/-- The answer of a repeat (R33). -/
def repeatAnswer (t : TillRequest) (x : RecentRef) (r : CardRecord) (s : State) : State :=
  answerTaken t (approval x.isPartial) true (some x.approved) (if x.kind = .hold then x.holdRef else none) none r s

/-- A till request is taken (R31): frozen check (R32), repeat check (R33, R34), then the later steps. -/
def takeTillItem (it : Item) (t : TillRequest) (s : State) (r : CardRecord) : State :=
  if r.frozen then finishItem it r r (answerTaken t .cardUpdating false none none none r s)
  else
    match findRecent t.till t.seq r.recents with
    | some x =>
      finishItem it r r
        (if x.kind = t.kind then repeatAnswer t x r s
         else answerTaken t .sequenceClash false none none none r s)
    | none => rollStep it t s r

/-! ## Lapse and drop items -/

/-- The management answer of a drop item (R81); an ordinary lapse item has none (R77). -/
def answerDrop (dropTag : Option Nat) (result : MgmtResult) (s : State) : State :=
  match dropTag with
  | none => s
  | some tag => replyStarted codeHoldDrop tag result s

/-- The issued flag of a card's hold that is still LAPSE_DUE returns to no (R72, R79). -/
def unissue (card : Nat) (ref : HoldRef) (s : State) : State :=
  let h := s.slot ref.slot
  if h.reuse = ref.reuse ∧ h.state = .lapseDue ∧ h.card = card then s.setSlot ref.slot { h with issued := false } else s

/-- The data of a HOLD DROP's DONE answer (R81). -/
def dropData (ref : HoldRef) (amount seq : Nat) : List Byte :=
  num 4194303 (holdRefNat ref) ++ num 10000000 amount ++ num counterMax seq

/-- A lapse item or drop item closes its hold (R77, R78, R81). Its entry takes the slot's program, as R78 says, also where the
record names another (R13, R140; DEDUCED, log entry 18). -/
def lapseHold (it : Item) (ref : HoldRef) (dropTag : Option Nat) (h : HoldSlot) (before : CardRecord) (s : State)
    (r : CardRecord) : State :=
  let reason : CloseReason := if dropTag.isSome then .drop else .lapse
  let closed :=
    closeHold it.card ref.slot reason h.paidPart h.bonusPart (settingsOf s h.program).bonusCeiling s r
  let entry :=
    { entryFor .lapse it.card s closed.record with
      program := h.program, paidDelta := h.paidPart, bonusDelta := closed.kept, heldDelta := -(h.amount : Int),
      forfeited := closed.forfeited, holdRef := some ref }
  finishItem it before closed.record
    (answerDrop dropTag (.done (dropData ref h.amount s.journal.next)) (appendJournal entry closed.st))

/-- A lapse item or drop item is taken (R31, R77, R79, R81). A roll whose EXPIRE entry took the last free journal entry stands
where the item is then deferred (DESIGN CHOICE, log entry 54). An item whose slot has the item's reuse count but is OPEN, or is
LAPSE_DUE for another card, is in no row of the tables of R77 and R81: it does nothing, and a drop is answered NO_HOLD
(DESIGN CHOICE, log entry 48). -/
def takeLapse (it : Item) (ref : HoldRef) (dropTag : Option Nat) (s : State) (r : CardRecord) : State :=
  match applyRoll it.card s r with
  | .blocked _ => finishItem it r r (answerDrop dropTag (.refused .journalFull) (unissue it.card ref s))
  | .applied s' r' =>
    let h := s'.slot ref.slot
    if h.reuse = ref.reuse ∧ h.state = .lapseDue ∧ h.card = it.card then
      if journalFree s' = 0 then finishItem it r r' (answerDrop dropTag (.refused .journalFull) (unissue it.card ref s'))
      else lapseHold it ref dropTag h r s' r'
    else finishItem it r r' (answerDrop dropTag (.refused .noHold) s')

/-! ## Management items -/

/-- What a management item is served on: the record after the roll, or the unrolled record where the roll cannot be applied
(R35). -/
def rolledFor (card : Nat) (s : State) (r : CardRecord) : State × CardRecord :=
  match applyRoll card s r with
  | .applied s' r' => (s', r')
  | .blocked _ => (s, r)

/-- The data of the DONE answer of a CARD FREEZE or CARD THAW (R108). -/
def correctionData (r : CardRecord) : List Byte :=
  num 3 (cardStateCode r.state) ++ num 2147483647 r.paid ++ num 10000000 r.bonus
    ++ optional (num 65535) r.bonusExpiry ++ num 80000000 r.held ++ num 8 r.openHolds ++ num 1 (yesNoCode r.frozen)

/-- The data of a CARD READ's DONE answer (R170): the card index, the way the read was made (0 through the card queue, 1
directly), and the record's bytes. -/
def cardReadData (card way : Nat) (record : List Byte) : List Byte :=
  num 16777215 card ++ num 1 way ++ record

/-- A CARD READ item is taken (R170). -/
def takeCardRead (it : Item) (tag : Nat) (s : State) (r : CardRecord) : State :=
  let v := rolledFor it.card s r
  finishItem it r v.2
    (replyStarted codeCardRead tag (.done (cardReadData it.card 0 (encodeCardRecord v.2))) v.1)

/-- A CARD FREEZE or CARD THAW item is taken (R109). -/
def takeFreeze (it : Item) (code tag : Nat) (frozen : Bool) (s : State) (r : CardRecord) : State :=
  let v := rolledFor it.card s r
  let after := { v.2 with frozen := frozen }
  finishItem it r after (replyStarted code tag (.done (correctionData after)) v.1)

/-- A CARD WRITE may change the card's state so (R16). -/
def stateChangeOk (held : Nat) : CardState → CardState → Bool
  | .inactive, .inactive => true
  | .inactive, .closed => true
  | .active, .active => true
  | .active, .suspended => true
  | .active, .closed => true
  | .suspended, .suspended => true
  | .suspended, .active => true
  | .suspended, .closed => true
  | .closed, .closed => true
  | .closed, .active => held == 0
  | _, _ => false

/-- The bonus expiry a CARD WRITE or CARD RESTORE names is present and is the current day or later (R110, R112). -/
def expiryCurrent (day : Nat) (expiry : Option Nat) : Bool :=
  match expiry with
  | some e => decide (day ≤ e)
  | none => false

/-- The first check of R110 that fails. -/
def cardWriteRefusal (c : Settings) (s : State) (held : Bool) (r : CardRecord) (f : CardWriteFields) : Option Reason :=
  if !r.frozen then some .state
  else if c.maxBalance < f.paid ∧ f.paid ≠ r.paid then some .range
  else if c.bonusCeiling < f.bonus then some .range
  else if 3 < f.verifyFailures || !verifyOk f.verify then some .range
  else if decide (0 < f.bonus) && !expiryCurrent s.mgmt.day f.bonusExpiry then some .range
  else if f.bonus == 0 && held && f.bonusExpiry.isNone then some .range
  else if !stateChangeOk r.held r.state f.state then some .state
  else if (f.paid ≠ r.paid ∨ f.bonus ≠ r.bonus) ∧ journalFree s = 0 then some .journalFull
  else none

/-- The record a CARD WRITE writes (R111). -/
def cardWritten (held : Bool) (r : CardRecord) (f : CardWriteFields) : CardRecord :=
  { r with
    state := f.state
    paid := f.paid
    bonus := f.bonus
    verifyFailures := f.verifyFailures
    verify := f.verify.bind verifyValueOf
    bonusExpiry := if 0 < f.bonus ∨ held then f.bonusExpiry else none }

/-- The data of a CARD WRITE's DONE answer (R111): the record as written, and the sequence of its ADJUST entry where one was
appended. The fields of R108 are among the record's (DESIGN CHOICE, log entry 12). -/
def cardWriteData (r : CardRecord) (seq : Option Nat) : List Byte := encodeCardRecord r ++ optional (num counterMax) seq

/-- A CARD WRITE item is taken (R110, R111). -/
def takeCardWrite (it : Item) (tag : Nat) (f : CardWriteFields) (s : State) (r : CardRecord) : State :=
  let v := rolledFor it.card s r
  let held := holdsBonus v.1 it.card
  match cardWriteRefusal (settingsOf v.1 (it.program.getD 0)) v.1 held v.2 f with
  | some reason => finishItem it r v.2 (replyStarted codeCardWrite tag (.refused reason) v.1)
  | none =>
    let after := cardWritten held v.2 f
    if after.paid = v.2.paid ∧ after.bonus = v.2.bonus then
      finishItem it r after
        (replyStarted codeCardWrite tag (.done (cardWriteData after none)) v.1)
    else
      let entry :=
        { entryFor .adjust it.card v.1 after with
          paidDelta := (after.paid : Int) - v.2.paid, bonusDelta := (after.bonus : Int) - v.2.bonus }
      finishItem it r after
        (replyStarted codeCardWrite tag (.done (cardWriteData after (some v.1.journal.next))) (appendJournal entry v.1))

/-! ## Taking an item -/

/-- An item is taken at its card (R31): the state is the one after the item has left the waiting list, or the Watch Park
(R36). -/
def takeItem (it : Item) (s : State) : State :=
  match s.busyOf it.card with
  | none => s
  | some e =>
    let r := recordOf s e
    match it.body with
    | .till t => takeTillItem it t s r
    | .lapse ref dropTag => takeLapse it ref dropTag s r
    | .cardRead tag => takeCardRead it tag s r
    | .cardFreeze tag => takeFreeze it codeCardFreeze tag true s r
    | .cardThaw tag => takeFreeze it codeCardThaw tag false s r
    | .cardWrite tag fields => takeCardWrite it tag fields s r

/-- The item a card's busy entry takes next: the head of its waiting list, in ACTIVE (R31). No item is taken while an engine
reset is under way (R178). -/
def headItem (s : State) (card : Nat) : Option Item :=
  if s.working then
    match s.busyOf card with
    | some e => if e.state = .active then e.waiting.head? else none
    | none => none
  else none

/-- The head item has left its card's waiting list. -/
def unqueue (card : Nat) (s : State) : State := updateBusy card (fun x => { x with waiting := x.waiting.tail }) s

/-- Take the head item of a card where it is one the command names; otherwise nothing is taken. -/
def takeHead (named : Item → Bool) (card : Nat) (s : State) : State :=
  match headItem s card with
  | some it => if named it then takeItem it (unqueue card s) else s
  | none => s

/-- A till request of a kind. -/
def isTill (k : TillKind) (it : Item) : Bool :=
  match it.body with
  | .till t => t.kind == k
  | _ => false

/-- A lapse item that is not a drop item. -/
def isLapse (it : Item) : Bool :=
  match it.body with
  | .lapse _ dropTag => dropTag.isNone
  | _ => false

/-- A drop item. -/
def isDrop (it : Item) : Bool :=
  match it.body with
  | .lapse _ dropTag => dropTag.isSome
  | _ => false

/-- A CARD READ item. -/
def isCardRead (it : Item) : Bool :=
  match it.body with
  | .cardRead _ => true
  | _ => false

/-- A CARD FREEZE item. -/
def isCardFreeze (it : Item) : Bool :=
  match it.body with
  | .cardFreeze _ => true
  | _ => false

/-- A CARD THAW item. -/
def isCardThaw (it : Item) : Bool :=
  match it.body with
  | .cardThaw _ => true
  | _ => false

/-- A CARD WRITE item. -/
def isCardWrite (it : Item) : Bool :=
  match it.body with
  | .cardWrite _ _ => true
  | _ => false

/-- A command that names a card index: one above 16,777,215 names no card record (R13). -/
def onCard (card : Nat) (f : State → State) (s : State) : Host.Outcome State Fault Refusal :=
  if card < cardTableSize then .next (f s) else .fault (.noSuchCard card)

/-! ## The commands -/

/-- INQUIRE (R65). -/
def execInquire (card : Nat) (s : State) : Host.Outcome State Fault Refusal :=
  onCard card (takeHead (isTill .inquire) card) s

/-- ACTIVATE (R85). -/
def execActivate (card : Nat) (s : State) : Host.Outcome State Fault Refusal :=
  onCard card (takeHead (isTill .activate) card) s

/-- LOAD (R86). -/
def execLoad (card : Nat) (s : State) : Host.Outcome State Fault Refusal :=
  onCard card (takeHead (isTill .load) card) s

/-- REDEEM (R43). -/
def execRedeem (card : Nat) (s : State) : Host.Outcome State Fault Refusal :=
  onCard card (takeHead (isTill .redeem) card) s

/-- HOLD (R44). -/
def execHold (card : Nat) (s : State) : Host.Outcome State Fault Refusal :=
  onCard card (takeHead (isTill .hold) card) s

/-- COMPLETE (R59). -/
def execComplete (card : Nat) (s : State) : Host.Outcome State Fault Refusal :=
  onCard card (takeHead (isTill .complete) card) s

/-- RELEASE (R64). -/
def execRelease (card : Nat) (s : State) : Host.Outcome State Fault Refusal :=
  onCard card (takeHead (isTill .release) card) s

/-- REVERSE (R101). -/
def execReverse (card : Nat) (s : State) : Host.Outcome State Fault Refusal :=
  onCard card (takeHead (isTill .reverse) card) s

/-- WITHDRAW (R40). -/
def execWithdraw (card : Nat) (s : State) : Host.Outcome State Fault Refusal :=
  onCard card (takeHead (isTill .withdraw) card) s

/-- LAPSE (R77). -/
def execLapse (card : Nat) (s : State) : Host.Outcome State Fault Refusal :=
  onCard card (takeHead isLapse card) s

/-- DROP_ITEM (R81). -/
def execDropItem (card : Nat) (s : State) : Host.Outcome State Fault Refusal :=
  onCard card (takeHead isDrop card) s

/-- CARD_READ_AT_CARD (R170). -/
def execCardReadAtCard (card : Nat) (s : State) : Host.Outcome State Fault Refusal :=
  onCard card (takeHead isCardRead card) s

/-- CARD_FREEZE_AT_CARD (R109). -/
def execCardFreezeAtCard (card : Nat) (s : State) : Host.Outcome State Fault Refusal :=
  onCard card (takeHead isCardFreeze card) s

/-- CARD_THAW_AT_CARD (R109). -/
def execCardThawAtCard (card : Nat) (s : State) : Host.Outcome State Fault Refusal :=
  onCard card (takeHead isCardThaw card) s

/-- CARD_WRITE_AT_CARD (R110). -/
def execCardWriteAtCard (card : Nat) (s : State) : Host.Outcome State Fault Refusal :=
  onCard card (takeHead isCardWrite card) s

end Sys2Proof.Machine
end

