-- ==== Sys2Proof/Machine/Dispatcher.lean ====
section
/-!
DEFINITION. The Dispatcher (2.1, 2.4): the round-robin over the intake heads, the dispatch of a request, and the withdrawal.
-/

namespace Sys2Proof.Machine

/-! ## The round-robin (R20) -/

/-- The store links in the order they are considered after a last-served link (R20). -/
def linksAfter : StoreLink → List StoreLink
  | .s0 => [.s1, .s2, .s3, .s0]
  | .s1 => [.s2, .s3, .s0, .s1]
  | .s2 => [.s3, .s0, .s1, .s2]
  | .s3 => [.s0, .s1, .s2, .s3]

/-- A store link is eligible (R20). -/
def eligible (s : State) (l : StoreLink) : Bool :=
  !(s.storeUnit l).intake.isEmpty && !s.dispatcher.blocked.contains l

/-- The link whose head is taken next (R20). -/
def nextLink (s : State) : Option StoreLink := (linksAfter s.dispatcher.last).find? (eligible s)

/-! ## Withdrawal (R38, R39) -/

/-- An item is a target of a WITHDRAW (R38). -/
def isTarget (till : TillId) (seq : Nat) (it : Item) : Bool :=
  match it.body with
  | .till t => decide (t.till = till) && t.seq == seq
  | _ => false

/-- A target is answered WITHDRAWN and leaves its program's in-flight count (R38). -/
def answerWithdrawn (s : State) (it : Item) : State :=
  match it.body with
  | .till t => countOut it.program (answerBare t .withdrawn s)
  | _ => s

/-- The park entry of a parked item's card becomes empty. -/
def unpark (card : Nat) (w : WatchUnit) : WatchUnit := { w with park := w.park.filter fun e => e.2.card != card }

/-- The current item of an entry, where it is a target (R38). -/
def currentTarget (till : TillId) (seq : Nat) (e : BusyEntry) : Option Item :=
  match e.current with
  | some it => if isTarget till seq it then some it else none
  | none => none

/-- A parked target leaves the Watch Park and its entry becomes ACTIVE (R38). -/
def withdrawCurrent (card : Nat) (target : Option Item) (s : State) : State :=
  match target with
  | none => s
  | some it =>
    answerWithdrawn
      (updateBusy card (fun x => { x with state := .active, current := none }) (s.withWatch (unpark card s.watch))) it

/-- The targets on an entry's waiting list are removed and answered, head first (R38). -/
def withdrawWaiting (card : Nat) (till : TillId) (seq : Nat) (targets : List Item) (s : State) : State :=
  targets.foldl answerWithdrawn
    (updateBusy card (fun x => { x with waiting := x.waiting.filter fun it => !isTarget till seq it }) s)

/-- A WITHDRAW that finds a target (R38). -/
def withdrawTargets (t : TillRequest) (card : Nat) (e : BusyEntry) (s : State) : State :=
  let seq := t.original.getD 0
  freeIfDone card
    (answerBare t .approved
      (withdrawWaiting card t.till seq (e.waiting.filter (isTarget t.till seq))
        (withdrawCurrent card (currentTarget t.till seq e) s)))

/-! ## Dispatch (R22, R23) -/

/-- What becomes of a request the Dispatcher takes. -/
inductive Dispatched where
  /-- it leaves its intake queue -/
  | consumed (s : State)
  /-- it stays at the head and its link joins the blocked set (R27) -/
  | blocked

/-- A request is handed to the Card Serialiser (R26, R27). -/
def dispatchItem (t : TillRequest) (p card : Nat) (s : State) : Dispatched :=
  match handOver { card := card, program := some p, skip := false, body := .till t } s with
  | (.entered, s') => .consumed s'
  | (.waitingFull, _) => .consumed (answerBare t .busy s)
  | (.listFull, _) => .blocked
  | (.quarantined, _) => .consumed (answerBare t .unavailable s)

/-- Step 5 of R23: a WITHDRAW (R38, R39). -/
def dispatchWithdraw (t : TillRequest) (p card : Nat) (s : State) : Dispatched :=
  match s.busyOf card with
  | none => dispatchItem t p card s
  | some e =>
    let seq := t.original.getD 0
    if (currentTarget t.till seq e).isSome || e.waiting.any (isTarget t.till seq) then
      .consumed (withdrawTargets t card e s)
    else if e.state = .active ∨ e.state = .parked then
      .consumed
        (answerBare t (if (findRecent t.till seq (recordOf s e).recents).isSome then .tooLate else .notFound) s)
    else dispatchItem t p card s

/-- The program that is not OFF with a prefix (R2). -/
def programOfPrefix (s : State) (issuer : Nat) : Option (Nat × ProgramEntry) :=
  s.programs.find? fun e => decide (e.2.status ≠ .off) && e.2.settings.issuer == issuer

/-- The card index of a serial of a program, where the serial lies in the program's range (R3). -/
def cardIndexOf (c : Settings) (serial : Nat) : Option Nat :=
  if c.firstSerial ≤ serial ∧ serial < c.firstSerial + c.serialCount then
    some (c.tableBase + (serial - c.firstSerial))
  else none

/-- The card check of R3: the check digit, then the serial. -/
def cardCheck (c : Settings) (digits : List Nat) : Option Nat :=
  if checkDigitValid digits then cardIndexOf c (serialOf digits) else none

/-- Steps 3 to 6 of R23, for a live request whose card index and program are fixed. -/
def dispatchLive (t : TillRequest) (p card : Nat) (s : State) : Dispatched :=
  if s.quarantined card then .consumed (answerBare t .unavailable s)
  else if s.dispatcher.intakeStop then .consumed (answerBare t .busy s)
  else if t.kind = .withdraw then dispatchWithdraw t p card s
  else dispatchItem t p card s

/-- Pass traffic (R23 step 1, R164): forwarded with its original payload, or answered UNAVAILABLE while C is DOWN. -/
def forward (q : Request) (t : TillRequest) (s : State) : State :=
  if s.central.link.up then handCentral (.forwardedRequest q.origin q.payload) s else answerBare t .unavailable s

/-- The dispatch of a request (R22, R23). -/
def dispatchRequest (q : Request) (s : State) : Dispatched :=
  match fieldCheck q with
  | none => .consumed (handStore q.origin (.answer (bareAnswer q.kindCode q.till q.seq .badRequest)) s)
  | some (t, digits) =>
    match programOfPrefix s (issuerOf digits) with
    | none => .consumed (forward q t s)
    | some (p, e) =>
      if e.status ≠ .live then .consumed (forward q t s)
      else
        match cardCheck e.settings digits with
        | none => .consumed (answerBare t .badCard s)
        | some card => dispatchLive t p card s

/-- The head of a link's intake queue leaves it (R161). -/
def popIntake (l : StoreLink) (s : State) : State :=
  s.setStoreUnit l { s.storeUnit l with intake := (s.storeUnit l).intake.tail }

/-- A link joins the blocked set (R27). -/
def blockLink (l : StoreLink) (s : State) : State :=
  if s.dispatcher.blocked.contains l then s
  else s.withDispatcher { s.dispatcher with blocked := s.dispatcher.blocked ++ [l] }

/-- The head of a link is taken: the link becomes the last-served link, and the request is dispatched (R20, R23, R27; log
entry 21). -/
def dispatchFrom (l : StoreLink) (s : State) : State :=
  let served := s.withDispatcher { s.dispatcher with last := l }
  match (s.storeUnit l).intake with
  | [] => s
  | q :: _ =>
    match dispatchRequest q served with
    | .consumed s' => popIntake l s'
    | .blocked => blockLink l served

/-- DISPATCH (R20, R23): the Dispatcher takes the next intake head, where a link is eligible and no engine reset is under way
(R178). -/
def execDispatch (s : State) : Host.Outcome State Fault Refusal :=
  .next (if s.working then
    match nextLink s with
    | some l => dispatchFrom l s
    | none => s
  else s)

end Sys2Proof.Machine
end

