-- ==== Sys2Proof/Machine/Links.lean ====
section
/-!
DEFINITION. The link units (chapter 10): carrier, the reception and sending of parcels, the intake queue and the pacer.
-/

namespace Sys2Proof.Machine

/-! ## Errors (R160) -/

/-- Record an error kind in a link's report; a kind that joins it raises LINK_ERROR (R160). -/
def recordError (l : Link) (k : LinkError) (s : State) : State :=
  let u := s.linkUnit l
  if u.errors.getLsbD (linkErrorBit k) then s
  else raiseNotice .linkError false (s.setLinkUnit l { u with errors := u.errors ||| bit8 (linkErrorBit k) })

/-- Record HEADER_CORRECTED where the header was corrected (R157). -/
def recordCorrected (l : Link) (corrected : Bool) (s : State) : State :=
  if corrected then recordError l .headerCorrected s else s

/-! ## The pacer (R162, R163) -/

/-- The state with the pacer of a store link replaced. -/
def State.setPacer (s : State) (l : StoreLink) (p : Pacer) : State :=
  s.setStoreUnit l { s.storeUnit l with pacer := p }

/-- The pacer after an arrival: in IDLE, with occupancy at or above the high mark, a PAUSE is sent (R162). -/
def pacerArrival (l : StoreLink) (s : State) : State :=
  let u := s.storeUnit l
  if u.pacer.state = .idle ∧ u.pacer.active.highMark ≤ u.intake.length then
    handStore l (.pause u.pacer.active.pauseTime)
      (s.setPacer l { u.pacer with state := .pausing, sent := 1, timer := u.pacer.active.pauseTime })
  else s

/-- The timer of a pacer expires (R162); the staged settings become active first (R163). -/
def pacerExpire (l : StoreLink) (s : State) : State :=
  let u := s.storeUnit l
  let p := { u.pacer with active := u.pacer.staged }
  match p.state with
  | .idle => s
  | .pausing => s.setPacer l { p with state := .gap, timer := p.active.gapTime }
  | .gap =>
    if p.active.lowMark ≤ u.intake.length ∧ (p.active.pauseCount = 0 ∨ p.sent < p.active.pauseCount) then
      handStore l (.pause p.active.pauseTime)
        (s.setPacer l { p with state := .pausing, sent := min 15 (p.sent + 1), timer := p.active.pauseTime })
    else s.setPacer l { p with state := .idle, sent := 0, timer := 0 }

/-- A millisecond tick at a pacer: a running timer falls by 1 and expires at the tick that brings it to 0 (R162). -/
def pacerTick (l : StoreLink) (s : State) : State :=
  let p := (s.storeUnit l).pacer
  if p.state = .idle then s
  else if p.timer ≤ 1 then pacerExpire l s
  else s.setPacer l { p with timer := p.timer - 1 }

/-- A pacer stopped by its link's going DOWN or by an engine reset (R162). -/
def stoppedPacer (p : Pacer) : Pacer := { p with state := .idle, timer := 0, sent := 0 }

/-! ## Reception (R159) -/

/-- A decoded request joins the intake queue, or is answered BUSY where the queue is full (R161). -/
def joinIntake (l : StoreLink) (q : Request) (s : State) : State :=
  let u := s.storeUnit l
  if intakeSize ≤ u.intake.length then
    handStore l (.answer (bareAnswer q.kindCode q.till q.seq .busy)) s
  else pacerArrival l (s.setStoreUnit l { u with intake := u.intake ++ [q] })

/-- A decoded command joins the management input FIFO, or is refused BUSY where the FIFO is full (R159). -/
def joinFifo (c : MgmtCommand) (s : State) : State :=
  if fifoSize ≤ s.central.fifo.length then reply c.code c.tag (.refused .busy) s
  else s.withCentral { s.central with fifo := s.central.fifo ++ [c] }

/-- A MGMT payload decodes when it holds at least 3 bytes (R181). -/
def decodeCommand (payload : List Byte) : Option MgmtCommand :=
  match payload with
  | code :: low :: high :: fields => some { code := code.toNat, tag := leNat [low, high], fields := fields }
  | _ => none

/-- A parcel that passes the receive checks up to the payload check is handed on, where its payload decodes (R159, check 5). -/
def handOn (l : Link) (h : Nat) (payload : List Byte) (s : State) : State :=
  match l with
  | .store k =>
    match decodeRequest k payload with
    | some q => joinIntake k q s
    | none => recordError l .decode s
  | .central =>
    if headerKind h = kindAnswer then
      handStore (storeLinkOf (headerReturn h)) (.forwardedAnswer (storeLinkOf (headerReturn h)) payload) s
    else
      match decodeCommand payload with
      | some c => joinFifo c s
      | none => recordError l .decode s

/-- A kind is accepted on a link (R155). -/
def acceptedKind (l : Link) (kind : Nat) : Bool :=
  match l with
  | .store _ => kind == kindRequest
  | .central => kind == kindAnswer || kind == kindMgmt

/-- Receive checks 3 to 5 (R159). An IDLE parcel is ignored. -/
def receiveFramed (l : Link) (h : Nat) (bytes : List Byte) (s : State) : State :=
  if headerKind h = kindIdle then s
  else if !acceptedKind l (headerKind h) then recordError l .unexpectedKind s
  else if !payloadOk h bytes then recordError l .payloadBad s
  else handOn l h (payloadOf h bytes) s

/-- A link unit receives a parcel whole (R159). A link in DOWN receives nothing (R152), and while RESET_N is low received
parcels are discarded (R178). Where a corrected header raises LINK_ERROR and the command meets a full FIFO, the NOTICE is handed
to C before the REFUSED BUSY; R155 lets either go first (DEDUCED, log entry 22). -/
def receive (l : Link) (bytes : List Byte) (s : State) : State :=
  if !(s.linkUnit l).up || !s.resetN then s
  else
    match frame bytes with
    | .headerBad => recordError l .headerBad s
    | .lengthBad corrected => recordError l .length (recordCorrected l corrected s)
    | .framed corrected h => receiveFramed l h bytes (recordCorrected l corrected s)

/-- REQUEST (R161): a parcel sent as a REQUEST is received on a store link. -/
def execRequest (l : StoreLink) (bytes : List Byte) (s : State) : Host.Outcome State Fault Refusal :=
  .next (receive (.store l) bytes s)

/-- ANSWER (R164): a parcel sent as an ANSWER is received on C. -/
def execAnswer (bytes : List Byte) (s : State) : Host.Outcome State Fault Refusal :=
  .next (receive .central bytes s)

/-- MGMT (R159): a parcel sent as a MGMT is received on C. -/
def execMgmt (bytes : List Byte) (s : State) : Host.Outcome State Fault Refusal :=
  .next (receive .central bytes s)

/-- IDLE (R159): a parcel sent as an IDLE is received on a link. -/
def execIdle (l : Link) (bytes : List Byte) (s : State) : Host.Outcome State Fault Refusal :=
  .next (receive l bytes s)

/-- UNEXPECTED_KIND (R159): a parcel sent as a kind its link does not accept is received. -/
def execUnexpectedKind (l : Link) (bytes : List Byte) (s : State) : Host.Outcome State Fault Refusal :=
  .next (receive l bytes s)

/-! ## Sending (R155) -/

/-- A link unit sends the oldest parcel handed to it (R155). -/
def sendParcel (l : Link) (s : State) : State :=
  let u := s.linkUnit l
  match u.out with
  | [] => s
  | p :: rest => if u.up then s.setLinkUnit l { u with out := rest, line := u.line ++ [parcelBytes l p] } else s

/-- PARCEL_SEND (R155). -/
def execParcelSend (l : Link) (s : State) : Host.Outcome State Fault Refusal := .next (sendParcel l s)

/-! ## Carrier (R152 to R154) -/

/-- An enabled kind is pending (R177). -/
def enabledPending (s : State) : Bool := s.mgmt.pending &&& s.mgmt.enabled != 0#8

/-- Carrier is present (R152): a link in DOWN becomes UP, and C's becoming UP sends a NOTICE where an enabled kind is pending
(R154, R177). -/
def carrierOn (l : Link) (s : State) : State :=
  let u := s.linkUnit l
  if u.up then s
  else
    let raised := s.setLinkUnit l { u with up := true }
    match l with
    | .store _ => raised
    | .central => if enabledPending raised then sendNotice raised else raised

/-- What a link unit keeps when its link becomes DOWN: the parcels still waiting are dropped and counted (R155). -/
def linkDown (u : LinkUnit) : LinkUnit :=
  { u with up := false, out := [], dropped := saturating u.dropped (u.out.countP countedDrop) }

/-- Carrier is lost (R152): a link in UP becomes DOWN, with the effects of R153 or R154. -/
def carrierOff (l : Link) (s : State) : State :=
  if !(s.linkUnit l).up then s
  else
    match l with
    | .central => s.setLinkUnit .central (linkDown (s.linkUnit .central))
    | .store k =>
      let u := s.storeUnit k
      let down := s.setStoreUnit k { link := linkDown u.link, intake := [], pacer := stoppedPacer u.pacer }
      down.withDispatcher { down.dispatcher with blocked := down.dispatcher.blocked.filter fun x => x != k }

/-- CARRIER_PRESENT (R152). -/
def execCarrierPresent (l : Link) (s : State) : Host.Outcome State Fault Refusal := .next (carrierOn l s)

/-- CARRIER_LOST (R152). -/
def execCarrierLost (l : Link) (s : State) : Host.Outcome State Fault Refusal := .next (carrierOff l s)

end Sys2Proof.Machine
end

