-- ==== Sys2Proof/Machine/Timebase.lean ====
section
/-!
DEFINITION. The timebase and what its ticks run (R68, R69): the pacer timers, the Watch Park timeouts (R123), the expiry list
(R75) and the issue of lapse items (R76).
-/

namespace Sys2Proof.Machine

/-! ## The second tick's work: Watch Park timeouts (R123) -/

/-- A parked item leaves the park answered REFERRED, with the balances as the record stands (R122, R123): the park entry is
empty, the busy entry becomes ACTIVE, and the item leaves its program's in-flight count. -/
def referParked (id : Nat) (p : ParkEntry) (s : State) : State :=
  let opened :=
    updateBusy p.card (fun x => { x with state := .active, current := none })
      (s.withWatch { s.watch with park := Tab.erase s.watch.park id })
  let answered :=
    match p.item.body, s.busyOf p.card with
    | .till t, some e => answerTaken t .referred false none none none (recordOf s e) opened
    | _, _ => opened
  freeIfDone p.card (countOut p.item.program answered)

/-- The park entries whose expiry second is reached, in ascending park id (R123). -/
def expiredParks (s : State) : List (Nat × ParkEntry) :=
  s.watch.park.filter fun e => decide (e.2.expirySecond ≤ s.time.seconds)

/-- The Watch Park timeouts of a second tick (R123). No entry times out while an engine reset is under way (R178). -/
def watchTimeouts (s : State) : State :=
  let expired := expiredParks s
  if !s.working || expired.isEmpty then s
  else raiseNotice .watchTimeout false (expired.foldl (fun s e => referParked e.1 e.2 s) s)

/-! ## The minute tick's work: holds falling due and lapse items (R75, R76) -/

/-- A slot becomes LAPSE_DUE with issued = no (R75). -/
def makeDue (s : State) (n : Nat) : State := s.setSlot n { s.slot n with state := .lapseDue, issued := false }

/-- The expiry minute of a slot is reached (R75). -/
def isDue (s : State) (n : Nat) : Bool := decide ((s.slot n).expiryMinute ≤ s.time.minutes)

/-- Every OPEN slot at the front of the expiry list whose expiry minute is reached leaves it and becomes LAPSE_DUE (R75). -/
def dueHolds (s : State) : State :=
  ((s.expiryList.takeWhile (isDue s)).foldl makeDue s).withExpiryList (s.expiryList.dropWhile (isDue s))

/-- Issue the lapse item of a slot (R76): the slot's issued flag becomes yes where the item enters. -/
def issueLapse (s : State) (n : Nat) : State :=
  let h := s.slot n
  match handOver
      { card := h.card, program := some h.program, skip := false,
        body := .lapse { slot := n, reuse := h.reuse } none } s with
  | (.entered, s') => s'.setSlot n { h with issued := true }
  | _ => s

/-- The slots in LAPSE_DUE whose issued flag is no, in ascending slot number (R76). -/
def unissuedSlots (s : State) : List Nat :=
  (s.slots.filter fun e => decide (e.2.state = .lapseDue) && !e.2.issued).map (·.1)

/-- The issue of lapse items at a minute tick (R76); none is issued while an engine reset is under way (R69, R178). -/
def issueLapses (s : State) : State := if s.working then (unissuedSlots s).foldl issueLapse s else s

/-! ## The ticks (R68) -/

/-- The minute tick (R68, R75, R76). The minutes counter stops at its last value and then produces no tick. -/
def minuteTick (s : State) : State :=
  if s.time.minutes = counterMax then s.withTime { s.time with secondPhase := 0 }
  else issueLapses (dueHolds (s.withTime { s.time with secondPhase := 0, minutes := s.time.minutes + 1 }))

/-- The second tick (R68, R123); every 60th brings the minute tick. The seconds counter stops at its last value and then
produces no tick. The park timeouts of a second tick that is also a minute tick come before its minute tick (DESIGN CHOICE,
log entry 52). -/
def secondTick (s : State) : State :=
  if s.time.seconds = counterMax then s.withTime { s.time with milliseconds := 0 }
  else
    let ticked :=
      watchTimeouts
        (s.withTime
          { s.time with
            milliseconds := 0, seconds := s.time.seconds + 1, secondPhase := s.time.secondPhase + 1 })
    if 59 ≤ s.time.secondPhase then minuteTick ticked else ticked

/-- The millisecond tick (R68, R162): the divider returns to 0 and the pacer timers run; every 1,000th brings the second
tick. The PAUSEs of the pacers, S0 to S3, are handed before the answers of that second tick (DESIGN CHOICE, log entry 50). -/
def millisecondTick (s : State) : State :=
  let ticked :=
    pacerTick .s3 (pacerTick .s2 (pacerTick .s1 (pacerTick .s0
      (s.withTime { s.time with divider := 0, milliseconds := s.time.milliseconds + 1 }))))
  if 999 ≤ s.time.milliseconds then secondTick ticked else ticked

/-- One cycle of the reference clock (R68). -/
def clockCycle (s : State) : State :=
  if 24999 ≤ s.time.divider then millisecondTick s
  else s.withTime { s.time with divider := s.time.divider + 1 }

/-! ## The commands -/

/-- MILLISECOND_TICK (R68). -/
def execMillisecondTick (s : State) : Host.Outcome State Fault Refusal := .next (millisecondTick s)

/-- PACER_EXPIRY (R162). -/
def execPacerExpiry (l : StoreLink) (s : State) : Host.Outcome State Fault Refusal := .next (pacerExpire l s)

/-- SECOND_TICK (R68). -/
def execSecondTick (s : State) : Host.Outcome State Fault Refusal := .next (secondTick s)

/-- WATCH_TIMEOUT (R123). -/
def execWatchTimeout (s : State) : Host.Outcome State Fault Refusal := .next (watchTimeouts s)

/-- MINUTE_TICK (R68). -/
def execMinuteTick (s : State) : Host.Outcome State Fault Refusal := .next (minuteTick s)

/-- HOLD_DUE (R75). -/
def execHoldDue (s : State) : Host.Outcome State Fault Refusal := .next (dueHolds s)

end Sys2Proof.Machine
end

