-- ==== Sys2Proof/Machine/TableMemory.lean ====
section
/-!
DEFINITION. The Table Memory Controller (8.6): the completion of DRAM reads and writes, the quarantine rule, the written mark,
LOAD CLEAR and CARD RESTORE.
-/

namespace Sys2Proof.Machine

/-! ## Reads (R134, R135) -/

/-- A queued write of the read's address was queued before the read (R135). -/
def blocksRead (r : QueuedRead) (w : QueuedWrite) : Bool := decide (w.id < r.after) && sameAddress w.body r.body

/-- The oldest queued read of a kind leaves the read queue, where it can complete: the writes of its address queued before
it have completed (R135). What it delivers is `readCard` or `readEntry`, before it leaves. A write of its address queued after it
may complete before it (DESIGN CHOICE, log entry 53). -/
def takeRead (b : ReadBody) (s : State) : Option State :=
  match s.tmc.reads.find? fun r => decide (r.body = b) with
  | none => none
  | some r =>
    if s.tmc.writes.any (blocksRead r) then none
    else some (s.withTmc { s.tmc with reads := s.tmc.reads.eraseP fun r => decide (r.body = b) })

/-- Several reads leave the read queue together. -/
def takeReads : List ReadBody → State → Option State
  | [], s => some s
  | b :: bs, s =>
    match takeRead b s with
    | none => none
    | some s' => takeReads bs s'

/-- The correctable-error count after `n` corrected reads (R134). -/
def countCorrected (n : Nat) (s : State) : State :=
  s.withTmc { s.tmc with corrected := saturating s.tmc.corrected n }

/-- How many outcomes are "corrected". -/
def correctedIn (outcomes : List ReadOutcome) : Nat := outcomes.countP fun o => decide (o = .corrected)

/-- The record a fetch of a card delivers (R135): undefined where nothing has written it (R19). -/
def fetchedRecord (s : State) (card : Nat) : CardRecord :=
  match readCard (.fetch card) card s with
  | some r => r
  | none => Config.undefinedCard s.powerOns card

/-- What a queued read that no busy entry waits for delivers of a card record (R135, R170): the record's bytes as stored, or the
undefined bytes of a location that nothing has written since power-on (log entry 8). -/
def directCardBytes (s : State) (body : ReadBody) (card : Nat) : List Byte :=
  match readCard body card s with
  | some r => encodeCardRecord r
  | none => (List.range cardRecordBytes).map fun k => Config.undefinedCardByte s.powerOns card k

/-- What a journal read delivers of a ring position (R135, R148), as above. -/
def ringBytes (s : State) (position : Nat) : List Byte :=
  match readEntry position s with
  | some e => encodeJournalEntry e
  | none => (List.range journalEntryBytes).map fun k => Config.undefinedJournalByte s.powerOns position k

/-! ## The quarantine rule (R136) -/

/-- Steps 1 and 2 of R136 for an uncorrectable read of a card record. `mayList` is false where the read is a direct read of a
card with a busy entry; where the list is full as well, MEMORY_ERROR is raised without its qualifier (DESIGN CHOICE, log entry
49). -/
def quarantineRule (card : Nat) (mayList : Bool) (s : State) : State :=
  if s.quarantined card || !mayList then raiseNotice .memoryError false s
  else if s.tmc.quarantine.length < quarantineSize then
    raiseNotice .memoryError false
      (invalidateCard card (s.withTmc { s.tmc with quarantine := s.tmc.quarantine ++ [card] }))
  else raiseNotice .memoryError true s

/-- The quarantine rule for a direct read, which lists no card that has a busy entry (R136). -/
def quarantineDirect (card : Nat) (s : State) : State := quarantineRule card (s.busyOf card).isNone s

/-- An item of an entry whose fetch completes uncorrectable is answered or dismissed (R28, R79, R81). -/
def dismissItem (s : State) (it : Item) : State :=
  countOut it.program
    (match it.body with
    | .till t => answerBare t .unavailable s
    | .lapse ref dropTag => answerDrop dropTag (.refused .unavailable) (unissue it.card ref s)
    | .cardRead tag => replyStarted codeCardRead tag (.refused .unavailable) s
    | .cardFreeze tag => replyStarted codeCardFreeze tag (.refused .unavailable) s
    | .cardThaw tag => replyStarted codeCardThaw tag (.refused .unavailable) s
    | .cardWrite tag _ => replyStarted codeCardWrite tag (.refused .unavailable) s)

/-! ## Fetches (R28) -/

/-- The busy entry that the data of a completed fetch serves: one in FETCHING, where no later fetch of the card is queued
(log entry 15). -/
def fetchingEntry (card : Nat) (s : State) : Option BusyEntry :=
  match s.busyOf card with
  | none => none
  | some e =>
    if e.state = .fetching ∧ (s.tmc.reads.any fun r => decide (r.body = .fetch card)) = false then some e else none

/-- A fetch completes with data (R28, R134). -/
def fetchData (card : Nat) (corrected : Bool) (s : State) : State :=
  match takeRead (.fetch card) s with
  | none => s
  | some taken =>
    let counted := if corrected then countCorrected 1 taken else taken
    match fetchingEntry card counted with
    | none => counted
    | some e =>
      updateBusy card (fun x => { x with state := .active })
        (counted.setWayAt card (e.way.getD 0)
          { valid := true, tag := tagOf card, record := fetchedRecord s card, pinned := true })

/-- A fetch completes uncorrectable (R28, R136): the card is handled by the quarantine rule, and its busy entry, where it has
one, ends: its waiting items are answered or dismissed, head first, and it is freed. So does an entry made since a withdrawal
freed the one that the fetch was queued for (DEDUCED, log entry 38). -/
def fetchLost (card : Nat) (s : State) : State :=
  match takeRead (.fetch card) s with
  | none => s
  | some taken =>
    let ruled := quarantineRule card true taken
    match taken.busyOf card with
    | none => ruled
    | some e => freeEntry card (e.waiting.foldl dismissItem ruled)

/-- FETCH_COMPLETE (R28). -/
def execFetchComplete (card : Nat) (corrected : Bool) (s : State) : Host.Outcome State Fault Refusal :=
  onCard card (fetchData card corrected) s

/-- FETCH_UNCORRECTABLE (R28). -/
def execFetchUncorrectable (card : Nat) (s : State) : Host.Outcome State Fault Refusal :=
  onCard card (fetchLost card) s

/-! ## Writes (R135) -/

/-- A queued write of a card's record. -/
def writesCard (card : Nat) (w : QueuedWrite) : Bool :=
  match w.body with
  | .card index _ _ => index == card
  | .journal _ _ => false

/-- The oldest queued write of a card's record: its record and who queued it (R135). -/
def oldestCardWrite (card : Nat) (s : State) : Option (CardRecord × CardWriter) :=
  match s.tmc.writes.find? (writesCard card) with
  | some w =>
    match w.body with
    | .card _ r who => some (r, who)
    | .journal _ _ => none
  | none => none

/-- The oldest queued write of a card's record reaches DRAM. -/
def storeCard (card : Nat) (r : CardRecord) (s : State) : State :=
  (s.withCards (Tab.insert s.cards card r)).withTmc
    { s.tmc with writes := s.tmc.writes.eraseP (writesCard card) }

/-- The answer of a started command whose work ends; none is sent once an engine reset is under way (R139, R178). -/
def replyEnded (code tag : Nat) (result : MgmtResult) (s : State) : State :=
  if s.resetPending then endCommand code tag s else replyStarted code tag result s

/-- A write-through of a card's record completes (R29): the entry's outstanding-write count falls, and the entry is freed
where nothing keeps it. -/
def completeCardWrite (card : Nat) (r : CardRecord) (s : State) : State :=
  freeIfDone card (updateBusy card (fun x => { x with writes := x.writes - 1 }) (storeCard card r s))

/-- CARD_RECORD_WRITE_COMPLETE: the oldest queued write of a card completes, where the Card Serialiser or LOAD DATA queued it
(R29, R135; log entry 16). -/
def cardWriteDone (card : Nat) (s : State) : State :=
  match oldestCardWrite card s with
  | some (r, .serialiser) => completeCardWrite card r s
  | some (r, .loadData) => storeCard card r s
  | some (_, .loadClear _) => s
  | some (_, .restore) => s
  | none => s

/-- CARD_RECORD_WRITE_COMPLETE (R29). -/
def execCardRecordWriteComplete (card : Nat) (s : State) : Host.Outcome State Fault Refusal :=
  onCard card (cardWriteDone card) s

/-! ## The written mark (R144) -/

/-- Move the written mark across the noted sequences that follow it. The first argument bounds the steps. -/
def advanceMark : Nat → Nat → List Nat → Nat × List Nat
  | 0, written, noted => (written, noted)
  | n + 1, written, noted =>
    if noted.contains (successor written) then advanceMark n (successor written) (noted.erase (successor written))
    else (written, noted)

/-- The journal's marks after the write of an entry completes (R144). -/
def markWritten (seq : Nat) (j : Journal) : Journal :=
  if seq = successor j.written then
    let moved := advanceMark j.noted.length seq j.noted
    { j with written := moved.1, noted := moved.2 }
  else { j with noted := j.noted ++ [seq] }

/-- A queued write of the journal entry with a sequence. -/
def writesSeq (seq : Nat) (w : QueuedWrite) : Bool :=
  match w.body with
  | .journal _ e => e.seq == seq
  | .card _ _ _ => false

/-- The write of the journal entry with a sequence completes (R144). -/
def journalWriteDone (seq : Nat) (s : State) : State :=
  match s.tmc.writes.find? (writesSeq seq) with
  | none => s
  | some w =>
    match w.body with
    | .card _ _ _ => s
    | .journal position e =>
      ((s.withRing (Tab.insert s.ring position e)).withJournal (markWritten seq s.journal)).withTmc
        { s.tmc with writes := s.tmc.writes.eraseP (writesSeq seq) }

/-- JOURNAL_WRITE_COMPLETE (R144). -/
def execJournalWriteComplete (sequence : Nat) (s : State) : Host.Outcome State Fault Refusal :=
  if 1 ≤ sequence ∧ sequence ≤ counterMax then .next (journalWriteDone sequence s)
  else .fault (.noSuchSequence sequence)

/-! ## LOAD CLEAR (R137) -/

/-- The cleared record (R19). -/
def clearedRecord (p day : Nat) : CardRecord :=
  { program := p, state := .inactive, paid := 0, bonus := 0, bonusExpiry := none, held := 0, openHolds := 0,
    lastDay := day, dayCount := 0, dayAmount := 0, verify := none, verifyFailures := 0, frozen := false, recents := [] }

/-- A load write of a card index by a program makes every other program whose range holds the index not initialised (R9). -/
def uninitialiseOthers (p card : Nat) (s : State) : State :=
  s.withPrograms
    (Tab.update ProgramEntry.initial
      (fun q e => if q ≠ p ∧ inRange e.settings card then { e with initialised := false } else e) s.programs)

/-- A LOAD DATA or LOAD CLEAR write of a card index is queued (R137, R138). -/
def queueLoadWrite (p card : Nat) (r : CardRecord) (who : CardWriter) (s : State) : State :=
  uninitialiseOthers p card (invalidateCard card (queueWrite (.card card r who) s))

/-- The LOAD CLEAR of a program that is in progress. -/
def clearOf (p : Nat) (s : State) : Option ClearJob := s.tmc.clears.find? fun c => c.program == p

/-- Change the LOAD CLEAR of a program. -/
def updateClear (p : Nat) (f : ClearJob → ClearJob) (s : State) : State :=
  s.withTmc { s.tmc with clears := s.tmc.clears.map fun c => if c.program = p then f c else c }

/-- The next write of a program's LOAD CLEAR is queued (R137); none once an engine reset is under way (R178). -/
def clearQueueNext (p : Nat) (s : State) : State :=
  match clearOf p s with
  | none => s
  | some c =>
    if s.working ∧ c.queued < c.count then
      updateClear p (fun c => { c with queued := c.queued + 1 })
        (queueLoadWrite p (c.base + c.queued) (clearedRecord p s.mgmt.day) (.loadClear p) s)
    else s

/-- LOAD_CLEAR_WRITE_QUEUE (R137). -/
def execLoadClearWriteQueue (program : Nat) (s : State) : Host.Outcome State Fault Refusal :=
  if program < programTableSize then .next (clearQueueNext program s) else .fault (.noSuchProgram program)

/-- A LOAD CLEAR whose every write has completed is complete (R137, R175). -/
def endClear (c : ClearJob) (s : State) : State :=
  replyEnded codeLoadClear c.tag (.done (num 31 c.program ++ num 16777216 c.count))
    ((s.withTmc { s.tmc with clears := s.tmc.clears.filter fun x => x.program != c.program }).setProgram c.program
      { s.program c.program with initialised := true })

/-- A LOAD CLEAR write of a program completes (R137). -/
def clearWriteDone (p card : Nat) (r : CardRecord) (s : State) : State :=
  let stored := storeCard card r s
  match clearOf p stored with
  | none => stored
  | some c =>
    let counted := updateClear p (fun c => { c with completed := c.completed + 1 }) stored
    if c.completed + 1 = c.count then endClear c counted else counted

/-- The oldest queued write of a card completes, where a LOAD CLEAR queued it (R137). -/
def clearWriteComplete (card : Nat) (s : State) : State :=
  match oldestCardWrite card s with
  | some (r, .loadClear p) => clearWriteDone p card r s
  | _ => s

/-- LOAD_CLEAR_WRITE_COMPLETE (R137). -/
def execLoadClearWriteComplete (card : Nat) (s : State) : Host.Outcome State Fault Refusal :=
  onCard card (clearWriteComplete card) s

/-! ## CARD RESTORE (R113) -/

/-- The open holds of a card: those in OPEN or LAPSE_DUE. -/
def openHoldsOf (s : State) (card : Nat) : List HoldSlot :=
  (s.slots.filter fun e => e.2.card == card && decide (e.2.state ≠ .free)).map (·.2)

/-- The bonus expiry of a restored record (R113). -/
def restoredExpiry (day : Nat) (held : Bool) (l : LoadRecord) : Option Nat :=
  if 0 < l.bonus then l.bonusExpiry
  else if held then some (l.bonusExpiry.getD day)
  else none

/-- The restored record (R113). -/
def restoredRecord (job : RestoreJob) (day : Nat) (holds : List HoldSlot) : CardRecord :=
  { program := job.program
    state := (cardStateOf job.load.stateCode).getD .inactive
    paid := job.load.paid
    bonus := job.load.bonus
    bonusExpiry := restoredExpiry day (holds.any fun h => decide (0 < h.bonusPart)) job.load
    held := (holds.map (·.amount)).sum
    openHolds := holds.length
    lastDay := day
    dayCount := 0
    dayAmount := 0
    verify := job.load.verify.bind verifyValueOf
    verifyFailures := 0
    frozen := false
    recents := [] }

/-- The restore is refused: the card stays quarantined and nothing is written (R113). -/
def refuseRestore (job : RestoreJob) (reason : Reason) (s : State) : State :=
  replyStarted codeCardRestore job.tag (.refused reason) (s.withTmc { s.tmc with restore := none })

/-- The ADJUST entry of a restore (R113). -/
def restoreEntry (job : RestoreJob) (s : State) (r : CardRecord) : JournalEntry :=
  { entryFor .adjust job.card s r with
    program := job.program, paidDelta := r.paid, bonusDelta := r.bonus, heldDelta := r.held, restore := true }

/-- The scan of a restore has ended (R113). -/
def completeScan (job : RestoreJob) (s : State) : State :=
  let holds := openHoldsOf s job.card
  if job.load.stateCode = 0 ∧ holds ≠ [] then refuseRestore job .state s
  else if journalFree s = 0 then refuseRestore job .journalFull s
  else
    let r := restoredRecord job s.mgmt.day holds
    let queued := queueWrite (.card job.card r .restore) (appendJournal (restoreEntry job s r) s)
    queued.withTmc { queued.tmc with restore := some { job with written := some (r, s.journal.next) } }

/-- The scan of the CARD RESTORE in progress ends (R113); nothing is queued once an engine reset is under way (R178). -/
def scanEnd (s : State) : State :=
  match s.tmc.restore with
  | none => s
  | some job => if s.working ∧ job.written = none then completeScan job s else s

/-- RESTORE_SCAN_END (R113). -/
def execRestoreScanEnd (s : State) : Host.Outcome State Fault Refusal := .next (scanEnd s)

/-- The restored record's write has completed (R113): the card leaves the quarantine list and the command is answered. -/
def endRestore (job : RestoreJob) (r : CardRecord) (seq : Nat) (s : State) : State :=
  replyEnded codeCardRestore job.tag (.done (encodeCardRecord r ++ num counterMax seq))
    (s.withTmc { s.tmc with restore := none, quarantine := s.tmc.quarantine.erase job.card })

/-- The write of a restored record completes, once it is the oldest of its address (R113, R135). -/
def restoreWriteDone (s : State) : State :=
  match s.tmc.restore with
  | none => s
  | some job =>
    match job.written, oldestCardWrite job.card s with
    | some (r, seq), some (stored, .restore) => endRestore job r seq (storeCard job.card stored s)
    | _, _ => s

/-- RESTORE_WRITE_COMPLETE (R113). -/
def execRestoreWriteComplete (s : State) : Host.Outcome State Fault Refusal := .next (restoreWriteDone s)

/-! ## The Management Unit's reads -/

/-- The code of JOURNAL READ (12.3). -/
def codeJournalRead : Nat := 0x04
/-- The code of LOAD FETCH (12.3). -/
def codeLoadFetch : Nat := 0x29

/-- The Management Unit's read has ended, and its command is answered (R147, R170, R174). -/
def endRead (code tag : Nat) (result : MgmtResult) (s : State) : State :=
  reply code tag result (s.withMgmt { s.mgmt with reading := none })

/-- The read of a direct CARD READ completes (R135, R170). -/
def directDone (outcome : ReadOutcome) (s : State) : State :=
  match s.mgmt.reading with
  | some (.card tag index) =>
    match takeRead (.direct index) s with
    | none => s
    | some taken =>
      let data := cardReadData index 1 (directCardBytes s (.direct index) index)
      match outcome with
      | .data => endRead codeCardRead tag (.done data) taken
      | .corrected => endRead codeCardRead tag (.done data) (countCorrected 1 taken)
      | .uncorrectable =>
        endRead codeCardRead tag (.refused .unavailable) (quarantineDirect index taken)
  | _ => s

/-- CARD_READ_DIRECT_COMPLETE (R170). -/
def execCardReadDirectComplete (outcome : ReadOutcome) (s : State) : Host.Outcome State Fault Refusal :=
  .next (directDone outcome s)

/-- The ring position of a sequence the journal holds (R143). -/
def positionOf (j : Journal) (seq : Nat) : Nat :=
  (j.position + ringSize - j.occupancy + stepsFrom j.oldest seq) % ringSize

/-- The ring positions of a JOURNAL READ's selection, in sequence order (R147). -/
def selectionPositions (j : Journal) (sel : JournalSelection) : List Nat :=
  (countUp sel.count 0).map fun k => (positionOf j sel.first + k) % ringSize

/-- The data of a JOURNAL READ's DONE answer (R148), over the bytes of its entries. -/
def journalData (sel : JournalSelection) (entries : List Byte) : List Byte :=
  entries ++ num 64 sel.count ++ num 1 (indication sel.more) ++ num counterMax sel.continuation
    ++ num counterMax sel.oldest ++ num counterMax sel.written ++ num 1048576 sel.free

/-- The reads of a JOURNAL READ complete (R148). There is one outcome for each entry selected. -/
def journalReadDone (outcomes : List ReadOutcome) (s : State) : State :=
  match s.mgmt.reading with
  | some (.journal tag sel) =>
    if outcomes.length = sel.count then
      let positions := selectionPositions s.journal sel
      match takeReads (positions.map .journal) s with
      | none => s
      | some taken =>
        let counted := countCorrected (correctedIn outcomes) taken
        if outcomes.contains .uncorrectable then
          endRead codeJournalRead tag (.refused .unavailable) (raiseNotice .memoryError false counted)
        else endRead codeJournalRead tag (.done (journalData sel (positions.flatMap (ringBytes s)))) counted
    else s
  | _ => s

/-- JOURNAL_READ_COMPLETE (R148). -/
def execJournalReadComplete (outcomes : List ReadOutcome) (s : State) : Host.Outcome State Fault Refusal :=
  .next (journalReadDone outcomes s)

/-- The end of a window's program range: one past its last card index (R172). -/
def windowEnd (s : State) : Nat :=
  match s.mgmt.window with
  | .closed => 0
  | .opened _ p _ => (s.program p).settings.tableBase + (s.program p).settings.serialCount

/-- The window's pointer moves (R172). -/
def movePointer (pointer : Nat) (s : State) : State :=
  s.withMgmt
    { s.mgmt with
      window :=
        match s.mgmt.window with
        | .closed => .closed
        | .opened d p _ => .opened d p pointer }

/-- The data of a LOAD FETCH's DONE answer (R174): the records, each with its card index, the new pointer, the "more"
indication and the failing card index where there is one. -/
def loadFetchData (s : State) (first count pointer : Nat) (failing : Option Nat) : List Byte :=
  (countUp count first).flatMap (fun card => num 16777215 card ++ directCardBytes s (.window card) card)
    ++ num 16777216 pointer ++ num 1 (indication (decide (pointer < windowEnd s))) ++ optional (num 16777215) failing

/-- The outcomes of a LOAD FETCH that read `count` records (R174): data for every one, or data up to one that completes
uncorrectable, after which none is read. -/
def fetchOutcomesOk (count : Nat) (outcomes : List ReadOutcome) : Bool :=
  if outcomes.contains .uncorrectable then
    decide (outcomes.length ≤ count) && !(outcomes.dropLast.contains .uncorrectable)
  else outcomes.length == count

/-- The reads of a LOAD FETCH complete (R174). -/
def loadFetchDone (outcomes : List ReadOutcome) (s : State) : State :=
  match s.mgmt.reading with
  | some (.window tag first count) =>
    if fetchOutcomesOk count outcomes then
      match takeReads ((countUp count first).map .window) s with
      | none => s
      | some taken =>
        let counted := countCorrected (correctedIn outcomes) taken
        let pointer := first + outcomes.length
        if outcomes.contains .uncorrectable then
          endRead codeLoadFetch tag
            (.done (loadFetchData s first (outcomes.length - 1) pointer (some (pointer - 1))))
            (quarantineDirect (pointer - 1) (movePointer pointer counted))
        else
          endRead codeLoadFetch tag (.done (loadFetchData s first outcomes.length pointer none))
            (movePointer pointer counted)
    else s
  | _ => s

/-- LOAD_FETCH_COMPLETE (R174). -/
def execLoadFetchComplete (outcomes : List ReadOutcome) (s : State) : Host.Outcome State Fault Refusal :=
  .next (loadFetchDone outcomes s)

end Sys2Proof.Machine
end

