-- ==== Sys2Proof/Machine/Management.lean ====
section
/-!
DEFINITION. The Management Unit's taking of a command (11.1), and the commands of level 0 (12.3).
-/

namespace Sys2Proof.Machine

/-! ## Taking a command (R166) -/

/-- The level of a command code; nothing for a code that is not known (12.3). -/
def levelOf (code : Nat) : Option Nat :=
  if 0x01 ≤ code ∧ code ≤ 0x0A then some 0
  else if 0x10 ≤ code ∧ code ≤ 0x1C then some 1
  else if 0x20 ≤ code ∧ code ≤ 0x2E then some 2
  else none

/-- The command the Management Unit takes next: the head of the FIFO, where no read of an earlier command is under way
(R147, R166, R170, R174) and no engine reset (R178). -/
def headCommand (s : State) : Option MgmtCommand :=
  if s.working && s.mgmt.reading.isNone then s.central.fifo.head? else none

/-- The head command has left the FIFO. -/
def popCommand (s : State) : State := s.withCentral { s.central with fifo := s.central.fifo.tail }

/-- The taking of a command with a code (R166): the level check, then the command's own rule. Where the head of the FIFO is
another command, nothing is taken. -/
def takeCommand (code : Nat) (rule : MgmtCommand → State → State) (s : State) : State :=
  match headCommand s with
  | none => s
  | some c =>
    if c.code = code then
      if s.mgmt.level < (levelOf code).getD 0 then reply c.code c.tag (.refused .level) (popCommand s)
      else rule c (popCommand s)
    else s

/-- A command answered at once (R166): its rule gives the state and the result. -/
def atOnce (rule : List Byte → State → State × MgmtResult) (c : MgmtCommand) (s : State) : State :=
  let v := rule c.fields s
  reply c.code c.tag v.2 v.1

/-- Refused with nothing changed. -/
def refuse (reason : Reason) (s : State) : State × MgmtResult := (s, .refused reason)

/-- UNKNOWN_COMMAND (R166): a command whose code is not known is refused UNKNOWN. -/
def execUnknownCommand (s : State) : Host.Outcome State Fault Refusal :=
  .next
    (match headCommand s with
    | none => s
    | some c =>
      if (levelOf c.code).isNone then reply c.code c.tag (.refused .unknown) (popCommand s) else s)

/-! ## STATUS READ (R171) -/

/-- The number of slots in a state. -/
def slotsIn (st : SlotState) (s : State) : Nat := s.slots.countP fun e => decide (e.2.state = st)

/-- The program of an open window. -/
def windowProgram : Window → Option Nat
  | .closed => none
  | .opened _ p _ => some p

/-- The pointer of an open window. -/
def windowPointer : Window → Option Nat
  | .closed => none
  | .opened _ _ pointer => some pointer

/-- A link's part of STATUS READ's data. -/
def linkStatus (u : LinkUnit) : List Byte := num 1 (indication u.up) ++ [u.errors] ++ num 65535 u.dropped

/-- The data of STATUS READ (R171), in the order of its table. The five links go in the order S0, S1, S2, S3, C (DESIGN CHOICE,
log entry 12). -/
def statusData (s : State) : List Byte :=
  num 65535 s.mgmt.day ++ num counterMax s.time.seconds ++ num counterMax s.time.minutes
    ++ num 2 s.mgmt.level ++ num 1 (indication s.tblen) ++ num 64 s.mgmt.returnSize
    ++ num 2 (windowCode s.mgmt.window) ++ optional (num 31) (windowProgram s.mgmt.window)
    ++ optional (num 16777216) (windowPointer s.mgmt.window)
    ++ [s.mgmt.pending, s.mgmt.qualifiers, s.mgmt.enabled] ++ num 65535 s.mgmt.inFlight.length
    ++ num 1 (indication s.dispatcher.intakeStop) ++ num 256 s.busy.length ++ num 16 s.watch.park.length
    ++ num counterMax s.journal.oldest ++ num counterMax s.journal.newest ++ num counterMax s.journal.written
    ++ num 1048576 (journalFree s)
    ++ num 16384 (slotsIn .openHold s) ++ num 16384 (slotsIn .lapseDue s)
    ++ num 32 s.tmc.quarantine.length ++ num 65535 s.tmc.corrected
    ++ linkStatus s.stores.u0.link ++ linkStatus s.stores.u1.link ++ linkStatus s.stores.u2.link
    ++ linkStatus s.stores.u3.link ++ linkStatus s.central.link

/-- A link's error report is emptied (R160). -/
def clearErrors (l : Link) (s : State) : State := s.setLinkUnit l { s.linkUnit l with errors := 0#8 }

/-- STATUS READ (R171): the five error reports are emptied in the same event. -/
def statusRead (_ : List Byte) (s : State) : State × MgmtResult :=
  (clearErrors .central (clearErrors (.store .s3) (clearErrors (.store .s2) (clearErrors (.store .s1)
    (clearErrors (.store .s0) s)))), .done (statusData s))

/-- STATUS_READ (R171). -/
def execStatusRead (s : State) : Host.Outcome State Fault Refusal := .next (takeCommand 0x01 (atOnce statusRead) s)

/-! ## Naming cards and handing over management items (R108, R170) -/

/-- The card index a card name gives; nothing where the command is refused RANGE (R170). -/
def cardNamed (s : State) : CardName → Option Nat
  | .index n => if n < cardTableSize then some n else none
  | .number characters =>
    match digitsOf characters with
    | none => none
    | some digits =>
      match programOfPrefix s (issuerOf digits) with
      | none => none
      | some (_, e) => cardCheck e.settings digits

/-- The program in LIVE or DRAINING whose range holds a card index (R108, R170). -/
def servingProgram (s : State) (card : Nat) : Option Nat :=
  (s.programs.find? fun e =>
    decide (e.2.status = .live ∨ e.2.status = .draining) && inRange e.2.settings card).map (·.1)

/-- A management item is handed to the Card Serialiser (R26, R27, R108): a command whose item enters is started. -/
def startItem (code tag : Nat) (it : Item) (s : State) : State :=
  match handOver it s with
  | (.entered, s') => startCommand code tag s'
  | (.quarantined, _) => reply code tag (.refused .unavailable) s
  | (.waitingFull, _) => reply code tag (.refused .busy) s
  | (.listFull, _) => reply code tag (.refused .busy) s

/-- A management item for a card (R11, R30). -/
def managementItem (s : State) (card : Nat) (body : ItemBody) : Item :=
  { card := card, program := programOfCard s card, skip := false, body := body }

/-! ## CARD READ (R170) -/

/-- CARD READ (R170): through the card queue, or directly. -/
def cardRead (c : MgmtCommand) (s : State) : State :=
  match (cardFields c.fields).bind (cardNamed s) with
  | none => reply c.code c.tag (.refused .range) s
  | some card =>
    match servingProgram s card with
    | some _ => startItem c.code c.tag (managementItem s card (.cardRead c.tag)) s
    | none =>
      queueRead (.direct card) (s.withMgmt { s.mgmt with reading := some (.card c.tag card) })

/-- CARD_READ (R170). -/
def execCardRead (s : State) : Host.Outcome State Fault Refusal := .next (takeCommand codeCardRead cardRead s)

/-! ## HOLD READ (R83) -/

/-- A hold as HOLD READ returns it (R83), 34 bytes. -/
def holdBytes (n : Nat) (h : HoldSlot) : List Byte :=
  num 4194303 (holdRefNat { slot := n, reuse := h.reuse }) ++ num 2 (slotStateCode h.state) ++ num 16777215 h.card
    ++ num 31 h.program ++ tillBytes h.till ++ num 65535 h.seq ++ num 10000000 h.amount ++ num 10000000 h.bonusPart
    ++ num 10000000 h.paidPart ++ num 65535 h.openDay ++ num counterMax h.openMinute
    ++ num (counterMax + 10080) h.expiryMinute ++ num 1 (yesNoCode h.issued)

/-- How many holds of 34 bytes fit one answer beside the three bytes that follow them (R169). -/
def holdReadRoom : Nat := (answerRoom - 3) / 34

/-- The open holds from a slot upward (R83). -/
def openFrom (start : Nat) (s : State) : Tab HoldSlot :=
  s.slots.filter fun e => decide (start ≤ e.1) && decide (e.2.state ≠ .free)

/-- The slot number at which a following HOLD READ should start (R83). -/
def nextStart (start : Nat) (returned : Tab HoldSlot) : Nat :=
  match returned.getLast? with
  | some e => e.1 + 1
  | none => Config.holdReadNextWhenNone start

/-- HOLD READ (R83). -/
def holdRead (fields : List Byte) (s : State) : State × MgmtResult :=
  match oneNumber 16383 fields with
  | none => refuse .range s
  | some start =>
    if holdTableSize ≤ start then refuse .range s
    else
      let all := openFrom start s
      let returned := all.take (min s.mgmt.returnSize holdReadRoom)
      (s, .done
        (returned.flatMap (fun e => holdBytes e.1 e.2) ++ num 16384 (nextStart start returned)
          ++ num 1 (indication (decide (returned.length < all.length)))))

/-- HOLD_READ (R83). -/
def execHoldRead (s : State) : Host.Outcome State Fault Refusal := .next (takeCommand 0x03 (atOnce holdRead) s)

/-! ## JOURNAL READ (R147, R148) -/

/-- How many journal entries fit one answer beside the fields that follow them (R148, R169). -/
def journalReadRoom : Nat := (answerRoom - 17) / journalEntryBytes

/-- The sequence `n` successor steps after one (R142). -/
def stepSequence (first n : Nat) : Nat := (first - 1 + n) % counterMax + 1

/-- The first sequence a JOURNAL READ uses and how many entries are readable from it (R147). -/
def selectionStart (s : State) (start : Option Nat) : Nat × Nat :=
  match start with
  | none => (s.journal.oldest, readableCount s)
  | some n =>
    if atOrAfterOldest s n then (n, readableCount s - stepsFrom s.journal.oldest n)
    else (s.journal.oldest, readableCount s)

/-- What a JOURNAL READ selects, by the marks as they stand (R147). -/
def selectEntries (s : State) (start : Option Nat) : JournalSelection :=
  let v := selectionStart s start
  let count := min (min s.mgmt.returnSize journalReadRoom) v.2
  { first := v.1, count := count, more := decide (count < v.2), continuation := stepSequence v.1 count,
    oldest := s.journal.oldest, written := s.journal.written, free := journalFree s }

/-- JOURNAL READ (R147): the selection is fixed and its reads are queued; where nothing is selected it is answered at
once. -/
def journalRead (c : MgmtCommand) (s : State) : State :=
  match journalReadFields c.fields with
  | none => reply c.code c.tag (.refused .range) s
  | some start =>
    if start = some 0 then reply c.code c.tag (.refused .range) s
    else
      let sel := selectEntries s start
      if sel.count = 0 then reply c.code c.tag (.done (journalData sel [])) s
      else
        ((selectionPositions s.journal sel).map ReadBody.journal).foldl (fun s b => queueRead b s)
          (s.withMgmt { s.mgmt with reading := some (.journal c.tag sel) })

/-- JOURNAL_READ (R147). -/
def execJournalRead (s : State) : Host.Outcome State Fault Refusal := .next (takeCommand codeJournalRead journalRead s)

/-! ## PROGRAM READ and PROMOTION READ (R89, R171) -/

/-- The data of PROGRAM READ: every field of R4, in the order of its table. -/
def programData (e : ProgramEntry) : List Byte :=
  let c := e.settings
  num 4 (programStatusCode e.status) ++ optional (fun t => num 4 (programStatusCode t)) e.drainTarget
    ++ num 999999 c.issuer ++ num 999999999 c.firstSerial ++ num 16777216 c.serialCount ++ num 16777215 c.tableBase
    ++ num 1 (yesNoCode e.initialised) ++ num 10000000 c.maxBalance ++ num 10000000 c.minLoad
    ++ num 10000000 c.bonusCeiling ++ num 5000 c.tipTolerance ++ num 10080 c.holdLifetime ++ num 8 c.holdsPerCard
    ++ num 255 c.dayCountLimit ++ num 10000000 c.dayAmountLimit ++ num 1 (yesNoCode c.partialAllowed)
    ++ num 1 (yesNoCode c.verifyRemote) ++ num 16384 e.openHolds ++ num 2304 e.inFlight

/-- PROGRAM READ (R171). -/
def programRead (fields : List Byte) (s : State) : State × MgmtResult :=
  match oneNumber 31 fields with
  | none => refuse .range s
  | some p => if programTableSize ≤ p then refuse .range s else (s, .done (programData (s.program p)))

/-- PROGRAM_READ (R171). -/
def execProgramRead (s : State) : Host.Outcome State Fault Refusal := .next (takeCommand 0x05 (atOnce programRead) s)

/-- The data of PROMOTION READ: the state and fields of R88, in the order of its table. -/
def promotionData (e : Promotion) : List Byte :=
  num 1 (indication e.enabled) ++ leBytes 4 e.mask.toNat ++ num 10000000 e.trigger ++ num 10000 e.rate
    ++ num 10000000 e.cap ++ num 65535 e.startDay ++ num 65535 e.endDay ++ num 3650 e.lifetime

/-- PROMOTION READ (R89). -/
def promotionRead (fields : List Byte) (s : State) : State × MgmtResult :=
  match oneNumber 63 fields with
  | none => refuse .range s
  | some n => if promotionTableSize ≤ n then refuse .range s else (s, .done (promotionData (s.promotion n)))

/-- PROMOTION_READ (R89). -/
def execPromotionRead (s : State) : Host.Outcome State Fault Refusal :=
  .next (takeCommand 0x06 (atOnce promotionRead) s)

/-! ## WATCH READ (R125) -/

/-- A watch slot's fields, in the order of R115. -/
def watchSlotBytes (w : WatchSlot) : List Byte :=
  num 1 (yesNoCode w.localEnable) ++ num 1 (yesNoCode w.globalEnable) ++ num 16777215 w.base ++ num 4096 w.span
    ++ num 7 (watchKindsMask w.kinds) ++ num 1 (watchActionCode w.action)

/-- A watch slot's status (R119). -/
def watchStatusBytes (w : WatchStatus) : List Byte :=
  num 1 (yesNoCode w.hit) ++ optional (num 16777215) w.last ++ num 65535 w.count

/-- An occupied park entry as WATCH READ reports it (R125). The matching slots (R120) go as two masks, that of the slots that
matched and that of those of them with action PARK (DESIGN CHOICE, log entry 12). -/
def parkBytes (id : Nat) (p : ParkEntry) : List Byte :=
  match p.item.body with
  | .till t =>
    num 15 id ++ num 16777215 p.card ++ num 8 (tillKindCode t.kind) ++ tillBytes t.till ++ num 65535 t.seq
      ++ num 1 (channelCode t.channel) ++ optional (num 10000000) t.amount ++ num 3 (storeLinkCode t.origin)
      ++ num 15 p.matched.toNat ++ num 15 p.parking.toNat ++ num (counterMax + 60) p.expirySecond
  | _ => []

/-- The data of WATCH READ (R125). The four slots go in the order of their numbers (DESIGN CHOICE, log entry 12). -/
def watchData (s : State) : List Byte :=
  let w := s.watch
  watchSlotBytes w.slot0 ++ watchSlotBytes w.slot1 ++ watchSlotBytes w.slot2 ++ watchSlotBytes w.slot3
    ++ num 60 w.timeout
    ++ watchStatusBytes w.status0 ++ watchStatusBytes w.status1 ++ watchStatusBytes w.status2
    ++ watchStatusBytes w.status3
    ++ num counterMax s.time.seconds ++ num 16 w.park.length ++ w.park.flatMap (fun e => parkBytes e.1 e.2)

/-- WATCH READ (R125). -/
def watchRead (_ : List Byte) (s : State) : State × MgmtResult := (s, .done (watchData s))

/-- WATCH_READ (R125). -/
def execWatchRead (s : State) : Host.Outcome State Fault Refusal := .next (takeCommand 0x07 (atOnce watchRead) s)

/-! ## CACHE PROBE (R132) -/

/-- A way as CACHE PROBE reports it. -/
def wayBytes (v : Way) : List Byte :=
  num 1 (yesNoCode v.valid) ++ num 1 (yesNoCode v.pinned) ++ optional (num 16383) (if v.valid then some v.tag else none)

/-- The data of CACHE PROBE (R132). Whether the way is pinned and whether the card index is quarantined go as yes 0 and no 1
(DESIGN CHOICE, log entry 51), and the four ways in the order of their numbers (DESIGN CHOICE, log entry 12). -/
def probeData (card : Nat) (s : State) : List Byte :=
  let c := s.cacheSet (setOf card)
  let hit := hitWay s card
  num 1023 (setOf card) ++ num 16383 (tagOf card) ++ num 1 (yesNoCode hit.isSome) ++ optional (num 3) hit
    ++ optional (fun w => num 1 (yesNoCode (wayOf c w).pinned)) hit ++ num 3 c.pointer
    ++ wayBytes c.way0 ++ wayBytes c.way1 ++ wayBytes c.way2 ++ wayBytes c.way3
    ++ num 1 (yesNoCode (s.quarantined card))

/-- CACHE PROBE (R132). -/
def cacheProbe (fields : List Byte) (s : State) : State × MgmtResult :=
  match oneNumber 16777215 fields with
  | none => refuse .range s
  | some card => if cardTableSize ≤ card then refuse .range s else (s, .done (probeData card s))

/-- CACHE_PROBE (R132). -/
def execCacheProbe (s : State) : Host.Outcome State Fault Refusal := .next (takeCommand 0x08 (atOnce cacheProbe) s)

/-! ## RETURN SIZE SET and ACCESS SET (R168, R169) -/

/-- The return size a value gives (R169). -/
def clampReturnSize (n : Nat) : Nat := max 1 (min n 64)

/-- RETURN SIZE SET (R169). -/
def returnSizeSet (fields : List Byte) (s : State) : State × MgmtResult :=
  match oneNumber 64 fields with
  | none => refuse .range s
  | some n =>
    (s.withMgmt { s.mgmt with returnSize := clampReturnSize n }, .done (num 64 (clampReturnSize n)))

/-- RETURN_SIZE_SET (R169). -/
def execReturnSizeSet (s : State) : Host.Outcome State Fault Refusal :=
  .next (takeCommand 0x09 (atOnce returnSizeSet) s)

/-- ACCESS SET (R168). -/
def accessSet (fields : List Byte) (s : State) : State × MgmtResult :=
  match oneNumber 2 fields with
  | none => refuse .range s
  | some n =>
    if 2 < n then refuse .range s
    else if n = 2 ∧ s.tblen = false then refuse .level s
    else (s.withMgmt { s.mgmt with level := n }, .done (num 2 n))

/-- ACCESS_SET (R168). -/
def execAccessSet (s : State) : Host.Outcome State Fault Refusal := .next (takeCommand 0x0A (atOnce accessSet) s)

end Sys2Proof.Machine
end

