-- ==== Sys2Proof/Machine/Control.lean ====
section
/-!
DEFINITION. The management commands of level 1 (12.3): the day, the journal's release, card freezes, watches, notices, the
intake stop and HOLD DROP.
-/

namespace Sys2Proof.Machine

/-! ## DAY ADVANCE (R96) -/

/-- The local enable of every watch slot is turned off (R117). -/
def clearLocalEnables (w : WatchUnit) : WatchUnit :=
  { w with
    slot0 := { w.slot0 with localEnable := false }
    slot1 := { w.slot1 with localEnable := false }
    slot2 := { w.slot2 with localEnable := false }
    slot3 := { w.slot3 with localEnable := false } }

/-- DAY ADVANCE (R96, R117). -/
def dayAdvance (fields : List Byte) (s : State) : State × MgmtResult :=
  match oneNumber 65535 fields with
  | none => refuse .range s
  | some d =>
    if s.mgmt.day < d then
      ((s.withMgmt { s.mgmt with day := d }).withWatch (clearLocalEnables s.watch), .done (num 65535 d))
    else (s, .done (num 65535 s.mgmt.day))

/-- DAY_ADVANCE (R96). -/
def execDayAdvance (s : State) : Host.Outcome State Fault Refusal := .next (takeCommand 0x10 (atOnce dayAdvance) s)

/-! ## JOURNAL RELEASE (R149) -/

/-- The data of JOURNAL RELEASE (R149). -/
def releaseData (s : State) : List Byte :=
  num counterMax s.journal.oldest ++ num counterMax s.journal.written ++ num 1048576 (journalFree s)

/-- Every entry from the oldest through a sequence is removed (R149). -/
def releaseThrough (n : Nat) (s : State) : State :=
  s.withJournal
    { s.journal with
      oldest := successor n
      occupancy := s.journal.occupancy - (stepsFrom s.journal.oldest n + 1) }

/-- JOURNAL RELEASE (R149). -/
def journalRelease (fields : List Byte) (s : State) : State × MgmtResult :=
  match oneNumber counterMax fields with
  | none => refuse .range s
  | some n =>
    if n = 0 then refuse .range s
    else if !atOrAfterOldest s n then (s, .done (releaseData s))
    else if stepsFrom s.journal.oldest n < readableCount s then
      (releaseThrough n s, .done (releaseData (releaseThrough n s)))
    else refuse .range s

/-- JOURNAL_RELEASE (R149). -/
def execJournalRelease (s : State) : Host.Outcome State Fault Refusal :=
  .next (takeCommand 0x11 (atOnce journalRelease) s)

/-! ## CARD FREEZE and CARD THAW (R108) -/

/-- A card correction names its card (R170), which must lie in the range of a program in LIVE or DRAINING; the item is then
handed over (R108). -/
def cardCorrection (c : MgmtCommand) (name : Option CardName) (body : ItemBody) (s : State) : State :=
  match name.bind (cardNamed s) with
  | none => reply c.code c.tag (.refused .range) s
  | some card =>
    if (servingProgram s card).isNone then reply c.code c.tag (.refused .state) s
    else startItem c.code c.tag (managementItem s card body) s

/-- CARD FREEZE (R108). -/
def cardFreeze (c : MgmtCommand) (s : State) : State := cardCorrection c (cardFields c.fields) (.cardFreeze c.tag) s

/-- CARD_FREEZE (R108). -/
def execCardFreeze (s : State) : Host.Outcome State Fault Refusal := .next (takeCommand codeCardFreeze cardFreeze s)

/-- CARD THAW (R108). -/
def cardThaw (c : MgmtCommand) (s : State) : State := cardCorrection c (cardFields c.fields) (.cardThaw c.tag) s

/-- CARD_THAW (R108). -/
def execCardThaw (s : State) : Host.Outcome State Fault Refusal := .next (takeCommand codeCardThaw cardThaw s)

/-! ## Watches (R116, R117, R119, R122) -/

/-- A watch slot. -/
def watchSlotOf (w : WatchUnit) (n : Nat) : WatchSlot :=
  match n with
  | 0 => w.slot0
  | 1 => w.slot1
  | 2 => w.slot2
  | _ => w.slot3

/-- The unit with a watch slot replaced. -/
def setWatchSlot (w : WatchUnit) (n : Nat) (v : WatchSlot) : WatchUnit :=
  match n with
  | 0 => { w with slot0 := v }
  | 1 => { w with slot1 := v }
  | 2 => { w with slot2 := v }
  | _ => { w with slot3 := v }

/-- A span is one of the four (R115). -/
def spanOk (span : Nat) : Bool := span == 1 || span == 16 || span == 256 || span == 4096

/-- A watch timeout that is supplied is 1 to 60 (R116). -/
def timeoutOk : Option Nat → Bool
  | none => true
  | some t => decide (1 ≤ t) && decide (t ≤ 60)

/-- The checks of R116; an enable of no listed code is refused with them (log entry 9). -/
def watchSetOk (f : WatchSetFields) : Bool :=
  decide (f.slot ≤ 3) && decide (f.base < cardTableSize) && spanOk f.span && watchKindsMask (watchKindsOf f.kinds) != 0
    && decide (f.action ≤ 1) && timeoutOk f.timeout && f.localEnable.isSome && f.globalEnable.isSome

/-- The slot a WATCH SET writes: the base is aligned down to a multiple of the span (R116). -/
def watchSlotFrom (f : WatchSetFields) : WatchSlot :=
  { localEnable := f.localEnable.getD false, globalEnable := f.globalEnable.getD false, base := f.base - f.base % f.span,
    span := f.span, kinds := watchKindsOf f.kinds, action := if f.action = 0 then .note else .park }

/-- WATCH SET (R116). -/
def watchSet (fields : List Byte) (s : State) : State × MgmtResult :=
  match watchSetFields fields with
  | none => refuse .range s
  | some f =>
    if watchSetOk f then
      let timeout := f.timeout.getD s.watch.timeout
      (s.withWatch { setWatchSlot s.watch f.slot (watchSlotFrom f) with timeout := timeout },
        .done (watchSlotBytes (watchSlotFrom f) ++ num 60 timeout))
    else refuse .range s

/-- WATCH_SET (R116). -/
def execWatchSet (s : State) : Host.Outcome State Fault Refusal := .next (takeCommand 0x14 (atOnce watchSet) s)

/-- WATCH CLEAR (R117). -/
def watchClear (fields : List Byte) (s : State) : State × MgmtResult :=
  match oneNumber 3 fields with
  | none => refuse .range s
  | some n => if 3 < n then refuse .range s else (s.withWatch (setWatchSlot s.watch n .initial), .done [])

/-- WATCH_CLEAR (R117). -/
def execWatchClear (s : State) : Host.Outcome State Fault Refusal := .next (takeCommand 0x15 (atOnce watchClear) s)

/-- The unit with its status cleared (R119, R126). -/
def clearedStatus (w : WatchUnit) : WatchUnit :=
  { w with status0 := .initial, status1 := .initial, status2 := .initial, status3 := .initial }

/-- WATCH CLEAR STATUS (R119). -/
def watchClearStatus (_ : List Byte) (s : State) : State × MgmtResult := (s.withWatch (clearedStatus s.watch), .done [])

/-- WATCH_CLEAR_STATUS (R119). -/
def execWatchClearStatus (s : State) : Host.Outcome State Fault Refusal :=
  .next (takeCommand 0x16 (atOnce watchClearStatus) s)

/-- A park entry holds the item a WATCH RELEASE names (R122). -/
def parkNamed (f : WatchReleaseFields) (p : ParkEntry) : Bool :=
  match p.item.body with
  | .till t => p.card == f.card && decide (t.till = f.till) && t.seq == f.seq
  | _ => false

/-- A parked item is released with allow (R36, R122): it is given skip and taken again at once, from step 1. -/
def allowParked (id : Nat) (p : ParkEntry) (s : State) : State :=
  takeItem { p.item with skip := true }
    (updateBusy p.card (fun x => { x with state := .active, current := none })
      (s.withWatch { s.watch with park := Tab.erase s.watch.park id }))

/-- WATCH RELEASE (R122). The answer is handed over first. -/
def watchRelease (c : MgmtCommand) (s : State) : State :=
  match watchReleaseFields c.fields with
  | none => reply c.code c.tag (.refused .range) s
  | some f =>
    if 15 < f.parkId ∨ 1 < f.action then reply c.code c.tag (.refused .range) s
    else
      match Tab.find s.watch.park f.parkId with
      | none => reply c.code c.tag (.refused .tooLate) s
      | some p =>
        if parkNamed f p then
          let answered := reply c.code c.tag (.done (num 15 f.parkId ++ num 1 f.action)) s
          if f.action = 0 then allowParked f.parkId p answered else referParked f.parkId p answered
        else reply c.code c.tag (.refused .tooLate) s

/-- WATCH_RELEASE (R122). -/
def execWatchRelease (s : State) : Host.Outcome State Fault Refusal := .next (takeCommand 0x17 watchRelease s)

/-! ## Notices (R177) -/

/-- A set of notice kinds, as a command carries it. -/
def noticeSet (fields : List Byte) : Option (BitVec 8) := (oneNumber 255 fields).map (BitVec.ofNat 8)

/-- NOTICE ENABLE (R177). -/
def noticeEnable (c : MgmtCommand) (s : State) : State :=
  match noticeSet c.fields with
  | none => reply c.code c.tag (.refused .range) s
  | some mask =>
    let answered := reply c.code c.tag (.done [mask]) (s.withMgmt { s.mgmt with enabled := mask })
    if enabledPending answered then sendNotice answered else answered

/-- NOTICE_ENABLE (R177). -/
def execNoticeEnable (s : State) : Host.Outcome State Fault Refusal := .next (takeCommand 0x18 noticeEnable s)

/-- NOTICE CLEAR (R177). -/
def noticeClear (fields : List Byte) (s : State) : State × MgmtResult :=
  match noticeSet fields with
  | none => refuse .range s
  | some mask =>
    (s.withMgmt
      { s.mgmt with
        pending := s.mgmt.pending &&& ~~~mask
        qualifiers := s.mgmt.qualifiers &&& ~~~(qualifiersOf mask) },
      .done [s.mgmt.pending &&& ~~~mask])

/-- NOTICE_CLEAR (R177). -/
def execNoticeClear (s : State) : Host.Outcome State Fault Refusal := .next (takeCommand 0x19 (atOnce noticeClear) s)

/-! ## INTAKE STOP and INTAKE START (R24) -/

/-- Set or clear the intake-stop flag (R24). -/
def setIntakeStop (stop : Bool) (s : State) : State × MgmtResult :=
  (s.withDispatcher { s.dispatcher with intakeStop := stop }, .done [])

/-- INTAKE_STOP (R24). -/
def execIntakeStop (s : State) : Host.Outcome State Fault Refusal :=
  .next (takeCommand 0x1A (atOnce fun _ => setIntakeStop true) s)

/-- INTAKE_START (R24). -/
def execIntakeStart (s : State) : Host.Outcome State Fault Refusal :=
  .next (takeCommand 0x1B (atOnce fun _ => setIntakeStop false) s)

/-! ## HOLD DROP (R80) -/

/-- An open hold that HOLD DROP names: an OPEN slot leaves the expiry list and becomes LAPSE_DUE (R80). -/
def dropDue (n : Nat) (s : State) : State :=
  if (s.slot n).state = .openHold then
    (makeDue s n).withExpiryList (s.expiryList.filter fun m => m != n)
  else s

/-- The drop item of a hold is handed to its card (R80); the issued flag becomes yes where it enters. -/
def issueDrop (c : MgmtCommand) (ref : HoldRef) (s : State) : State :=
  let h := s.slot ref.slot
  match handOver
      { card := h.card, program := some h.program, skip := false, body := .lapse ref (some c.tag) } s with
  | (.entered, s') => startCommand c.code c.tag (s'.setSlot ref.slot { h with issued := true })
  | (.quarantined, _) => reply c.code c.tag (.refused .unavailable) s
  | (.waitingFull, _) => reply c.code c.tag (.refused .busy) s
  | (.listFull, _) => reply c.code c.tag (.refused .busy) s

/-- HOLD DROP (R80). -/
def holdDrop (c : MgmtCommand) (s : State) : State :=
  match oneNumber 4194303 c.fields with
  | none => reply c.code c.tag (.refused .range) s
  | some n =>
    let ref := holdRefOf n
    let h := s.slot ref.slot
    if ref.slot < holdTableSize ∧ h.reuse = ref.reuse ∧ h.state ≠ .free then issueDrop c ref (dropDue ref.slot s)
    else reply c.code c.tag (.refused .noHold) s

/-- HOLD_DROP (R80). -/
def execHoldDrop (s : State) : Host.Outcome State Fault Refusal := .next (takeCommand codeHoldDrop holdDrop s)

end Sys2Proof.Machine
end

