-- ==== Sys2Proof/Machine/TableCommands.lean ====
section
/-!
DEFINITION. The management commands of level 2 (12.3): the Program and Promotion Tables, card writes and restores, the load
window, the cache flush, the pacers and ENGINE RESET.
-/

namespace Sys2Proof.Machine

/-! ## PROGRAM WRITE and PROGRAM STATE (R4 to R8) -/

/-- Every setting lies within its range and both constraints of R4 hold. -/
def settingsInRange (c : Settings) : Bool :=
  decide (c.issuer ≤ 999999) && decide (c.firstSerial ≤ 999999999)
    && decide (1 ≤ c.serialCount) && decide (c.serialCount ≤ 16777216) && decide (c.tableBase ≤ 16777215)
    && decide (100 ≤ c.maxBalance) && decide (c.maxBalance ≤ 10000000)
    && decide (1 ≤ c.minLoad) && decide (c.minLoad ≤ c.maxBalance) && decide (c.bonusCeiling ≤ 10000000)
    && decide (c.tipTolerance ≤ 5000) && decide (15 ≤ c.holdLifetime) && decide (c.holdLifetime ≤ 10080)
    && decide (1 ≤ c.holdsPerCard) && decide (c.holdsPerCard ≤ 8)
    && decide (1 ≤ c.dayCountLimit) && decide (c.dayCountLimit ≤ 255)
    && decide (1 ≤ c.dayAmountLimit) && decide (c.dayAmountLimit ≤ 10000000)
    && decide (c.tableBase + c.serialCount ≤ 16777216) && decide (c.firstSerial + c.serialCount - 1 ≤ 999999999)

/-- Two programs' settings overlap (R6): the same prefix, or a shared card index. -/
def overlaps (a b : Settings) : Bool :=
  a.issuer == b.issuer
    || decide (max a.tableBase b.tableBase < min (a.tableBase + a.serialCount) (b.tableBase + b.serialCount))

/-- A program with these settings overlaps another program that is not OFF (R6). -/
def overlapsOther (s : State) (p : Nat) (c : Settings) : Bool :=
  s.programs.any fun e => e.1 != p && decide (e.2.status ≠ .off) && overlaps c e.2.settings

/-- A LOAD CLEAR of the program is in progress. -/
def clearing (s : State) (p : Nat) : Bool := (clearOf p s).isSome

/-- The load window is open on the program. -/
def windowOn (s : State) (p : Nat) : Bool := windowProgram s.mgmt.window == some p

/-- The prefix or the range of a program changes (R5). -/
def rangeChanges (old new : Settings) : Bool :=
  old.issuer != new.issuer || old.firstSerial != new.firstSerial || old.serialCount != new.serialCount
    || old.tableBase != new.tableBase

/-- The first check of R5 that fails, for a program number within the table. -/
def programWriteRefusal (s : State) (p : Nat) (c : Settings) (choicesOk : Bool) : Option Reason :=
  let e := s.program p
  if e.status = .live ∨ e.status = .draining then some .state
  else if clearing s p || windowOn s p then some .busy
  else if !choicesOk || !settingsInRange c then some .range
  else if rangeChanges e.settings c && e.openHolds != 0 then some .holdsOpen
  else if overlapsOther s p c then some .overlap
  else none

/-- PROGRAM WRITE (R5). -/
def programWrite (fields : List Byte) (s : State) : State × MgmtResult :=
  match programWriteFields fields with
  | none => refuse .range s
  | some (p, c, choicesOk) =>
    if programTableSize ≤ p then refuse .range s
    else
      match programWriteRefusal s p c choicesOk with
      | some reason => refuse reason s
      | none =>
        let e := s.program p
        (s.setProgram p
          { e with settings := c, initialised := if rangeChanges e.settings c then false else e.initialised },
          .done [])

/-- PROGRAM_WRITE (R5). -/
def execProgramWrite (s : State) : Host.Outcome State Fault Refusal :=
  .next (takeCommand 0x20 (atOnce programWrite) s)

/-- What a PROGRAM STATE does (R7). -/
inductive StateMove where
  | moveTo (status : ProgramStatus)
  | drain (target : ProgramStatus)
  | refusedFor (reason : Reason)
deriving DecidableEq, Repr

/-- The table of R7, by the current state and the target, with the checks (a) to (d). -/
def programMove (s : State) (p : Nat) (target : ProgramStatus) : StateMove :=
  let e := s.program p
  match e.status, target with
  | .off, .off => .moveTo .off
  | .off, .pass | .off, .loading =>
    if !settingsInRange e.settings then .refusedFor .range
    else if overlapsOther s p e.settings then .refusedFor .overlap
    else .moveTo target
  | .off, .live | .off, .draining => .refusedFor .state
  | .pass, .off | .loading, .off => if e.openHolds ≠ 0 then .refusedFor .holdsOpen else .moveTo .off
  | .pass, .pass => .moveTo .pass
  | .pass, .loading => .moveTo .loading
  | .pass, .live | .pass, .draining => .refusedFor .state
  | .loading, .pass => .moveTo .pass
  | .loading, .loading => .moveTo .loading
  | .loading, .live =>
    if !e.initialised then .refusedFor .notInitialised
    else if overlapsOther s p e.settings then .refusedFor .overlap
    else .moveTo .live
  | .loading, .draining => .refusedFor .state
  | .live, .off | .live, .draining => .refusedFor .state
  | .live, .pass | .live, .loading => if e.openHolds ≠ 0 then .refusedFor .holdsOpen else .drain target
  | .live, .live => .moveTo .live
  | .draining, _ => .refusedFor .state

/-- A program leaves LIVE (R8): it drains, or takes its target at once where nothing is in flight. -/
def drained (e : ProgramEntry) (target : ProgramStatus) : ProgramEntry :=
  if e.inFlight = 0 then { e with status := target, drainTarget := none }
  else { e with status := .draining, drainTarget := some target }

/-- An accepted PROGRAM STATE (R7): the entry, and the answer with the state it stands in. -/
def setEntry (p : Nat) (e : ProgramEntry) (s : State) : State × MgmtResult :=
  (s.setProgram p e, .done (num 4 (programStatusCode e.status)))

/-- PROGRAM STATE (R7). -/
def programState (fields : List Byte) (s : State) : State × MgmtResult :=
  match programStateFields fields with
  | none => refuse .range s
  | some (p, code) =>
    if programTableSize ≤ p then refuse .range s
    else
      match programTargetOf code with
      | none => refuse .range s
      | some target =>
        if clearing s p || windowOn s p then refuse .busy s
        else
          match programMove s p target with
          | .refusedFor reason => refuse reason s
          | .moveTo status => setEntry p { s.program p with status := status } s
          | .drain t => setEntry p (drained (s.program p) t) s

/-- PROGRAM_STATE (R7). -/
def execProgramState (s : State) : Host.Outcome State Fault Refusal :=
  .next (takeCommand 0x21 (atOnce programState) s)

/-! ## Promotions (R89) -/

/-- Write a Promotion Table entry. -/
def State.setPromotion (s : State) (n : Nat) (e : Promotion) : State :=
  s.withPromotions (Tab.set Promotion.initial s.promotions n e)

/-- Every field of a promotion within its write range, and start day ≤ end day (R88). -/
def promotionInRange (e : Promotion) : Bool :=
  decide (1 ≤ e.trigger) && decide (e.trigger ≤ 10000000) && decide (1 ≤ e.rate) && decide (e.rate ≤ 10000)
    && decide (1 ≤ e.cap) && decide (e.cap ≤ 10000000) && decide (e.startDay ≤ e.endDay) && decide (e.endDay ≤ 65535)
    && decide (1 ≤ e.lifetime) && decide (e.lifetime ≤ 3650)

/-- PROMOTION WRITE (R89). -/
def promotionWrite (fields : List Byte) (s : State) : State × MgmtResult :=
  match promotionWriteFields fields with
  | none => refuse .range s
  | some (n, e) =>
    if promotionTableSize ≤ n then refuse .range s
    else if (s.promotion n).enabled then refuse .state s
    else if promotionInRange e then (s.setPromotion n e, .done [])
    else refuse .range s

/-- PROMOTION_WRITE (R89). -/
def execPromotionWrite (s : State) : Host.Outcome State Fault Refusal :=
  .next (takeCommand 0x22 (atOnce promotionWrite) s)

/-- PROMOTION ENABLE (R89). -/
def promotionEnable (fields : List Byte) (s : State) : State × MgmtResult :=
  match oneNumber 63 fields with
  | none => refuse .range s
  | some n =>
    if promotionTableSize ≤ n then refuse .range s
    else if promotionInRange (s.promotion n) then (s.setPromotion n { s.promotion n with enabled := true }, .done [])
    else refuse .range s

/-- PROMOTION_ENABLE (R89). -/
def execPromotionEnable (s : State) : Host.Outcome State Fault Refusal :=
  .next (takeCommand 0x23 (atOnce promotionEnable) s)

/-- PROMOTION DISABLE (R89). -/
def promotionDisable (fields : List Byte) (s : State) : State × MgmtResult :=
  match oneNumber 63 fields with
  | none => refuse .range s
  | some n =>
    if promotionTableSize ≤ n then refuse .range s
    else (s.setPromotion n { s.promotion n with enabled := false }, .done [])

/-- PROMOTION_DISABLE (R89). -/
def execPromotionDisable (s : State) : Host.Outcome State Fault Refusal :=
  .next (takeCommand 0x24 (atOnce promotionDisable) s)

/-! ## CARD WRITE and CARD RESTORE (R108, R112) -/

/-- CARD WRITE (R108, R110): handed to its card with the fields to write. -/
def cardWrite (c : MgmtCommand) (s : State) : State :=
  match cardWriteFields c.fields with
  | none => reply c.code c.tag (.refused .range) s
  | some (name, f) => cardCorrection c (some name) (.cardWrite c.tag f) s

/-- CARD_WRITE (R108). -/
def execCardWrite (s : State) : Host.Outcome State Fault Refusal := .next (takeCommand codeCardWrite cardWrite s)

/-- Checks 5 and 6 of R112, with the range checks of 12.5. -/
def restoreRecordOk (c : Settings) (day : Nat) (l : LoadRecord) : Bool :=
  (cardStateOf l.stateCode).isSome && decide (l.paid ≤ c.maxBalance) && decide (l.bonus ≤ c.bonusCeiling)
    && verifyOk l.verify && (l.bonus == 0 || expiryCurrent day l.bonusExpiry)

/-- The first check of R112 that fails, or the program of check 4. -/
def restoreCheck (s : State) (card : Nat) (l : LoadRecord) : Except Reason Nat :=
  if cardTableSize ≤ card then .error .range
  else if !s.quarantined card then .error .state
  else if s.tmc.restore.isSome then .error .busy
  else
    match programOfCard s card with
    | none => .error .state
    | some p =>
      if clearing s p || windowOn s p then .error .busy
      else if restoreRecordOk (s.program p).settings s.mgmt.day l then .ok p
      else .error .range

/-- CARD RESTORE (R112): a command that passes starts the scan. -/
def cardRestore (c : MgmtCommand) (s : State) : State :=
  match cardRestoreFields c.fields with
  | none => reply c.code c.tag (.refused .range) s
  | some (card, l) =>
    match restoreCheck s card l with
    | .error reason => reply c.code c.tag (.refused reason) s
    | .ok p =>
      startCommand c.code c.tag
        (s.withTmc
          { s.tmc with restore := some { card := card, program := p, tag := c.tag, load := l, written := none } })

/-- CARD_RESTORE (R112). -/
def execCardRestore (s : State) : Host.Outcome State Fault Refusal := .next (takeCommand codeCardRestore cardRestore s)

/-! ## The load window (R172 to R175) -/

/-- The direction a code names (R172). -/
def directionOf : Nat → Option Direction
  | 0 => some .writing
  | 1 => some .reading
  | _ => none

/-- The data of LOAD OPEN: the window's state and pointer (R172). -/
def windowData (w : Window) : List Byte := num 2 (windowCode w) ++ num 16777216 ((windowPointer w).getD 0)

/-- The window LOAD OPEN opens, or the first check of R172 that fails. -/
def openWindow (s : State) (p serial : Nat) (direction : Option Direction) : Except Reason Window :=
  match direction with
  | none => .error .range
  | some d =>
    if programTableSize ≤ p then .error .range
    else if s.mgmt.window ≠ .closed then .error .state
    else if (s.program p).status ≠ .loading then .error .state
    else if clearing s p then .error .busy
    else if d = .writing ∧ (s.program p).openHolds ≠ 0 then .error .holdsOpen
    else
      match cardIndexOf (s.program p).settings serial with
      | none => .error .range
      | some pointer => .ok (.opened d p pointer)

/-- LOAD OPEN (R172). -/
def loadOpen (fields : List Byte) (s : State) : State × MgmtResult :=
  match loadOpenFields fields with
  | none => refuse .range s
  | some (p, serial, code) =>
    match openWindow s p serial (directionOf code) with
    | .error reason => refuse reason s
    | .ok w => (s.withMgmt { s.mgmt with window := w }, .done (windowData w))

/-- LOAD_OPEN (R172). -/
def execLoadOpen (s : State) : Host.Outcome State Fault Refusal := .next (takeCommand 0x27 (atOnce loadOpen) s)

/-- LOAD CLOSE (R172). -/
def loadClose (_ : List Byte) (s : State) : State × MgmtResult := (s.withMgmt { s.mgmt with window := .closed }, .done [])

/-- LOAD_CLOSE (R172). -/
def execLoadClose (s : State) : Host.Outcome State Fault Refusal := .next (takeCommand 0x2A (atOnce loadClose) s)

/-- The range check of a load record (R173). -/
def loadRecordOk (c : Settings) (l : LoadRecord) : Bool :=
  (cardStateOf l.stateCode).isSome && decide (l.paid ≤ c.maxBalance) && decide (l.bonus ≤ c.bonusCeiling)
    && verifyOk l.verify && (l.bonus == 0 || l.bonusExpiry.isSome)

/-- The record LOAD DATA writes (R19, R173). -/
def loadedRecord (p day : Nat) (l : LoadRecord) : CardRecord :=
  { clearedRecord p day with
    state := (cardStateOf l.stateCode).getD .inactive
    paid := l.paid
    bonus := l.bonus
    bonusExpiry := if l.bonus = 0 then none else l.bonusExpiry
    verify := l.verify.bind verifyValueOf }

/-- How far LOAD DATA has come: the state, the pointer, and the numbers written, skipped and beyond range. -/
structure LoadProgress where
  st : State
  pointer : Nat
  written : Nat
  skipped : Nat
  beyond : Nat

/-- One load record (R173, steps 1 to 4). `last` is one past the last card index of the program's range. -/
def loadOne (p last : Nat) (c : Settings) (g : LoadProgress) (l : LoadRecord) : LoadProgress :=
  if last ≤ g.pointer then { g with beyond := g.beyond + 1 }
  else if loadRecordOk c l then
    { g with
      st := queueLoadWrite p g.pointer (loadedRecord p g.st.mgmt.day l) .loadData g.st
      pointer := g.pointer + 1
      written := g.written + 1 }
  else { g with pointer := g.pointer + 1, skipped := g.skipped + 1 }

/-- LOAD DATA (R173). Whether a partial tail was discarded goes as yes 0 and no 1 (DESIGN CHOICE, log entry 51). -/
def loadData (fields : List Byte) (s : State) : State × MgmtResult :=
  match s.mgmt.window with
  | .opened .writing p pointer =>
    let c := (s.program p).settings
    let g :=
      (decodeLoadRecords (fields.length / 24) fields).foldl (loadOne p (c.tableBase + c.serialCount) c)
        { st := s, pointer := pointer, written := 0, skipped := 0, beyond := 0 }
    (movePointer g.pointer g.st,
      .done (num 42 g.written ++ num 42 g.skipped ++ num 42 g.beyond
        ++ num 1 (yesNoCode (fields.length % 24 != 0)) ++ num 16777216 g.pointer))
  | _ => refuse .state s

/-- LOAD_DATA (R173). -/
def execLoadData (s : State) : Host.Outcome State Fault Refusal := .next (takeCommand 0x28 (atOnce loadData) s)

/-- How many records fit one LOAD FETCH answer beside the fields that follow them (R169, R174). -/
def loadFetchRoom : Nat := (answerRoom - 9) / (3 + cardRecordBytes)

/-- LOAD FETCH (R174): the reads are queued; where no record is left it is answered at once. -/
def loadFetch (c : MgmtCommand) (s : State) : State :=
  match s.mgmt.window with
  | .opened .reading _ pointer =>
    let count := min (min s.mgmt.returnSize loadFetchRoom) (windowEnd s - pointer)
    if count = 0 then reply c.code c.tag (.done (loadFetchData s pointer 0 pointer none)) s
    else
      ((countUp count pointer).map ReadBody.window).foldl (fun s b => queueRead b s)
        (s.withMgmt { s.mgmt with reading := some (.window c.tag pointer count) })
  | _ => reply c.code c.tag (.refused .state) s

/-- LOAD_FETCH (R174). -/
def execLoadFetch (s : State) : Host.Outcome State Fault Refusal := .next (takeCommand codeLoadFetch loadFetch s)

/-- The first check of R175 that fails, for a program number within the table. -/
def loadClearRefusal (s : State) (p : Nat) : Option Reason :=
  if (s.program p).status ≠ .loading then some .state
  else if clearing s p then some .busy
  else if s.mgmt.window ≠ .closed then some .state
  else if (s.program p).openHolds ≠ 0 then some .holdsOpen
  else none

/-- A LOAD CLEAR is accepted (R175): initialised becomes no and the clear begins. -/
def startClear (c : MgmtCommand) (p : Nat) (s : State) : State :=
  let e := s.program p
  let cleared := s.setProgram p { e with initialised := false }
  startCommand c.code c.tag
    (cleared.withTmc
      { cleared.tmc with
        clears :=
          cleared.tmc.clears
            ++ [{ program := p, tag := c.tag, base := e.settings.tableBase, count := e.settings.serialCount, queued := 0,
                  completed := 0 }] })

/-- LOAD CLEAR (R175). -/
def loadClear (c : MgmtCommand) (s : State) : State :=
  match oneNumber 31 c.fields with
  | none => reply c.code c.tag (.refused .range) s
  | some p =>
    if programTableSize ≤ p then reply c.code c.tag (.refused .range) s
    else
      match loadClearRefusal s p with
      | some reason => reply c.code c.tag (.refused reason) s
      | none => startClear c p s

/-- LOAD_CLEAR (R175). -/
def execLoadClear (s : State) : Host.Outcome State Fault Refusal := .next (takeCommand codeLoadClear loadClear s)

/-! ## CACHE FLUSH (R133) -/

/-- A way that is valid and not pinned. -/
def flushable (v : Way) : Bool := v.valid && !v.pinned

/-- A way after a flush. -/
def flushedWay (v : Way) : Way := if flushable v then Way.empty else v

/-- A set after a flush. -/
def flushedSet (_ : Nat) (c : CacheSet) : CacheSet :=
  { c with
    way0 := flushedWay c.way0
    way1 := flushedWay c.way1
    way2 := flushedWay c.way2
    way3 := flushedWay c.way3 }

/-- How many ways of a set a flush makes invalid. -/
def flushCount (c : CacheSet) : Nat := [c.way0, c.way1, c.way2, c.way3].countP flushable

/-- CACHE FLUSH (R133). -/
def cacheFlush (_ : List Byte) (s : State) : State × MgmtResult :=
  (s.withCache (Tab.update CacheSet.empty flushedSet s.cache),
    .done (num 4096 (s.cache.map fun e => flushCount e.2).sum))

/-- CACHE_FLUSH (R133). -/
def execCacheFlush (s : State) : Host.Outcome State Fault Refusal := .next (takeCommand 0x2C (atOnce cacheFlush) s)

/-! ## PACE SET (R163) -/

/-- The nearest value within a range. -/
def clamp (low high n : Nat) : Nat := max low (min n high)

/-- The settings as applied: clamped, and a low mark at or above the high mark set to the high mark minus 1 (R163). -/
def clampPace (p : PacerSettings) : PacerSettings :=
  let high := clamp 2 64 p.highMark
  let low := clamp 1 63 p.lowMark
  { highMark := high, lowMark := if high ≤ low then high - 1 else low, pauseTime := clamp 1 255 p.pauseTime,
    gapTime := clamp 1 255 p.gapTime, pauseCount := clamp 0 15 p.pauseCount }

/-- The applied settings become a pacer's staged settings, and in IDLE its active ones (R163). -/
def stagePace (p : PacerSettings) (l : StoreLink) (s : State) : State :=
  let q := (s.storeUnit l).pacer
  s.setPacer l { q with staged := p, active := if q.state = .idle then p else q.active }

/-- The store links a link choice names: S0 to S3, or all four (R163). -/
def linksChosen : Nat → Option (List StoreLink)
  | 0 => some [.s0]
  | 1 => some [.s1]
  | 2 => some [.s2]
  | 3 => some [.s3]
  | 4 => some [.s0, .s1, .s2, .s3]
  | _ => none

/-- The data of PACE SET: the settings as applied (R163). -/
def paceData (p : PacerSettings) : List Byte :=
  num 64 p.highMark ++ num 63 p.lowMark ++ num 255 p.pauseTime ++ num 255 p.gapTime ++ num 15 p.pauseCount

/-- PACE SET (R163). -/
def paceSet (fields : List Byte) (s : State) : State × MgmtResult :=
  match paceSetFields fields with
  | none => refuse .range s
  | some (choice, p) =>
    match linksChosen choice with
    | none => refuse .range s
    | some links => (links.foldl (fun s l => stagePace (clampPace p) l s) s, .done (paceData (clampPace p)))

/-- PACE_SET (R163). -/
def execPaceSet (s : State) : Host.Outcome State Fault Refusal := .next (takeCommand 0x2D (atOnce paceSet) s)

/-! ## ENGINE RESET (R178) -/

/-- The code of ENGINE RESET (12.3). -/
def codeEngineReset : Nat := 0x2E

/-- ENGINE RESET (R178): answered DONE, and an engine reset is caused. -/
def engineReset (c : MgmtCommand) (s : State) : State :=
  (reply c.code c.tag (.done []) s).withResetPending true

/-- ENGINE_RESET (R178). -/
def execEngineReset (s : State) : Host.Outcome State Fault Refusal :=
  .next (takeCommand codeEngineReset engineReset s)

end Sys2Proof.Machine
end

