-- ==== Sys2Proof/Machine/Reset.lean ====
section
/-!
DEFINITION. Power-on, engine reset and the two pins (R12, R19, R42, R69, R84, R88, R126, R139, R151, R165, R168, R178, R179).
-/

namespace Sys2Proof.Machine

/-! ## Engine reset -/

/-- The DONE answer of ENGINE RESET waits to be sent (R178). -/
def resetAnswerWaits (s : State) : Bool :=
  s.central.link.out.any fun p =>
    match p with
    | .mgmtAnswer a => a.code == codeEngineReset && decide (a.result = .done [])
    | _ => false

/-- A queued write completes (R29, R113, R137, R144). -/
def completeWrite (s : State) (w : QueuedWrite) : State :=
  match w.body with
  | .card card _ .serialiser => cardWriteDone card s
  | .card card _ .loadData => cardWriteDone card s
  | .card card _ (.loadClear _) => clearWriteComplete card s
  | .card _ _ .restore => restoreWriteDone s
  | .journal _ e => journalWriteDone e.seq s

/-- Every write queued completes, in the order queued (R135, R139). -/
def drainWrites (s : State) : State := s.tmc.writes.foldl completeWrite s

/-- A link unit at engine reset (R165): the link state is kept. -/
def resetLink (u : LinkUnit) : LinkUnit := { u with errors := 0#8, dropped := 0, out := [] }

/-- A Store Link Unit at engine reset (R165): the pacer's settings are kept. -/
def resetStore (u : StoreUnit) : StoreUnit := { link := resetLink u.link, intake := [], pacer := stoppedPacer u.pacer }

/-- A Program Table entry at engine reset, after which the LOAD CLEARs `abandoned` are in progress no more (R12, R137; log entry
14). -/
def resetEntry (abandoned : List ClearJob) (p : Nat) (e : ProgramEntry) : ProgramEntry :=
  { e with
    initialised := e.initialised && !(abandoned.any fun c => c.program == p)
    status := if e.status = .draining then e.drainTarget.getD .pass else e.status
    drainTarget := none
    inFlight := 0 }

/-- A hold slot at engine reset (R84). -/
def resetSlot (_ : Nat) (h : HoldSlot) : HoldSlot := { h with issued := false }

/-- The Management Unit at engine reset (R179): the day is kept. -/
def resetMgmt (m : Mgmt) : Mgmt :=
  { level := 0, returnSize := 1, window := .closed, day := m.day, pending := 0#8, qualifiers := 0#8, enabled := 0#8,
    inFlight := [], reading := none }

/-- The blocks take their engine-reset values. -/
def engineValues (s : State) : State :=
  { s with
    resetPending := false
    stores :=
      { u0 := resetStore s.stores.u0, u1 := resetStore s.stores.u1, u2 := resetStore s.stores.u2,
        u3 := resetStore s.stores.u3 }
    central := { link := resetLink s.central.link, fifo := [] }
    dispatcher := { last := .s3, blocked := [], intakeStop := false }
    busy := []
    programs := Tab.update ProgramEntry.initial (resetEntry s.tmc.clears) s.programs
    slots := Tab.update HoldSlot.initial resetSlot s.slots
    cache := []
    tmc := { s.tmc with reads := [], writes := [], clears := [], restore := none }
    watch := { clearedStatus s.watch with park := [] }
    mgmt := resetMgmt s.mgmt }

/-- An engine reset that was caused takes effect (R178), once the DONE answer of an ENGINE RESET has been sent or dropped:
the writes queued complete, then the blocks take their values. -/
def resetEffect (s : State) : State :=
  if s.resetPending && !resetAnswerWaits s then engineValues (drainWrites s) else s

/-- ENGINE_RESET_EFFECT (R178). -/
def execEngineResetEffect (s : State) : Host.Outcome State Fault Refusal := .next (resetEffect s)

/-- RESET_N_LOW (R178): a fall of the pin causes an engine reset. -/
def execResetNLow (s : State) : Host.Outcome State Fault Refusal :=
  .next (if s.resetN then (s.withResetN false).withResetPending true else s)

/-- RESET_N_HIGH (R178). -/
def execResetNHigh (s : State) : Host.Outcome State Fault Refusal := .next (s.withResetN true)

/-! ## TBLEN (R168) -/

/-- TBLEN_FALL (R168): level 2 becomes 1. -/
def execTblenFall (s : State) : Host.Outcome State Fault Refusal :=
  .next ((s.withTblen false).withMgmt { s.mgmt with level := min s.mgmt.level 1 })

/-- TBLEN_RISE (R168). -/
def execTblenRise (s : State) : Host.Outcome State Fault Refusal := .next (s.withTblen true)

/-! ## Power-on -/

/-- The link unit at power-on (R165); the record of its line goes on. -/
def powerLink (u : LinkUnit) : LinkUnit := { LinkUnit.initial with line := u.line }

/-- The Store Link Unit at power-on (R165). -/
def powerStore (u : StoreUnit) : StoreUnit := { StoreUnit.initial with link := powerLink u.link }

/-- The part after power is applied: every block at its power-on values; the pins stand as they stood (log entry 7). -/
def powered (s : State) : State :=
  { State.reset with
    pending := s.pending
    resetN := s.resetN
    tblen := s.tblen
    stores :=
      { u0 := powerStore s.stores.u0, u1 := powerStore s.stores.u1, u2 := powerStore s.stores.u2,
        u3 := powerStore s.stores.u3 }
    central := { link := powerLink s.central.link, fifo := [] }
    powerOns := s.powerOns + 1 }

/-- POWER_ON (R179). -/
def execPowerOn (s : State) : Host.Outcome State Fault Refusal := .next (powered s)

end Sys2Proof.Machine
end

