-- ==== Sys2Proof/Machine/Dispatch.lean ====
section
/-!
DEFINITION. The meaning of every command: one arm for each row of spec/opcode_table.json.
-/

namespace Sys2Proof.Machine

-- The command's effect on everything but the queue of commands that wait.
def exec (i : Instr) (s : State) : Host.Outcome State Fault Refusal :=
  match i with
  | .powerOn => Sys2Proof.Machine.execPowerOn s
  | .resetNLow => Sys2Proof.Machine.execResetNLow s
  | .resetNHigh => Sys2Proof.Machine.execResetNHigh s
  | .engineResetEffect => Sys2Proof.Machine.execEngineResetEffect s
  | .tblenFall => Sys2Proof.Machine.execTblenFall s
  | .tblenRise => Sys2Proof.Machine.execTblenRise s
  | .carrierPresent l => Sys2Proof.Machine.execCarrierPresent l s
  | .carrierLost l => Sys2Proof.Machine.execCarrierLost l s
  | .request l bytes => Sys2Proof.Machine.execRequest l bytes s
  | .answer bytes => Sys2Proof.Machine.execAnswer bytes s
  | .mgmt bytes => Sys2Proof.Machine.execMgmt bytes s
  | .idle l bytes => Sys2Proof.Machine.execIdle l bytes s
  | .parcelSend l => Sys2Proof.Machine.execParcelSend l s
  | .millisecondTick => Sys2Proof.Machine.execMillisecondTick s
  | .pacerExpiry l => Sys2Proof.Machine.execPacerExpiry l s
  | .secondTick => Sys2Proof.Machine.execSecondTick s
  | .watchTimeout => Sys2Proof.Machine.execWatchTimeout s
  | .minuteTick => Sys2Proof.Machine.execMinuteTick s
  | .holdDue => Sys2Proof.Machine.execHoldDue s
  | .dispatch => Sys2Proof.Machine.execDispatch s
  | .inquire card => Sys2Proof.Machine.execInquire card s
  | .activate card => Sys2Proof.Machine.execActivate card s
  | .load card => Sys2Proof.Machine.execLoad card s
  | .redeem card => Sys2Proof.Machine.execRedeem card s
  | .hold card => Sys2Proof.Machine.execHold card s
  | .complete card => Sys2Proof.Machine.execComplete card s
  | .release card => Sys2Proof.Machine.execRelease card s
  | .reverse card => Sys2Proof.Machine.execReverse card s
  | .withdraw card => Sys2Proof.Machine.execWithdraw card s
  | .lapse card => Sys2Proof.Machine.execLapse card s
  | .dropItem card => Sys2Proof.Machine.execDropItem card s
  | .cardReadAtCard card => Sys2Proof.Machine.execCardReadAtCard card s
  | .cardFreezeAtCard card => Sys2Proof.Machine.execCardFreezeAtCard card s
  | .cardThawAtCard card => Sys2Proof.Machine.execCardThawAtCard card s
  | .cardWriteAtCard card => Sys2Proof.Machine.execCardWriteAtCard card s
  | .fetchComplete card corrected => Sys2Proof.Machine.execFetchComplete card corrected s
  | .fetchUncorrectable card => Sys2Proof.Machine.execFetchUncorrectable card s
  | .cardRecordWriteComplete card => Sys2Proof.Machine.execCardRecordWriteComplete card s
  | .journalWriteComplete sequence => Sys2Proof.Machine.execJournalWriteComplete sequence s
  | .loadClearWriteQueue program => Sys2Proof.Machine.execLoadClearWriteQueue program s
  | .loadClearWriteComplete card => Sys2Proof.Machine.execLoadClearWriteComplete card s
  | .restoreScanEnd => Sys2Proof.Machine.execRestoreScanEnd s
  | .restoreWriteComplete => Sys2Proof.Machine.execRestoreWriteComplete s
  | .cardReadDirectComplete outcome => Sys2Proof.Machine.execCardReadDirectComplete outcome s
  | .journalReadComplete outcomes => Sys2Proof.Machine.execJournalReadComplete outcomes s
  | .loadFetchComplete outcomes => Sys2Proof.Machine.execLoadFetchComplete outcomes s
  | .unknownCommand => Sys2Proof.Machine.execUnknownCommand s
  | .statusRead => Sys2Proof.Machine.execStatusRead s
  | .cardRead => Sys2Proof.Machine.execCardRead s
  | .holdRead => Sys2Proof.Machine.execHoldRead s
  | .journalRead => Sys2Proof.Machine.execJournalRead s
  | .programRead => Sys2Proof.Machine.execProgramRead s
  | .promotionRead => Sys2Proof.Machine.execPromotionRead s
  | .watchRead => Sys2Proof.Machine.execWatchRead s
  | .cacheProbe => Sys2Proof.Machine.execCacheProbe s
  | .returnSizeSet => Sys2Proof.Machine.execReturnSizeSet s
  | .accessSet => Sys2Proof.Machine.execAccessSet s
  | .dayAdvance => Sys2Proof.Machine.execDayAdvance s
  | .journalRelease => Sys2Proof.Machine.execJournalRelease s
  | .cardFreeze => Sys2Proof.Machine.execCardFreeze s
  | .cardThaw => Sys2Proof.Machine.execCardThaw s
  | .watchSet => Sys2Proof.Machine.execWatchSet s
  | .watchClear => Sys2Proof.Machine.execWatchClear s
  | .watchClearStatus => Sys2Proof.Machine.execWatchClearStatus s
  | .watchRelease => Sys2Proof.Machine.execWatchRelease s
  | .noticeEnable => Sys2Proof.Machine.execNoticeEnable s
  | .noticeClear => Sys2Proof.Machine.execNoticeClear s
  | .intakeStop => Sys2Proof.Machine.execIntakeStop s
  | .intakeStart => Sys2Proof.Machine.execIntakeStart s
  | .holdDrop => Sys2Proof.Machine.execHoldDrop s
  | .programWrite => Sys2Proof.Machine.execProgramWrite s
  | .programState => Sys2Proof.Machine.execProgramState s
  | .promotionWrite => Sys2Proof.Machine.execPromotionWrite s
  | .promotionEnable => Sys2Proof.Machine.execPromotionEnable s
  | .promotionDisable => Sys2Proof.Machine.execPromotionDisable s
  | .cardWrite => Sys2Proof.Machine.execCardWrite s
  | .cardRestore => Sys2Proof.Machine.execCardRestore s
  | .loadOpen => Sys2Proof.Machine.execLoadOpen s
  | .loadClose => Sys2Proof.Machine.execLoadClose s
  | .loadData => Sys2Proof.Machine.execLoadData s
  | .loadFetch => Sys2Proof.Machine.execLoadFetch s
  | .loadClear => Sys2Proof.Machine.execLoadClear s
  | .cacheFlush => Sys2Proof.Machine.execCacheFlush s
  | .paceSet => Sys2Proof.Machine.execPaceSet s
  | .engineReset => Sys2Proof.Machine.execEngineReset s
  | .unexpectedKind l bytes => Sys2Proof.Machine.execUnexpectedKind l bytes s

end Sys2Proof.Machine
end

