-- ==== Sys2Proof/WellFormed.lean ====
section
/-!
DEFINITION. The commands whose operands name what the part has: a card record (R13), a Program Table entry (R4), a journal
sequence (R142).
-/

namespace Sys2Proof

/-- A card index names a card record: 0 to 16,777,215 (R13). -/
def cardOk (card : Nat) : Bool := decide (card < 16777216)

/-- A program number names a Program Table entry: 0 to 31 (R4). -/
def programOk (program : Nat) : Bool := decide (program < 32)

/-- A journal sequence: 1 to 4,294,967,295 (R142). -/
def sequenceOk (sequence : Nat) : Bool := decide (1 ≤ sequence) && decide (sequence ≤ 4294967295)

/-- The operands of a command name what the part has. A parcel may hold any bytes: the link unit checks it (R159). -/
def Instr.wf : Instr → Bool
  | .inquire card | .activate card | .load card | .redeem card | .hold card | .complete card | .release card
  | .reverse card | .withdraw card | .lapse card | .dropItem card | .cardReadAtCard card | .cardFreezeAtCard card
  | .cardThawAtCard card | .cardWriteAtCard card | .fetchComplete card _ | .fetchUncorrectable card
  | .cardRecordWriteComplete card | .loadClearWriteComplete card => cardOk card
  | .loadClearWriteQueue program => programOk program
  | .journalWriteComplete sequence => sequenceOk sequence
  | .powerOn | .resetNLow | .resetNHigh | .engineResetEffect | .tblenFall | .tblenRise | .carrierPresent _
  | .carrierLost _ | .request _ _ | .answer _ | .mgmt _ | .idle _ _ | .parcelSend _ | .millisecondTick | .pacerExpiry _
  | .secondTick | .watchTimeout | .minuteTick | .holdDue | .dispatch | .restoreScanEnd | .restoreWriteComplete
  | .cardReadDirectComplete _ | .journalReadComplete _ | .loadFetchComplete _ | .unknownCommand | .statusRead | .cardRead
  | .holdRead | .journalRead | .programRead | .promotionRead | .watchRead | .cacheProbe | .returnSizeSet | .accessSet
  | .dayAdvance | .journalRelease | .cardFreeze | .cardThaw | .watchSet | .watchClear | .watchClearStatus
  | .watchRelease | .noticeEnable | .noticeClear | .intakeStop | .intakeStart | .holdDrop | .programWrite
  | .programState | .promotionWrite | .promotionEnable | .promotionDisable | .cardWrite | .cardRestore | .loadOpen
  | .loadClose | .loadData | .loadFetch | .loadClear | .cacheFlush | .paceSet | .engineReset
  | .unexpectedKind _ _ => true

end Sys2Proof
end

