-- ==== Sys2Proof/Safety.lean ====
section
/-!
DEFINITION. The vocabulary of the claims: a management command that is taken, an item that is taken at its card, what DRAM
holds once queued writes complete, and the invariants that every step keeps.
-/

namespace Sys2Proof.Machine

/-! ## Power-on -/

/-- Every block stands at its power-on values (R12, R42, R69, R84, R88, R126, R139, R151, R165, R179); the settings of the
Program and Promotion Tables and the data fields of the hold slots are 0 and no. -/
def atPowerOn (t : State) : Prop :=
  (∀ l, (t.linkUnit l).up = false ∧ (t.linkUnit l).errors = 0#8 ∧ (t.linkUnit l).dropped = 0 ∧ (t.linkUnit l).out = []) ∧
  (∀ l, (t.storeUnit l).intake = [] ∧
    (t.storeUnit l).pacer =
      { state := .idle, timer := 0, sent := 0,
        active := { highMark := 48, lowMark := 16, pauseTime := 20, gapTime := 10, pauseCount := 0 },
        staged := { highMark := 48, lowMark := 16, pauseTime := 20, gapTime := 10, pauseCount := 0 } }) ∧
  t.central.fifo = [] ∧
  t.dispatcher = { last := .s3, blocked := [], intakeStop := false } ∧ t.busy = [] ∧
  (∀ p, t.program p =
    { status := .off, drainTarget := none, initialised := false, openHolds := 0, inFlight := 0,
      settings :=
        { issuer := 0, firstSerial := 0, serialCount := 0, tableBase := 0, maxBalance := 0, minLoad := 0,
          bonusCeiling := 0, tipTolerance := 0, holdLifetime := 0, holdsPerCard := 0, dayCountLimit := 0,
          dayAmountLimit := 0, partialAllowed := false, verifyRemote := false } }) ∧
  (∀ n, t.promotion n =
    { enabled := false, mask := 0#32, trigger := 0, rate := 0, cap := 0, startDay := 0, endDay := 0, lifetime := 0 }) ∧
  (∀ n, t.slot n =
    { state := .free, reuse := 0, card := 0, program := 0, till := { store := 0, lane := 0 }, seq := 0, amount := 0,
      bonusPart := 0, paidPart := 0, openDay := 0, openMinute := 0, expiryMinute := 0, issued := false,
      lastClose := none }) ∧
  t.freeList = List.range 16384 ∧ t.expiryList = [] ∧
  t.time = { divider := 0, milliseconds := 0, seconds := 0, secondPhase := 0, minutes := 0 } ∧
  (∀ card w, (t.wayAt card w).valid = false ∧ (t.wayAt card w).pinned = false) ∧ (∀ n, (t.cacheSet n).pointer = 0) ∧
  t.tmc = { reads := [], writes := [], nextWrite := 0, quarantine := [], corrected := 0, clears := [], restore := none } ∧
  t.cards = [] ∧ t.ring = [] ∧
  t.journal = { next := 1, oldest := 1, newest := 0, occupancy := 0, written := 0, position := 0, noted := [] } ∧
  t.watch.timeout = 20 ∧ t.watch.park = [] ∧
  [t.watch.slot0, t.watch.slot1, t.watch.slot2, t.watch.slot3] =
    List.replicate 4
      { localEnable := false, globalEnable := false, base := 0, span := 1,
        kinds := { outgoing := false, incoming := false, look := false }, action := .note } ∧
  [t.watch.status0, t.watch.status1, t.watch.status2, t.watch.status3] =
    List.replicate 4 { hit := false, last := none, count := 0 } ∧
  t.mgmt =
    { level := 0, returnSize := 1, window := .closed, day := 0, pending := 0#8, qualifiers := 0#8, enabled := 0#8,
      inFlight := [], reading := none } ∧
  t.resetPending = false

/-! ## Management commands -/

/-- The Management Unit takes `c`, whose code is `code`, at a level that admits it (R166, R168). -/
def admits (s : State) (code : Nat) (c : MgmtCommand) : Bool :=
  decide (headCommand s = some c) && decide (c.code = code) && decide ((levelOf code).getD 0 ≤ s.mgmt.level)

/-- The part once the head command `c` has left the FIFO. -/
def State.unqueued (s : State) : State := { s with central := { s.central with fifo := s.central.fifo.tail } }

/-- The part once the head command `c` has left the FIFO answered with a result (R166). -/
def State.answering (s : State) (c : MgmtCommand) (result : MgmtResult) : State :=
  { s with
    central :=
      { link := handTo s.central.link (.mgmtAnswer { code := c.code, tag := c.tag, result := result })
        fifo := s.central.fifo.tail } }

/-- The part once a started command is in flight (R166). -/
def State.inFlight (s : State) (c : MgmtCommand) : State :=
  { s with mgmt := { s.mgmt with inFlight := s.mgmt.inFlight ++ [(c.tag, c.code)] } }

/-- The fields `bytes` begin with the name of a card that has the index `card` (R170, R181). -/
def namesCard (s : State) (bytes : List Byte) (card : Nat) : Prop :=
  (∃ extra, bytes = 1#8 :: leBytes 3 card ++ extra ∧ card < 16777216) ∨
  (∃ number digits extra p e, bytes = 0#8 :: number ++ extra ∧ number.length = 16 ∧ digitsOf number = some digits ∧
    programOfPrefix s (digitsNat (digits.take 6)) = some (p, e) ∧ cardCheck e.settings digits = some card)

/-- The fields of a CARD WRITE after its card, in the order of R110 (R181). -/
def cardWriteBytes (f : CardWriteFields) : List Byte :=
  leBytes 1 (cardStateCode f.state) ++ leBytes 4 f.paid ++ leBytes 3 f.bonus
    ++ (match f.bonusExpiry with | none => [0#8] | some d => 1#8 :: leBytes 2 d)
    ++ (match f.verify with | none => [0#8] | some v => 1#8 :: v) ++ leBytes 1 f.verifyFailures

/-- Each field of a CARD WRITE fits the bytes that carry it. -/
abbrev cardWriteFit (f : CardWriteFields) : Prop :=
  f.paid < 4294967296 ∧ f.bonus < 16777216 ∧ f.verifyFailures < 256 ∧ (∀ d, f.bonusExpiry = some d → d < 65536) ∧
  ∀ v, f.verify = some v → v.length = 3

/-- `bytes` are a CARD WRITE of the fields `f` for the card with the index `card`, and bytes that are ignored (R110, R181). -/
def writesFields (s : State) (bytes : List Byte) (card : Nat) (f : CardWriteFields) : Prop :=
  ∃ name extra, namesCard s name card ∧ name.length = (if name.head? = some 1#8 then 4 else 17) ∧ cardWriteFit f ∧
    bytes = name ++ cardWriteBytes f ++ extra

/-- A card lies in the range of a program in LIVE or DRAINING (R108, R170). -/
def servesCard (s : State) (card : Nat) : Prop :=
  ∃ e ∈ s.programs, (e.2.status = .live ∨ e.2.status = .draining) ∧ e.2.settings.tableBase ≤ card ∧
    card < e.2.settings.tableBase + e.2.settings.serialCount

/-- A command hands an item to the Card Serialiser (R26, R27, R166): it is started where the item enters, refused UNAVAILABLE for a
quarantined card and BUSY at a full list. -/
def State.handsOver (s : State) (c : MgmtCommand) (it : Item) : State :=
  match handOver it s.unqueued with
  | (.entered, t) => t.inFlight c
  | (.quarantined, _) => s.answering c (.refused .unavailable)
  | (.waitingFull, _) => s.answering c (.refused .busy)
  | (.listFull, _) => s.answering c (.refused .busy)

/-- The commands of the command table (R167) with their codes (12.3). -/
def managementCommands : List (Instr × Nat) :=
  [(.statusRead, 0x01), (.cardRead, 0x02), (.holdRead, 0x03), (.journalRead, 0x04), (.programRead, 0x05),
   (.promotionRead, 0x06), (.watchRead, 0x07), (.cacheProbe, 0x08), (.returnSizeSet, 0x09), (.accessSet, 0x0A),
   (.dayAdvance, 0x10), (.journalRelease, 0x11), (.cardFreeze, 0x12), (.cardThaw, 0x13), (.watchSet, 0x14),
   (.watchClear, 0x15), (.watchClearStatus, 0x16), (.watchRelease, 0x17), (.noticeEnable, 0x18), (.noticeClear, 0x19),
   (.intakeStop, 0x1A), (.intakeStart, 0x1B), (.holdDrop, 0x1C),
   (.programWrite, 0x20), (.programState, 0x21), (.promotionWrite, 0x22), (.promotionEnable, 0x23),
   (.promotionDisable, 0x24), (.cardWrite, 0x25), (.cardRestore, 0x26), (.loadOpen, 0x27), (.loadData, 0x28),
   (.loadFetch, 0x29), (.loadClose, 0x2A), (.loadClear, 0x2B), (.cacheFlush, 0x2C), (.paceSet, 0x2D),
   (.engineReset, 0x2E)]

/-- The commands with required fields, their codes, and the fewest bytes those fields take (R181). -/
def requiredBytes : List (Instr × Nat × Nat) :=
  [(.cardRead, 0x02, 4), (.holdRead, 0x03, 2), (.programRead, 0x05, 1), (.promotionRead, 0x06, 1), (.cacheProbe, 0x08, 3),
   (.returnSizeSet, 0x09, 1), (.accessSet, 0x0A, 1),
   (.dayAdvance, 0x10, 2), (.journalRelease, 0x11, 4), (.cardFreeze, 0x12, 4), (.cardThaw, 0x13, 4), (.watchSet, 0x14, 10),
   (.watchClear, 0x15, 1), (.watchRelease, 0x17, 10), (.noticeEnable, 0x18, 1), (.noticeClear, 0x19, 1), (.holdDrop, 0x1C, 3),
   (.programWrite, 0x20, 35), (.programState, 0x21, 2), (.promotionWrite, 0x22, 19), (.promotionEnable, 0x23, 1),
   (.promotionDisable, 0x24, 1), (.cardWrite, 0x25, 15), (.cardRestore, 0x26, 27), (.loadOpen, 0x27, 6), (.loadClear, 0x2B, 1),
   (.paceSet, 0x2D, 6)]

/-! ## Takings at a card -/

/-- `it` is at the head of its card's waiting list and can be taken (R31): the card's entry `e` is ACTIVE, its way `w` is valid and
holds the record `r`, and `rest` waits behind the item. -/
structure Taking (s : State) (e : BusyEntry) (it : Item) (rest : List Item) (w : Nat) (r : CardRecord) : Prop where
  card : it.card < 16777216
  working : s.resetN = true ∧ s.resetPending = false
  entry : s.busyOf it.card = some e
  active : e.state = .active
  waiting : e.waiting = it :: rest
  way : e.way = some w ∧ w < 4
  valid : (s.wayAt it.card w).valid = true
  record : (s.wayAt it.card w).record = r

/-- The part once the head item of a card has left its waiting list (R31). -/
def State.taken (s : State) (card : Nat) : State :=
  { s with busy := s.busy.map fun e => if e.card = card then { e with waiting := e.waiting.tail } else e }

/-- B is above 0 and its expiry lies before the current day (R97). -/
def bonusExpired (s : State) (r : CardRecord) : Prop := 0 < r.bonus ∧ ∃ x, r.bonusExpiry = some x ∧ x < s.mgmt.day

/-- The EXPIRE entry of a roll (R98). -/
def expireEntry (card : Nat) (s : State) (r : CardRecord) : JournalEntry :=
  { seq := 0, kind := .expire, day := s.mgmt.day, minute := s.time.minutes, card := card, program := r.program, till := none,
    paidDelta := 0, bonusDelta := -(r.bonus : Int), heldDelta := 0, forfeited := 0, paid := r.paid, bonus := 0,
    held := r.held, holdRef := none, promotion := none, restore := false }

/-- The record a roll leaves (R97). -/
def rolledRecord (card : Nat) (s : State) (r : CardRecord) (expired : Bool) : CardRecord :=
  { r with
    bonus := if expired then 0 else r.bonus
    bonusExpiry := if expired && !holdsBonus s card then none else r.bonusExpiry
    dayCount := 0, dayAmount := 0, lastDay := s.mgmt.day }

/-- The roll step makes of the state `s` and the record `r` the state `t` and the record `q` (R35, R97, R98). -/
def RollsTo (card : Nat) (s : State) (r : CardRecord) (t : State) (q : CardRecord) : Prop :=
  (s.mgmt.day ≤ r.lastDay ∧ t = s ∧ q = r) ∨
  (r.lastDay < s.mgmt.day ∧ ¬bonusExpired s r ∧ t = s ∧ q = rolledRecord card s r false) ∨
  (r.lastDay < s.mgmt.day ∧ bonusExpired s r ∧ 0 < journalFree s ∧ t = appendJournal (expireEntry card s r) s ∧
    q = rolledRecord card s r true)

/-- The roll is due and cannot be applied (R99). -/
def RollBlocked (s : State) (r : CardRecord) : Prop := r.lastDay < s.mgmt.day ∧ bonusExpired s r ∧ journalFree s = 0

/-- The watch check lets a till request pass (R36, R118, R119): it carries skip or matches no slot, or it matches slots of which
none parks, whose status is recorded and whose match is noticed. -/
def WatchPasses (it : Item) (k : TillKind) (s t : State) : Prop :=
  ((it.skip = true ∨ matchMask s.watch it.card k = 0#4) ∧ t = s) ∨
  (it.skip = false ∧ matchMask s.watch it.card k ≠ 0#4 ∧ parkMask s.watch it.card k = 0#4 ∧
    t = raiseNotice .watchHit false { s with watch := recordHits (matchMask s.watch it.card k) it.card s.watch })

/-- A till request at the head of its card's waiting list passes steps 1 to 4 of R31, and comes to its decision in the state
`t` with the record `q`. The notices of the roll and of the watch check are handed in that order (log entry 22). -/
structure AtDecision (s : State) (it : Item) (q₀ : TillRequest) (p : Nat) (r : CardRecord) (t : State) (q : CardRecord) :
    Prop where
  taking : ∃ e rest w, Taking s e it rest w r
  request : it.body = .till q₀
  program : it.program = some p
  notFrozen : r.frozen = false
  notRecorded : ∀ x ∈ r.recents, ¬(x.till = q₀.till ∧ x.seq = q₀.seq)
  steps : ∃ u, RollsTo it.card (s.taken it.card) r u q ∧ WatchPasses it q₀.kind u t

/-- A lapse, drop or management item at the head of its card's waiting list is rolled and comes to its decision in the state
`t` with the record `q` (R31). -/
structure PastRoll (s : State) (it : Item) (r : CardRecord) (t : State) (q : CardRecord) : Prop where
  taking : ∃ e rest w, Taking s e it rest w r
  steps : RollsTo it.card (s.taken it.card) r t q

/-- The end of a till request's decision event (R31, R37, R41): in the state `t` the request is answered with the balances of
the record `after`, the record's change from `before` is settled, and the item leaves. -/
def ends (it : Item) (q₀ : TillRequest) (before after : CardRecord) (t : State) (outcome : TillOutcome)
    (approved : Option Nat) (holdRef : Option HoldRef) (journalSeq : Option Nat) : State :=
  finishItem it before after
    (handStore q₀.origin
      (.answer
        { kindCode := tillKindCode q₀.kind, outcome := outcome, repeated := false, till := q₀.till, seq := q₀.seq,
          approved := approved
          balances :=
            some
              { state := after.state, paid := after.paid, bonus := after.bonus, held := after.held,
                bonusExpiry := after.bonusExpiry }
          holdRef := holdRef, journalSeq := journalSeq })
      t)

/-- A decline (R66): the record stands as `after`, nothing is appended, and nothing is approved. -/
def declines (it : Item) (q₀ : TillRequest) (before after : CardRecord) (t : State) (outcome : TillOutcome) : State :=
  ends it q₀ before after t outcome none none none

/-- The recent reference a decision adds (R15), with no hold reference, promotion or grant. -/
def reference (q₀ : TillRequest) (day : Nat) (isPartial : Bool) (approved bonusPart paidPart : Nat) : RecentRef :=
  { till := q₀.till, seq := q₀.seq, kind := q₀.kind, isPartial := isPartial, approved := approved, bonusPart := bonusPart,
    paidPart := paidPart, day := day, holdRef := none, promotion := none, bonusGranted := 0, reversed := false }

/-- The recent references once one joined the tail; of four, the oldest leaves (R15). -/
def joined (l : List RecentRef) (x : RecentRef) : List RecentRef := (if l.length < 4 then l else l.tail) ++ [x]

/-- The entry of a till request's own kind, with no deltas, for a card whose record stands as `after` (R140). -/
def tillEntry (kind : JournalKind) (card : Nat) (q₀ : TillRequest) (t : State) (after : CardRecord) : JournalEntry :=
  { seq := 0, kind := kind, day := t.mgmt.day, minute := t.time.minutes, card := card, program := after.program,
    till := some (q₀.till, q₀.seq), paidDelta := 0, bonusDelta := 0, heldDelta := 0, forfeited := 0, paid := after.paid,
    bonus := after.bonus, held := after.held, holdRef := none, promotion := none, restore := false }

/-- The bonus expiry once B is `bonus` and the card's open holds hold bonus or not (R14). -/
def expiryAfter (bonus : Nat) (held : Bool) (expiry : Option Nat) : Option Nat :=
  if bonus = 0 ∧ held = false then none else expiry

/-- The verification step of a REDEEM or HOLD passes an ACTIVE card's record `r` and leaves it as `q` (R46, R47). -/
def Verified (q₀ : TillRequest) (c : Settings) (r q : CardRecord) : Prop :=
  (q₀.verify = none ∧ (q₀.channel = .till ∨ c.verifyRemote = false) ∧ q = r) ∨
  (∃ v, q₀.verify = some v ∧ r.verify = some v ∧ q = { r with verifyFailures := 0 })

/-- The verification step declines (R46, R47): the record is left as `q`, and `suspends` says whether the failure suspends the
card. -/
def VerifyFails (q₀ : TillRequest) (c : Settings) (r q : CardRecord) (suspends : Bool) : Prop :=
  ((q₀.verify = none ∧ q₀.channel = .remote ∧ c.verifyRemote = true ∨ q₀.verify ≠ none ∧ r.verify = none) ∧ q = r ∧
    suspends = false) ∨
  (∃ v x, q₀.verify = some v ∧ r.verify = some x ∧ x ≠ v ∧ suspends = decide (2 ≤ r.verifyFailures) ∧
    q = { r with
          verifyFailures := min 3 (r.verifyFailures + 1)
          state := if 2 ≤ r.verifyFailures then .suspended else r.state })

/-! ## DRAM after the queued writes -/

/-- What the last of some queued writes of a card's record stores. -/
def lastCardWrite (card : Nat) : List QueuedWrite → Option CardRecord
  | [] => none
  | w :: ws =>
    match lastCardWrite card ws, w.body with
    | some r, _ => some r
    | none, .card index r _ => if index = card then some r else none
    | none, .journal _ _ => none

/-- What the last of some queued writes of a ring position stores. -/
def lastJournalWrite (position : Nat) : List QueuedWrite → Option JournalEntry
  | [] => none
  | w :: ws =>
    match lastJournalWrite position ws, w.body with
    | some e, _ => some e
    | none, .journal p e => if p = position then some e else none
    | none, .card _ _ _ => none

/-- A restored record's write of the card waits. -/
def restoreWaits (card : Nat) (s : State) : Bool :=
  s.tmc.writes.any fun w =>
    match w.body with
    | .card index _ .restore => index == card
    | _ => false

/-- The write of a restored record. -/
def restoreWrite (w : QueuedWrite) : Bool :=
  match w.body with
  | .card _ _ .restore => true
  | _ => false

/-- At most one restored record's write waits, and it is that of the restore in progress (R112, R113). -/
def restoresDrain (s : State) : Prop :=
  (∀ w ∈ s.tmc.writes, restoreWrite w = false) ∨
  (s.tmc.writes.countP restoreWrite = 1 ∧
    ∃ j, s.tmc.restore = some j ∧ j.written ≠ none ∧ restoreWaits j.card s = true)

/-- A write that the LOAD CLEAR of a program queued. -/
def clearWriteOf (p : Nat) (w : QueuedWrite) : Bool :=
  match w.body with
  | .card _ _ (.loadClear q) => q == p
  | _ => false

/-- The sequences of the journal entries whose writes are queued, in the order queued. -/
def queuedSequences (l : List QueuedWrite) : List Nat :=
  l.filterMap fun w =>
    match w.body with
    | .journal _ e => some e.seq
    | .card _ _ _ => none

/-! ## What a read delivers -/

/-- A read as it is queued now, behind the last queued write of its address (R135). -/
def queuedRead (s : State) (body : ReadBody) : QueuedRead :=
  { body := body, after := s.tmc.nextWrite, behind := lastWriteTo body s }

/-- The record a read of a card delivers that was queued behind the write `behind`, where there is one (R135). -/
def recordRead (s : State) (behind : Option WriteBody) (card : Nat) : Option CardRecord :=
  match behind with
  | some (.card _ r _) => some r
  | some (.journal _ _) | none => Tab.find s.cards card

/-- The bytes of such a read: those of the record, or the undefined bytes of a location never written (R170; log entry 8). -/
def recordBytes (s : State) (behind : Option WriteBody) (card : Nat) : List Byte :=
  match recordRead s behind card with
  | some r => encodeCardRecord r
  | none => (List.range 146).map fun k => Config.undefinedCardByte s.powerOns card k

/-- The bytes of a read of a ring position, as above (R148). -/
def entryBytes (s : State) (behind : Option WriteBody) (position : Nat) : List Byte :=
  match (match behind with
    | some (.journal _ e) => some e
    | some (.card _ _ _) | none => Tab.find s.ring position) with
  | some e => encodeJournalEntry e
  | none => (List.range 64).map fun k => Config.undefinedJournalByte s.powerOns position k

/-- The data of a JOURNAL READ over the bytes of its entries (R148; log entry 12). -/
def journalAnswer (sel : JournalSelection) (entries : List Byte) : List Byte :=
  entries ++ leBytes 1 sel.count ++ [if sel.more then 1#8 else 0#8] ++ leBytes 4 sel.continuation ++ leBytes 4 sel.oldest
    ++ leBytes 4 sel.written ++ leBytes 3 sel.free

/-! ## The layouts of what the part sends (12.2 to 12.5, R180, R181) -/

/-- `bytes` are `size` bytes and hold each part at its offset. -/
def HasLayout (bytes : List Byte) (size : Nat) (parts : List (Nat × List Byte)) : Prop :=
  bytes.length = size ∧ ∀ p ∈ parts, (bytes.drop p.1).take p.2.length = p.2

/-- The flags byte `b` has the bits `set`, bit 0 first, and no other. -/
def HasFlags (b : Byte) (set : List Bool) : Prop := ∀ k, k < 8 → b.getLsbD k = set.getD k false

/-- A number of a hold reference that may be absent: bits 0 to 7 reuse count, bits 8 to 21 slot (12.2). -/
def referenceNumber (r : Option HoldRef) : Nat := (r.map fun x => 256 * x.slot + x.reuse).getD 0

/-- The answer payload (12.2, R180). -/
def answerLaidOut (a : AnswerRecord) : Prop :=
  let b := a.balances
  let expiry := b.bind (·.bonusExpiry)
  ∃ flags,
    HasFlags flags [a.repeated, a.approved.isSome, b.isSome, expiry.isSome, a.holdRef.isSome, a.journalSeq.isSome] ∧
    HasLayout (encodeAnswer a) 34
      [(0, leBytes 1 a.kindCode), (1, leBytes 1 (tillOutcomeCode a.outcome)), (2, [flags]), (3, leBytes 1 a.till.lane),
       (4, leBytes 2 a.till.store), (6, leBytes 2 a.seq), (8, leBytes 1 ((b.map fun x => cardStateCode x.state).getD 0)),
       (9, leBytes 4 (a.approved.getD 0)), (13, leBytes 4 ((b.map (·.paid)).getD 0)),
       (17, leBytes 4 ((b.map (·.bonus)).getD 0)), (21, leBytes 4 ((b.map (·.held)).getD 0)),
       (25, leBytes 2 (expiry.getD 0)), (27, leBytes 3 (referenceNumber a.holdRef)),
       (30, leBytes 4 (a.journalSeq.getD 0))]

/-- The MGMT_ANSWER payload (12.3, R181). -/
def mgmtAnswerLaidOut (a : MgmtAnswer) : Prop :=
  encodeMgmtAnswer a =
    leBytes 1 a.code ++ leBytes 2 a.tag ++
      match a.result with
      | .done data => [0#8, 0#8] ++ data
      | .refused reason => [1#8] ++ leBytes 1 (reasonCode reason)

/-- The NOTICE payload (R181). -/
def noticeLaidOut (n : Notice) : Prop :=
  HasLayout (encodeNotice n) 9
    [(0, [n.pending]), (1, [n.qualifiers]), (2, [n.enabled]), (3, leBytes 2 n.day), (5, leBytes 4 n.minute)]

/-- A journal entry (12.4, R180). -/
def entryLaidOut (e : JournalEntry) : Prop :=
  let signed (v : Int) : List Byte := leBytes 4 (BitVec.ofInt 32 v).toNat
  ∃ flags,
    HasFlags flags [e.till.isSome, e.holdRef.isSome, e.promotion.isSome, e.restore] ∧
    HasLayout (encodeJournalEntry e) 64
      [(0, leBytes 4 e.seq), (4, leBytes 1 (journalKindCode e.kind)), (5, [flags]), (6, leBytes 2 e.day),
       (8, leBytes 4 e.minute), (12, leBytes 3 e.card), (15, leBytes 1 e.program),
       (16, leBytes 1 ((e.till.map (·.1.lane)).getD 0)), (17, leBytes 2 ((e.till.map (·.1.store)).getD 0)),
       (19, leBytes 2 ((e.till.map (·.2)).getD 0)), (21, signed e.paidDelta), (25, signed e.bonusDelta),
       (29, signed e.heldDelta), (33, leBytes 4 e.forfeited), (37, leBytes 4 e.paid), (41, leBytes 4 e.bonus),
       (45, leBytes 4 e.held), (49, leBytes 3 (referenceNumber e.holdRef)), (52, leBytes 1 (e.promotion.getD 0)),
       (53, List.replicate 11 0#8)]

/-- `bytes` are the recent-reference slot of `x` (12.5, R180). -/
def recentLaidOut (bytes : List Byte) (x : RecentRef) : Prop :=
  ∃ flags,
    HasFlags flags [x.isPartial, x.reversed, x.holdRef.isSome, x.promotion.isSome] ∧
    HasLayout bytes 29
      [(0, leBytes 2 x.till.store), (2, leBytes 1 x.till.lane), (3, leBytes 2 x.seq), (5, leBytes 1 (tillKindCode x.kind)),
       (6, [flags]), (7, leBytes 4 x.approved), (11, leBytes 4 x.bonusPart), (15, leBytes 4 x.paidPart),
       (19, leBytes 2 x.day), (21, leBytes 3 (referenceNumber x.holdRef)), (24, leBytes 1 (x.promotion.getD 0)),
       (25, leBytes 4 x.bonusGranted)]

/-- A card record (12.5, R180): its fields, and each of its four recent-reference slots. -/
def recordLaidOut (r : CardRecord) : Prop :=
  let digit (n : Nat) : Byte := BitVec.ofNat 8 (48 + n % 10)
  (∃ flags,
    HasFlags flags [r.bonusExpiry.isSome, r.verify.isSome, r.frozen] ∧
    HasLayout (encodeCardRecord r) 146
      [(0, leBytes 1 r.program), (1, leBytes 1 (cardStateCode r.state)), (2, [flags]), (3, leBytes 1 r.verifyFailures),
       (4, leBytes 4 r.paid), (8, leBytes 4 r.bonus), (12, leBytes 4 r.held), (16, leBytes 2 (r.bonusExpiry.getD 0)),
       (18, leBytes 1 r.openHolds), (19, leBytes 2 r.lastDay), (21, leBytes 1 r.dayCount), (22, leBytes 4 r.dayAmount),
       (26, (r.verify.map fun v => [digit (v / 100), digit (v / 10), digit v]).getD [0#8, 0#8, 0#8]),
       (29, leBytes 1 r.recents.length)]) ∧
  ∀ k, k < 4 →
    let slot := ((encodeCardRecord r).drop (30 + 29 * k)).take 29
    (r.recents.length ≤ k → slot = List.replicate 29 0#8) ∧ ∀ x, r.recents[k]? = some x → recentLaidOut slot x

/-- The codes of 12.2, 12.4 and 12.6: each list stands in the order of its codes. -/
def codesInOrder : Prop :=
  [TillKind.inquire, .activate, .load, .redeem, .hold, .complete, .release, .reverse, .withdraw].map tillKindCode =
    List.range 9 ∧
  [CardState.inactive, .active, .suspended, .closed].map cardStateCode = List.range 4 ∧
  [TillOutcome.approved, .partly, .insufficient, .velocity, .notActive, .alreadyActive, .capacity, .suspended, .closed,
    .verify, .overMaximum, .belowMinimum, .overTolerance, .holdLimit, .noHold, .lapsed, .noOriginal, .sequenceClash,
    .journalFull, .busy, .cardUpdating, .unavailable, .referred, .withdrawn, .tooLate, .notFound, .badCard,
    .badRequest].map tillOutcomeCode = List.range 28 ∧
  [Reason.level, .state, .range, .busy, .overlap, .holdsOpen, .notInitialised, .noHold, .tooLate, .unavailable,
    .journalFull, .unknown].map reasonCode = (List.range 12).map (· + 1) ∧
  [JournalKind.activate, .load, .redeem, .hold, .complete, .release, .lapse, .reverse, .expire, .adjust].map
    journalKindCode = List.range 10 ∧
  [NoticeKind.journalHigh, .journalFull, .watchHit, .watchParked, .watchTimeout, .cardSuspended, .memoryError,
    .linkError].map noticeBit = List.range 8 ∧
  [LinkError.headerCorrected, .headerBad, .length, .unexpectedKind, .payloadBad, .decode].map linkErrorBit =
    List.range 6 ∧
  [ProgramStatus.off, .pass, .draining, .loading, .live].map programStatusCode = List.range 5 ∧
  [SlotState.free, .openHold, .lapseDue].map slotStateCode = List.range 3 ∧
  [StoreLink.s0, .s1, .s2, .s3].map storeLinkCode = List.range 4

/-! ## The parcels of a link, as one 30-bit word -/

/-- The 24 header bits with check bits and parity above them, as sent (R156). -/
def headerWord (h : Nat) : Nat := h + 2 ^ 24 * headerCheckByte h

/-- The header check of such a word as received (R157). -/
def checkHeaderWord (w : Nat) : HeaderResult := checkHeader (w % 2 ^ 24) (w / 2 ^ 24)

/-! ## Settings and ranges -/

/-- The bytes of the settings of a PROGRAM WRITE, in the order of R4 (R181); yes is 0 and no is 1 (log entry 9). -/
def settingsBytes (k : Settings) : List Byte :=
  leBytes 3 k.issuer ++ leBytes 4 k.firstSerial ++ leBytes 4 k.serialCount ++ leBytes 3 k.tableBase ++ leBytes 3 k.maxBalance
    ++ leBytes 3 k.minLoad ++ leBytes 3 k.bonusCeiling ++ leBytes 2 k.tipTolerance ++ leBytes 2 k.holdLifetime
    ++ leBytes 1 k.holdsPerCard ++ leBytes 1 k.dayCountLimit ++ leBytes 3 k.dayAmountLimit
    ++ [if k.partialAllowed then 0#8 else 1#8] ++ [if k.verifyRemote then 0#8 else 1#8]

/-- Each setting fits the bytes that carry it. -/
abbrev settingsFit (k : Settings) : Prop :=
  k.issuer < 2 ^ 24 ∧ k.firstSerial < 2 ^ 32 ∧ k.serialCount < 2 ^ 32 ∧ k.tableBase < 2 ^ 24 ∧ k.maxBalance < 2 ^ 24 ∧
  k.minLoad < 2 ^ 24 ∧ k.bonusCeiling < 2 ^ 24 ∧ k.tipTolerance < 2 ^ 16 ∧ k.holdLifetime < 2 ^ 16 ∧
  k.holdsPerCard < 2 ^ 8 ∧ k.dayCountLimit < 2 ^ 8 ∧ k.dayAmountLimit < 2 ^ 24

/-- Every setting lies within its range and both constraints hold (R4). -/
abbrev settingsAllowed (k : Settings) : Prop :=
  k.issuer ≤ 999999 ∧ k.firstSerial ≤ 999999999 ∧ (1 ≤ k.serialCount ∧ k.serialCount ≤ 16777216) ∧
  k.tableBase ≤ 16777215 ∧ (100 ≤ k.maxBalance ∧ k.maxBalance ≤ 10000000) ∧ (1 ≤ k.minLoad ∧ k.minLoad ≤ k.maxBalance) ∧
  k.bonusCeiling ≤ 10000000 ∧ k.tipTolerance ≤ 5000 ∧ (15 ≤ k.holdLifetime ∧ k.holdLifetime ≤ 10080) ∧
  (1 ≤ k.holdsPerCard ∧ k.holdsPerCard ≤ 8) ∧ (1 ≤ k.dayCountLimit ∧ k.dayCountLimit ≤ 255) ∧
  (1 ≤ k.dayAmountLimit ∧ k.dayAmountLimit ≤ 10000000) ∧ k.tableBase + k.serialCount ≤ 16777216 ∧
  k.firstSerial + k.serialCount - 1 ≤ 999999999

/-- Two programs overlap: they hold the same prefix, or their ranges share a card index (R6). -/
def settingsOverlap (a b : Settings) : Prop :=
  a.issuer = b.issuer ∨
  ∃ card, (a.tableBase ≤ card ∧ card < a.tableBase + a.serialCount) ∧
    (b.tableBase ≤ card ∧ card < b.tableBase + b.serialCount)

/-- A program with these settings overlaps another that is not OFF (R6). -/
def overlapsOpen (s : State) (p : Nat) (k : Settings) : Prop :=
  ∃ n, n ≠ p ∧ (s.program n).status ≠ .off ∧ settingsOverlap k (s.program n).settings

/-- A LOAD CLEAR of the program is in progress, or the load window is open on it (R5, R7). -/
def programHeld (s : State) (p : Nat) : Prop :=
  (∃ j ∈ s.tmc.clears, j.program = p) ∨ ∃ d a, s.mgmt.window = .opened d p a

/-- Every field of a promotion lies within its write range, and start day ≤ end day (R88). -/
abbrev promotionAllowed (e : Promotion) : Prop :=
  (1 ≤ e.trigger ∧ e.trigger ≤ 10000000) ∧ (1 ≤ e.rate ∧ e.rate ≤ 10000) ∧ (1 ≤ e.cap ∧ e.cap ≤ 10000000) ∧
  e.startDay ≤ e.endDay ∧ e.endDay ≤ 65535 ∧ (1 ≤ e.lifetime ∧ e.lifetime ≤ 3650)

/-- A load record passes the range check (R173). -/
def loadAllowed (k : Settings) (l : LoadRecord) : Prop :=
  l.stateCode ≤ 3 ∧ l.paid ≤ k.maxBalance ∧ l.bonus ≤ k.bonusCeiling ∧
  (∀ v, l.verify = some v → ∀ b ∈ v, 48 ≤ b.toNat ∧ b.toNat ≤ 57) ∧ (0 < l.bonus → l.bonusExpiry ≠ none)

/-! ## What every step keeps -/

/-- The settings of a pacer lie within their ranges (R163). -/
abbrev paceAllowed (p : PacerSettings) : Prop :=
  (2 ≤ p.highMark ∧ p.highMark ≤ 64) ∧ (1 ≤ p.lowMark ∧ p.lowMark < p.highMark) ∧
  (1 ≤ p.pauseTime ∧ p.pauseTime ≤ 255) ∧ (1 ≤ p.gapTime ∧ p.gapTime ≤ 255) ∧ p.pauseCount ≤ 15

/-- Every table has its canonical form, and each list, queue, counter and setting named here lies within the size or range the
spec gives it. -/
structure WithinLimits (s : State) : Prop where
  programs : Tab.wfWith .initial s.programs = true
  promotions : Tab.wfWith .initial s.promotions = true ∧ ∀ e ∈ s.promotions, e.1 < 64
  slots : Tab.wfWith .initial s.slots = true
  cache : Tab.wfWith .empty s.cache = true ∧ ∀ e ∈ s.cache, e.1 < 1024
  cards : Tab.wf s.cards = true
  ring : Tab.wf s.ring = true
  park : Tab.wf s.watch.park = true ∧ ∀ e ∈ s.watch.park, e.1 < 16
  /-- R25, R26 -/
  busy : s.busy.length ≤ 256 ∧ s.busy.Pairwise (fun a b => a.card ≠ b.card) ∧
    ∀ e ∈ s.busy, e.waiting.length ≤ 8 ∧ e.writes ≤ 65535
  /-- R161, R166 -/
  queues : (∀ l, (s.storeUnit l).intake.length ≤ 64) ∧ s.central.fifo.length ≤ 16
  /-- R23 -/
  blocked : s.dispatcher.blocked.Nodup
  /-- R136 -/
  quarantine : s.tmc.quarantine.length ≤ 32 ∧ s.tmc.quarantine.Nodup
  /-- R134, R153 -/
  counts : s.tmc.corrected ≤ 65535 ∧ ∀ l, (s.linkUnit l).dropped ≤ 65535
  /-- R142, R143 -/
  journal : s.journal.occupancy ≤ 1048576 ∧ s.journal.position < 1048576 ∧
    (1 ≤ s.journal.next ∧ s.journal.next ≤ 4294967295) ∧ (1 ≤ s.journal.oldest ∧ s.journal.oldest ≤ 4294967295)
  /-- R68 -/
  time : s.time.divider ≤ 24999 ∧ s.time.milliseconds ≤ 999 ∧ s.time.secondPhase ≤ 59 ∧ s.time.seconds ≤ 4294967295 ∧
    s.time.minutes ≤ 4294967295
  /-- R95 -/
  day : s.mgmt.day ≤ 65535
  /-- R119 -/
  hits : s.watch.status0.count ≤ 65535 ∧ s.watch.status1.count ≤ 65535 ∧ s.watch.status2.count ≤ 65535 ∧
    s.watch.status3.count ≤ 65535
  /-- R116 -/
  timeout : 1 ≤ s.watch.timeout ∧ s.watch.timeout ≤ 60
  /-- R168, R169 -/
  access : s.mgmt.level ≤ 2 ∧ (s.tblen = false → s.mgmt.level ≤ 1) ∧ 1 ≤ s.mgmt.returnSize ∧ s.mgmt.returnSize ≤ 64
  /-- R162, R163 -/
  pacers : ∀ l, paceAllowed (s.storeUnit l).pacer.active ∧ paceAllowed (s.storeUnit l).pacer.staged ∧
    (s.storeUnit l).pacer.sent ≤ 15

/-- The free list holds the FREE slots, each once; the expiry list holds the OPEN slots, each once, by their expiry minutes
(R71, R73, R74). -/
structure HoldLists (s : State) : Prop where
  form : Tab.wfWith .initial s.slots = true
  numbers : ∀ n, (s.slot n).state ≠ .free → n < 16384
  free : s.freeList.Nodup ∧ ∀ n, n ∈ s.freeList ↔ n < 16384 ∧ (s.slot n).state = .free
  expiry : s.expiryList.Nodup ∧ ∀ n, n ∈ s.expiryList ↔ (s.slot n).state = .openHold
  order : s.expiryList.Pairwise fun a b => (s.slot a).expiryMinute ≤ (s.slot b).expiryMinute

/-- A program's open holds count is the number of the OPEN and LAPSE_DUE slots whose program it is (R10). -/
def HoldsCounted (s : State) : Prop :=
  ∀ p, (s.program p).openHolds =
    (List.range 16384).countP fun n => decide ((s.slot n).state ≠ .free) && (s.slot n).program == p

/-- The programs that are not OFF have settings within their ranges and are pairwise distinct in prefix and range (R4, R6). -/
structure ProgramsApart (s : State) : Prop where
  form : Tab.wfWith .initial s.programs = true
  allowed : ∀ p, (s.program p).status ≠ .off → settingsAllowed (s.program p).settings
  apart : ∀ p, (s.program p).status ≠ .off → ¬overlapsOpen s p (s.program p).settings

end Sys2Proof.Machine
end

