-- ==== Sys2Proof/Certificates/Slice0/Obligations.lean ====
section
/-!
DEFINITION. The statements for the provers. Each docstring names the rules of the spec it formalises; where a clause states a
choice of the model, it names the log entry.
-/

open Sys2Proof Sys2Proof.Machine

/-! ## The machine as a whole -/

/-- A step with a command in front runs exactly that command, over the state with the queue's rest. With no command
waiting, a step is one cycle of the reference clock, which is the model's choice (log entry 2): the divider rises by 1,
and the cycle after 24,999 is a millisecond tick (R68). -/
def Obligations.StepRunsTheFrontCommand : Prop :=
  (∀ (s : State) (c : Instr) (rest : List Instr), s.pending = c :: rest → step s = exec c { s with pending := rest }) ∧
  (∀ s : State, s.pending = [] →
     (s.time.divider < 24999 → step s = .next { s with time := { s.time with divider := s.time.divider + 1 } }) ∧
     (24999 ≤ s.time.divider → step s = exec .millisecondTick s))

/-- Every command whose operands name what the part has answers a next state and leaves the queue alone; any other
faults (log entry 39). No command is refused. -/
def Obligations.CommandsAnswerNext : Prop :=
  ∀ (c : Instr) (s : State),
    (c.wf = true → ∃ t, exec c s = .next t ∧ t.pending = s.pending) ∧ (c.wf = false → ∃ f, exec c s = .fault f)

/-- The state after reset is that of power-on (R12, R42, R69, R84, R88, R126, R139, R151, R165, R179), with no command
waiting, and POWER_ON puts every block at the same values; the pins stand as they stood and the queue goes on (log entry
7). That the ticks counted toward the next second and minute, and the model's own fields, are then 0, empty or clear is
the model's choice (log entry 20). -/
def Obligations.ResetAndPowerOnStand : Prop :=
  (atPowerOn State.reset ∧ State.reset.pending = []) ∧
  (∀ s : State, ∃ t, exec .powerOn s = .next t ∧ atPowerOn t ∧
     (∀ l, (t.linkUnit l).line = (s.linkUnit l).line) ∧
     t.resetN = s.resetN ∧ t.tblen = s.tblen ∧ t.pending = s.pending ∧ t.powerOns = s.powerOns + 1)

/-- The four pin events (R168, R178): TBLEN_FALL takes level 2 to 1 and changes no other level; a fall of RESET_N causes
an engine reset. Nothing else changes. That a RESET_N already low is left as it is, and that RESET_N_HIGH only raises the
pin, are the model's choices (log entry 35). -/
def Obligations.PinEventsSetLevels : Prop :=
  ∀ s : State,
    (s.mgmt.level ≤ 2 →
      exec .tblenFall s =
        .next
          { s with tblen := false, mgmt := { s.mgmt with level := if s.mgmt.level = 2 then 1 else s.mgmt.level } }) ∧
    exec .tblenRise s = .next { s with tblen := true } ∧
    (s.resetN = true → exec .resetNLow s = .next { s with resetN := false, resetPending := true }) ∧
    (s.resetN = false → exec .resetNLow s = .next s) ∧
    exec .resetNHigh s = .next { s with resetN := true }

/-- An engine reset that was caused takes effect (R178): each block takes its engine-reset values (R12, R42, R84, R126,
R139, R151, R165, R179), each DRAM location written by a queued write holds the last of them, and the rest is kept. The
requesters' completions take effect (R139): the quarantine list is kept, but for a card whose restored record's write
was queued; a program whose LOAD CLEAR was in progress is initialised exactly where the queued writes were the last of
it (R12, R137); the written mark ends at the newest entry, where every entry beyond it is noted or queued (R151). The
model's choices: the outgoing queues are emptied (log entry 13); the queued writes complete in this event, in the order
queued, and a LOAD CLEAR that ends by them was not abandoned (log entry 14); the effect waits while a DONE answer of
ENGINE RESET is unsent, also where RESET_N fell (log entry 33). -/
def Obligations.EngineResetTakesEffect : Prop :=
  ∀ s : State,
    (s.resetPending = false ∨ resetAnswerWaits s = true → exec .engineResetEffect s = .next s) ∧
    (s.resetPending = true → resetAnswerWaits s = false →
      Tab.wfWith .initial s.programs = true → Tab.wfWith .initial s.slots = true →
      ∃ t, exec .engineResetEffect s = .next t ∧ t.resetPending = false ∧
        (∀ l, t.linkUnit l = { s.linkUnit l with errors := 0#8, dropped := 0, out := [] }) ∧
        (∀ l, (t.storeUnit l).intake = [] ∧
          (t.storeUnit l).pacer = { (s.storeUnit l).pacer with state := .idle, timer := 0, sent := 0 }) ∧
        t.central.fifo = [] ∧ t.dispatcher = { last := .s3, blocked := [], intakeStop := false } ∧ t.busy = [] ∧
        (∀ card w, (t.wayAt card w).valid = false ∧ (t.wayAt card w).pinned = false) ∧
        (∀ n, (t.cacheSet n).pointer = 0) ∧
        (∀ p,
          (t.program p).settings = (s.program p).settings ∧ (t.program p).openHolds = (s.program p).openHolds ∧
          (t.program p).inFlight = 0 ∧ (t.program p).drainTarget = none ∧
          ((s.program p).status ≠ .draining → (t.program p).status = (s.program p).status) ∧
          (∀ d, (s.program p).status = .draining → (s.program p).drainTarget = some d → (t.program p).status = d) ∧
          (clearOf p s = none → (t.program p).initialised = (s.program p).initialised) ∧
          (∀ c, clearOf p s = some c → restoresDrain s →
            (t.program p).initialised =
              decide (c.completed < c.count ∧ c.count ≤ c.completed + s.tmc.writes.countP (clearWriteOf p)))) ∧
        (∀ n, t.slot n = { s.slot n with issued := false }) ∧
        t.watch =
          { s.watch with
            status0 := { hit := false, last := none, count := 0 }, status1 := { hit := false, last := none, count := 0 },
            status2 := { hit := false, last := none, count := 0 }, status3 := { hit := false, last := none, count := 0 },
            park := [] } ∧
        t.mgmt =
          { level := 0, returnSize := 1, window := .closed, day := s.mgmt.day, pending := 0#8, qualifiers := 0#8,
            enabled := 0#8, inFlight := [], reading := none } ∧
        t.tmc.reads = [] ∧ t.tmc.writes = [] ∧ t.tmc.clears = [] ∧ t.tmc.restore = none ∧
        t.tmc.corrected = s.tmc.corrected ∧
        ((∀ card, restoreWaits card s = false) → t.tmc.quarantine = s.tmc.quarantine) ∧
        (∀ j, s.tmc.restore = some j → restoreWaits j.card s = true → restoresDrain s →
          t.tmc.quarantine = s.tmc.quarantine.erase j.card) ∧
        (∀ card, restoreWaits card s = false ∨ restoresDrain s →
          Tab.find t.cards card = (lastCardWrite card s.tmc.writes).or (Tab.find s.cards card)) ∧
        (∀ position, Tab.find t.ring position = (lastJournalWrite position s.tmc.writes).or (Tab.find s.ring position)) ∧
        t.journal = { s.journal with written := t.journal.written, noted := t.journal.noted } ∧
        (∀ n, n < 4294967295 →
          (s.journal.noted ++ queuedSequences s.tmc.writes).Perm
            ((List.range n).map fun k => successor^[k + 1] s.journal.written) →
          successor s.journal.written ∉ s.journal.noted → successor^[n] s.journal.written = s.journal.newest →
          t.journal.written = s.journal.newest ∧ t.journal.noted = []) ∧
        t.promotions = s.promotions ∧ t.freeList = s.freeList ∧ t.expiryList = s.expiryList ∧ t.time = s.time ∧
        t.resetN = s.resetN ∧ t.tblen = s.tblen ∧ t.pending = s.pending ∧ t.powerOns = s.powerOns)

/-! ## The links -/

/-- Each check bit is the XOR of the header bits whose code has it, and the 30 bits covered hold an even number of ones;
the codes are the values of 3 to 29 with at least two bits set, in increasing order (R156). -/
def Obligations.HeaderCheckByteFollowsCodes : Prop :=
  headerCodes = (List.range 30).filter (fun c => 2 ≤ onesIn 5 c) ∧
  ∀ h : Nat, h < 2 ^ 24 →
    headerCheckByte h < 64 ∧
    (∀ k, k < 5 →
      ((headerCheckByte h).testBit k = true ↔
        ((List.range 24).countP fun i => h.testBit i && (headerCodes.getD i 0).testBit k) % 2 = 1)) ∧
    ((List.range 30).countP fun i => (headerWord h).testBit i) % 2 = 0

/-- A header is received as sent when one of its 30 covered bits is flipped, and is uncorrectable when two are; bits 6
and 7 of byte 3 are ignored (R157). -/
def Obligations.HeaderCorrectsOneDetectsTwo : Prop :=
  ∀ h : Nat, h < 2 ^ 24 →
    checkHeaderWord (headerWord h) = .clean h ∧
    (∀ i, i < 30 → checkHeaderWord (headerWord h ^^^ 2 ^ i) = .corrected h) ∧
    (∀ i j, i < 30 → j < 30 → i ≠ j → checkHeaderWord (headerWord h ^^^ 2 ^ i ^^^ 2 ^ j) = .uncorrectable) ∧
    (∀ w k, w < 2 ^ 30 → k < 4 → checkHeaderWord (w + 2 ^ 30 * k) = checkHeaderWord w)

/-- DECODE AND ENCODE AGREE (R155 to R159): the receive checks read from a parcel as sent its kind, its return link, its
length and its payload, with a clean header and a passing payload check. -/
def Obligations.ParcelsDecodeAsEncoded : Prop :=
  ∀ (kind ret : Nat) (payload : List Byte), kind < 64 → ret < 4 → payload.length ≤ 1024 →
    ∃ h, frame (encodeParcel kind ret payload) = .framed false h ∧ headerKind h = kind ∧ headerReturn h = ret ∧
      headerLength h = payload.length ∧ payloadOf h (encodeParcel kind ret payload) = payload ∧
      payloadOk h (encodeParcel kind ret payload) = true ∧
      (encodeParcel kind ret payload).length = if payload = [] then 4 else payload.length + 6

/-- A request payload decodes to the fields its layout codes (R180, 12.2), whatever its bytes hold; one of another
length does not decode. -/
def Obligations.RequestPayloadDecodes : Prop :=
  (∀ l payload, payload.length ≠ 36 → decodeRequest l payload = none) ∧
  ∀ (l : StoreLink) (kind channel presence lane : Byte) (store seq amount ref original : Nat)
    (number verify : List Byte),
    number.length = 16 → verify.length = 3 → store < 65536 → seq < 65536 → amount < 4294967296 → ref < 16777216 →
    original < 65536 →
    let payload :=
      [kind, channel, presence, lane] ++ leBytes 2 store ++ leBytes 2 seq ++ number ++ leBytes 4 amount ++ verify
        ++ leBytes 3 ref ++ leBytes 2 original
    decodeRequest l payload =
      some
        { kindCode := kind.toNat, channelCode := channel.toNat, till := { store := store, lane := lane.toNat }, seq := seq,
          cardNumber := number
          amount := if presence.getLsbD 0 then some amount else none
          verify := if presence.getLsbD 1 then some verify else none
          holdRef := if presence.getLsbD 2 then some { slot := ref / 256 % 16384, reuse := ref % 256 } else none
          original := if presence.getLsbD 3 then some original else none
          origin := l, payload := payload }

/-- A parcel handed to a link unit waits in order while the link is UP; while it is DOWN it is dropped, and every
ANSWER, MGMT_ANSWER and NOTICE so dropped is counted up to 65,535 (R153, R154, R155). PARCEL_SEND sends the oldest
parcel handed to a unit that is UP, as its header, payload and check, with the kind and the return link of R155: an
answer of the part as ANSWER with the link it is sent on, pass traffic as REQUEST with its origin link, a central answer
as ANSWER with its own return link, PAUSE, MGMT_ANSWER and NOTICE with 0. With nothing waiting, or DOWN, nothing is sent.
The payloads of ANSWER, MGMT_ANSWER and NOTICE, journal entries and card records hold each field at its offset, an absent
field as zero bytes, and the listed values are coded in their order (12.2 to 12.6, R180, R181). -/
def Obligations.ParcelsAreHandedAndSent : Prop :=
  (∀ (u : LinkUnit) (p : OutParcel),
     (u.up = true → handTo u p = { u with out := u.out ++ [p] }) ∧
     (u.up = false → countedDrop p = true → handTo u p = { u with dropped := min 65535 (u.dropped + 1) }) ∧
     (u.up = false → countedDrop p = false → handTo u p = u) ∧
     (countedDrop p = false ↔ (∃ n, p = .pause n) ∨ ∃ ret payload, p = .forwardedRequest ret payload)) ∧
  (∀ (l : Link) (s : State),
     let parts : OutParcel → Nat × Nat × List Byte
       | .forwardedRequest ret payload => (1, storeLinkCode ret, payload)
       | .answer a => (2, (match l with | .store k => storeLinkCode k | .central => 0), encodeAnswer a)
       | .forwardedAnswer ret payload => (2, storeLinkCode ret, payload)
       | .mgmtAnswer a => (4, 0, encodeMgmtAnswer a)
       | .notice n => (5, 0, encodeNotice n)
       | .pause time => (6, 0, leBytes 1 time)
     ((s.linkUnit l).out = [] ∨ (s.linkUnit l).up = false → exec (.parcelSend l) s = .next s) ∧
     (∀ p rest, (s.linkUnit l).out = p :: rest → (s.linkUnit l).up = true →
       ∃ t, exec (.parcelSend l) s = .next t ∧ t = { s with stores := t.stores, central := t.central } ∧
         t.linkUnit l =
           { s.linkUnit l with
             out := rest
             line := (s.linkUnit l).line ++ [encodeParcel (parts p).1 (parts p).2.1 (parts p).2.2] } ∧
         (∀ k, k ≠ l → t.linkUnit k = s.linkUnit k) ∧ t.central.fifo = s.central.fifo ∧
         ∀ k, (t.storeUnit k).intake = (s.storeUnit k).intake ∧ (t.storeUnit k).pacer = (s.storeUnit k).pacer)) ∧
  (∀ a, answerLaidOut a) ∧ (∀ a, mgmtAnswerLaidOut a) ∧ (∀ n, noticeLaidOut n) ∧ (∀ e, entryLaidOut e) ∧
  (∀ r, recordLaidOut r) ∧ codesInOrder

/-- CARRIER_PRESENT and CARRIER_LOST (R152 to R155, R162): a link in UP does not change at carrier, nor one in DOWN at
its loss. A link in DOWN becomes UP, and C then sends a NOTICE where an enabled kind is pending. A store link in UP
loses its intake queue, its place in the blocked set, its pacer's run and the parcels still waiting, of which the
answers are counted; C loses the parcels still waiting and keeps its FIFO. -/
def Obligations.LinksFollowCarrier : Prop :=
  (∀ s : State,
     (∀ l, (s.linkUnit l).up = true → exec (.carrierPresent l) s = .next s) ∧
     (∀ k, (s.storeUnit k).link.up = false →
       ∃ t, exec (.carrierPresent (.store k)) s = .next t ∧ t = { s with stores := t.stores } ∧
         t.storeUnit k = { s.storeUnit k with link := { (s.storeUnit k).link with up := true } } ∧
         ∀ j, j ≠ k → t.storeUnit j = s.storeUnit j) ∧
     (s.central.link.up = false →
       exec (.carrierPresent .central) s =
         .next
           { s with
             central :=
               { s.central with
                 link :=
                   { s.central.link with
                     up := true
                     out := s.central.link.out
                       ++ if s.mgmt.pending &&& s.mgmt.enabled = 0#8 then []
                          else
                            [.notice
                              { pending := s.mgmt.pending, qualifiers := s.mgmt.qualifiers, enabled := s.mgmt.enabled,
                                day := s.mgmt.day, minute := s.time.minutes }] } } })) ∧
  (∀ s : State,
     (∀ l, (s.linkUnit l).up = false → exec (.carrierLost l) s = .next s) ∧
     (∀ k, (s.storeUnit k).link.up = true →
       ∃ t, exec (.carrierLost (.store k)) s = .next t ∧
         t = { s with stores := t.stores, dispatcher := t.dispatcher } ∧
         t.storeUnit k =
           { link :=
               { (s.storeUnit k).link with
                 up := false, out := []
                 dropped :=
                   min 65535 ((s.storeUnit k).link.dropped + (s.storeUnit k).link.out.countP countedDrop) }
             intake := []
             pacer := { (s.storeUnit k).pacer with state := .idle, timer := 0, sent := 0 } } ∧
         (∀ j, j ≠ k → t.storeUnit j = s.storeUnit j) ∧
         t.dispatcher.last = s.dispatcher.last ∧ t.dispatcher.intakeStop = s.dispatcher.intakeStop ∧
         ∀ j, j ∈ t.dispatcher.blocked ↔ j ∈ s.dispatcher.blocked ∧ j ≠ k) ∧
     (s.central.link.up = true →
       exec (.carrierLost .central) s =
         .next
           { s with
             central :=
               { s.central with
                 link :=
                   { s.central.link with
                     up := false, out := []
                     dropped := min 65535 (s.central.link.dropped + s.central.link.out.countP countedDrop) } } }))

/-- An error kind that is not in a link's report joins it and raises LINK_ERROR; one that is there changes nothing
(R160). Raising a notice puts its kind in the pending set, and sets the overflow qualifier where it is raised with it; a
NOTICE with the whole set is handed to C exactly where the kind is enabled and either was not pending or the qualifier
is new (R176, R177). -/
def Obligations.ErrorsAndNoticesRaisedOnce : Prop :=
  (∀ (l : Link) (k : LinkError) (s : State),
     ((s.linkUnit l).errors.getLsbD (linkErrorBit k) = true → recordError l k s = s) ∧
     ((s.linkUnit l).errors.getLsbD (linkErrorBit k) = false →
       ∃ u, recordError l k s = raiseNotice .linkError false u ∧ u = { s with stores := u.stores, central := u.central } ∧
         u.linkUnit l = { s.linkUnit l with errors := (s.linkUnit l).errors ||| 1#8 <<< linkErrorBit k } ∧
         (∀ j, j ≠ l → u.linkUnit j = s.linkUnit j) ∧ u.central.fifo = s.central.fifo ∧
         ∀ j, (u.storeUnit j).intake = (s.storeUnit j).intake ∧ (u.storeUnit j).pacer = (s.storeUnit j).pacer)) ∧
  (∀ (k : NoticeKind) (overflow : Bool) (s : State),
     let qualifier : BitVec 8 :=
       if overflow then (if k = .watchParked then 1#8 else if k = .memoryError then 2#8 else 0#8) else 0#8
     let pending := s.mgmt.pending ||| 1#8 <<< noticeBit k
     let qualifiers := s.mgmt.qualifiers ||| qualifier
     let sends :=
       s.mgmt.enabled.getLsbD (noticeBit k) = true ∧
         (s.mgmt.pending.getLsbD (noticeBit k) = false ∨ qualifiers ≠ s.mgmt.qualifiers)
     (sends →
       raiseNotice k overflow s =
         { s with
           mgmt := { s.mgmt with pending := pending, qualifiers := qualifiers }
           central :=
             { s.central with
               link :=
                 handTo s.central.link
                   (.notice
                     { pending := pending, qualifiers := qualifiers, enabled := s.mgmt.enabled, day := s.mgmt.day,
                       minute := s.time.minutes }) } }) ∧
     (¬sends →
       raiseNotice k overflow s = { s with mgmt := { s.mgmt with pending := pending, qualifiers := qualifiers } }))

/-- REQUEST (R159, R161, R162, R180): on a store link that is UP, a REQUEST parcel as sent joins the tail of its intake
queue, where its payload is 36 bytes; at a full queue it is answered BUSY and not kept; of another length it is a DECODE
error. Where it brings an IDLE pacer's queue to the high mark, a PAUSE is handed and the pacer becomes PAUSING. ANSWER
and MGMT (R159, R164, R181): on C in UP, an ANSWER parcel as sent is handed on to the store link its return link names,
payload unchanged; a MGMT parcel of at least 3 bytes joins the tail of the FIFO, or is refused BUSY at a full one; a
shorter one is a DECODE error. -/
def Obligations.ReceivedParcelsJoinTheirQueues : Prop :=
  (∀ (s : State) (l : StoreLink) (ret : Nat) (payload : List Byte),
     (s.storeUnit l).link.up = true → s.resetN = true → ret < 4 → payload.length ≤ 1024 →
     (payload.length ≠ 36 →
       exec (.request l (encodeParcel 1 ret payload)) s = .next (recordError (.store l) .decode s)) ∧
     (∀ q, decodeRequest l payload = some q →
       ∃ t, exec (.request l (encodeParcel 1 ret payload)) s = .next t ∧ t = { s with stores := t.stores } ∧
         (∀ j, j ≠ l → t.storeUnit j = s.storeUnit j) ∧
         let u := s.storeUnit l
         t.storeUnit l =
           if 64 ≤ u.intake.length then
             { u with
               link :=
                 { u.link with
                   out := u.link.out
                     ++ [.answer
                       { kindCode := q.kindCode, outcome := .busy, repeated := false, till := q.till, seq := q.seq,
                         approved := none, balances := none, holdRef := none, journalSeq := none }] } }
           else if u.pacer.state = .idle ∧ u.pacer.active.highMark ≤ u.intake.length + 1 then
             { link := { u.link with out := u.link.out ++ [.pause u.pacer.active.pauseTime] }
               intake := u.intake ++ [q]
               pacer := { u.pacer with state := .pausing, timer := u.pacer.active.pauseTime, sent := 1 } }
           else { u with intake := u.intake ++ [q] })) ∧
  (∀ (s : State) (ret : Nat) (payload : List Byte),
     s.central.link.up = true → s.resetN = true → ret < 4 → payload.length ≤ 1024 →
     (∃ t, exec (.answer (encodeParcel 2 ret payload)) s = .next t ∧ t = { s with stores := t.stores } ∧
       ∀ j, t.storeUnit j =
         if storeLinkCode j = ret then
           { s.storeUnit j with link := handTo (s.storeUnit j).link (.forwardedAnswer j payload) }
         else s.storeUnit j) ∧
     (payload.length < 3 → exec (.mgmt (encodeParcel 3 ret payload)) s = .next (recordError .central .decode s)) ∧
     (∀ (code tag : Nat) (fields : List Byte), code < 256 → tag < 65536 →
       payload = leBytes 1 code ++ leBytes 2 tag ++ fields →
       exec (.mgmt (encodeParcel 3 ret payload)) s =
         .next
           { s with
             central :=
               if 16 ≤ s.central.fifo.length then
                 { s.central with
                   link :=
                     { s.central.link with
                       out := s.central.link.out
                         ++ [.mgmtAnswer { code := code, tag := tag, result := .refused .busy }] } }
               else { s.central with fifo := s.central.fifo ++ [{ code := code, tag := tag, fields := fields }] } }))

/-- The five reception commands meet the same checks in order (R152, R157 to R159, R178): nothing is received on a link
in DOWN or while RESET_N is low; an uncorrectable header, a wrong length, a kind the link does not accept and a failing
payload check are recorded; a corrected header is recorded before the check that follows; an IDLE parcel is ignored. So
an IDLE parcel as sent changes nothing, and a parcel as sent of a kind its link does not accept records UNEXPECTED_KIND.
That the five run one sequence of checks, whatever the command is named, and that what comes on a link in DOWN or while
RESET_N is low leaves no record, are the model's choices (log entries 6 and 26). -/
def Obligations.ReceptionChecksInOrder : Prop :=
  (∀ (s : State) (l : Link) (bytes : List Byte) (c : Instr),
     (c = .idle l bytes ∨ c = .unexpectedKind l bytes ∨ (∃ k, l = .store k ∧ c = .request k bytes) ∨
       (l = .central ∧ (c = .answer bytes ∨ c = .mgmt bytes))) →
     ((s.linkUnit l).up = false ∨ s.resetN = false → exec c s = .next s) ∧
     ((s.linkUnit l).up = true → s.resetN = true →
       (frame bytes = .headerBad → exec c s = .next (recordError l .headerBad s)) ∧
       (∀ fixed, frame bytes = .lengthBad fixed →
         exec c s = .next (recordError l .length (if fixed then recordError l .headerCorrected s else s))) ∧
       (∀ fixed h, frame bytes = .framed fixed h →
         let s' := if fixed then recordError l .headerCorrected s else s
         (headerKind h = 0 → exec c s = .next s') ∧
         (headerKind h ≠ 0 → acceptedKind l (headerKind h) = false →
           exec c s = .next (recordError l .unexpectedKind s')) ∧
         (acceptedKind l (headerKind h) = true → payloadOk h bytes = false →
           exec c s = .next (recordError l .payloadBad s'))))) ∧
  (∀ (s : State) (l : Link) (kind ret : Nat) (payload : List Byte),
     (s.linkUnit l).up = true → s.resetN = true → kind < 64 → ret < 4 → payload.length ≤ 1024 →
     exec (.idle l (encodeParcel 0 ret payload)) s = .next s ∧
     ((∃ k, l = .store k ∧ kind ≠ 0 ∧ kind ≠ 1) ∨ (l = .central ∧ kind ≠ 0 ∧ kind ≠ 2 ∧ kind ≠ 3) →
       exec (.unexpectedKind l (encodeParcel kind ret payload)) s = .next (recordError l .unexpectedKind s)))

/-! ## The timebase -/

/-- PACER_EXPIRY (R162, R163): the staged settings become active, then the pacer of a run takes its next state: PAUSING
gives GAP; GAP pauses again at or above the low mark while pauses remain, or goes to IDLE; an IDLE pacer has no timer.
MILLISECOND_TICK (R68): the divider is 0, a running timer above 1 falls by 1, one at 1 expires, and the 1,000th tick is
a second tick. The model's choices (log entry 4): PACER_EXPIRY acts whatever the timer shows, a commanded tick sets the
divider to 0, and the second tick comes in the same event, after the pacers' PAUSEs (log entry 50). -/
def Obligations.PacerTimersRun : Prop :=
  (∀ (s : State) (l : StoreLink),
     let u := s.storeUnit l
     let a := u.pacer.staged
     (u.pacer.state = .idle → exec (.pacerExpiry l) s = .next s) ∧
     (u.pacer.state ≠ .idle →
       ∃ t, exec (.pacerExpiry l) s = .next t ∧ t = { s with stores := t.stores } ∧
         (∀ k, k ≠ l → t.storeUnit k = s.storeUnit k) ∧
         t.storeUnit l =
           if u.pacer.state = .pausing then
             { u with pacer := { state := .gap, timer := a.gapTime, sent := u.pacer.sent, active := a, staged := a } }
           else if a.lowMark ≤ u.intake.length ∧ (a.pauseCount = 0 ∨ u.pacer.sent < a.pauseCount) then
             { link := handTo u.link (.pause a.pauseTime), intake := u.intake
               pacer :=
                 { state := .pausing, timer := a.pauseTime, sent := min 15 (u.pacer.sent + 1), active := a, staged := a } }
           else { u with pacer := { state := .idle, timer := 0, sent := 0, active := a, staged := a } })) ∧
  (∀ s : State, ∃ t,
     t = { s with stores := t.stores, time := { s.time with divider := 0, milliseconds := s.time.milliseconds + 1 } } ∧
     (∀ l,
       ((s.storeUnit l).pacer.state = .idle → t.storeUnit l = s.storeUnit l) ∧
       ((s.storeUnit l).pacer.state ≠ .idle → 1 < (s.storeUnit l).pacer.timer →
         t.storeUnit l =
           { s.storeUnit l with pacer := { (s.storeUnit l).pacer with timer := (s.storeUnit l).pacer.timer - 1 } }) ∧
       ((s.storeUnit l).pacer.state ≠ .idle → (s.storeUnit l).pacer.timer ≤ 1 →
         ∃ u, exec (.pacerExpiry l) s = .next u ∧ t.storeUnit l = u.storeUnit l)) ∧
     (s.time.milliseconds < 999 → exec .millisecondTick s = .next t) ∧
     (999 ≤ s.time.milliseconds → exec .millisecondTick s = exec .secondTick t))

/-- SECOND_TICK and MINUTE_TICK (R68, R75, R76): the counter rises by 1, its timeouts or due holds follow, and the 60th
second tick is a minute tick; a minute tick then issues, while the part takes work, a lapse item for every due slot that
has none, in ascending slot number. A counter at its last value stands, and produces no tick.
While RESET_N is low or a reset is pending no lapse item is issued (R69, R178). That the ticks and their work come in one
event, that a commanded tick happens whatever the lower counts show, and that the park timeouts come before the minute
tick, are the model's choices (log entries 4 and 52). -/
def Obligations.SecondAndMinuteTicks : Prop :=
  ∀ s : State,
    (s.time.seconds = 4294967295 → exec .secondTick s = .next { s with time := { s.time with milliseconds := 0 } }) ∧
    (s.time.seconds ≠ 4294967295 →
      ∃ t, exec .watchTimeout
          { s with
            time :=
              { s.time with milliseconds := 0, seconds := s.time.seconds + 1, secondPhase := s.time.secondPhase + 1 } }
          = .next t ∧
        (s.time.secondPhase < 59 → exec .secondTick s = .next t) ∧
        (59 ≤ s.time.secondPhase → exec .secondTick s = exec .minuteTick t)) ∧
    (s.time.minutes = 4294967295 → exec .minuteTick s = .next { s with time := { s.time with secondPhase := 0 } }) ∧
    (s.time.minutes ≠ 4294967295 →
      ∃ t, exec .holdDue { s with time := { s.time with secondPhase := 0, minutes := s.time.minutes + 1 } } = .next t ∧
        (s.resetN = false ∨ s.resetPending = true → exec .minuteTick s = .next t) ∧
        (s.resetN = true → s.resetPending = false → Tab.wfWith .initial t.slots = true →
          (∀ e ∈ t.slots, e.1 < 16384) →
          exec .minuteTick s =
            .next
              (((List.range 16384).filter fun n =>
                  decide ((t.slot n).state = .lapseDue) && !(t.slot n).issued).foldl issueLapse t)))

/-- HOLD_DUE (R75): the OPEN holds at the front of the expiry list whose expiry minute is reached leave it and become
LAPSE_DUE with issued = no; the first that is not reached stays, and the rest behind it. The issue of one lapse item
(R76): it carries the slot's reference to the slot's card; where it enters the Card Serialiser the issued flag becomes
yes, and otherwise nothing changes. -/
def Obligations.HoldsFallDueAndAreIssued : Prop :=
  (∀ (s : State) (due rest : List Nat), s.expiryList = due ++ rest →
     (∀ n ∈ due, (s.slot n).expiryMinute ≤ s.time.minutes) →
     (∀ n, rest.head? = some n → s.time.minutes < (s.slot n).expiryMinute) → Tab.wfWith .initial s.slots = true →
     ∃ t, exec .holdDue s = .next t ∧ t = { s with slots := t.slots, expiryList := rest } ∧
       (∀ n, t.slot n = if n ∈ due then { s.slot n with state := .lapseDue, issued := false } else s.slot n) ∧
       Tab.wfWith .initial t.slots = true) ∧
  (∀ (s : State) (n : Nat) (h : HandOver) (t : State),
     handOver
         { card := (s.slot n).card, program := some (s.slot n).program, skip := false,
           body := .lapse { slot := n, reuse := (s.slot n).reuse } none }
         s = (h, t) →
     (h ≠ .entered → issueLapse s n = s) ∧
     (h = .entered → Tab.wfWith .initial s.slots = true →
       ∃ u, issueLapse s n = u ∧ u = { t with slots := u.slots } ∧ u.slot n = { s.slot n with issued := true } ∧
         ∀ m, m ≠ n → u.slot m = s.slot m))

/-- WATCH_TIMEOUT (R123): nothing happens where no park entry has reached its expiry second; otherwise each that has, in
ascending park id, is referred, and WATCH_TIMEOUT is raised once, after the answers (log entry 22). A parked item that
is denied or times out (R122, R123) leaves its park entry empty and its busy entry ACTIVE, is answered REFERRED with the
balances of the card's record, and leaves its program's in-flight count; the entry is freed where nothing keeps it. -/
def Obligations.WatchTimeoutsRefer : Prop :=
  (∀ s : State,
     ((∀ e ∈ s.watch.park, s.time.seconds < e.2.expirySecond) → exec .watchTimeout s = .next s) ∧
     (s.resetN = true → s.resetPending = false → (∃ e ∈ s.watch.park, e.2.expirySecond ≤ s.time.seconds) →
       ∃ t, exec .watchTimeout s = .next (raiseNotice .watchTimeout false t) ∧
         t = (s.watch.park.filter fun e => decide (e.2.expirySecond ≤ s.time.seconds)).foldl
               (fun s e => referParked e.1 e.2 s) s ∧
         (Tab.rising s.watch.park = true →
           ∀ id, Tab.find t.watch.park id =
             (Tab.find s.watch.park id).filter fun e => decide (s.time.seconds < e.expirySecond)))) ∧
  (∀ (s : State) (id : Nat) (p : ParkEntry) (e : BusyEntry) (q₀ : TillRequest) (w : Nat) (r : CardRecord),
     p.item.body = .till q₀ → p.item.card = p.card → s.busyOf p.card = some e → e.way = some w →
     (s.wayAt p.card w).valid = true → (s.wayAt p.card w).record = r →
     referParked id p s =
       freeIfDone p.card
         (countOut p.item.program
           (handStore q₀.origin
             (.answer
               { kindCode := tillKindCode q₀.kind, outcome := .referred, repeated := false, till := q₀.till, seq := q₀.seq,
                 approved := none
                 balances :=
                   some { state := r.state, paid := r.paid, bonus := r.bonus, held := r.held, bonusExpiry := r.bonusExpiry }
                 holdRef := none, journalSeq := none })
             { s with
               watch := { s.watch with park := Tab.erase s.watch.park id }
               busy := s.busy.map fun x =>
                 if x.card = p.card then { x with state := .active, current := none } else x })))

/-! ## Cards and the Dispatcher -/

/-- The check digit of fifteen digits (R1): it alone of the ten digits is valid, and a card number with one digit
changed is not valid. -/
def Obligations.CheckDigitIsValidAlone : Prop :=
  ∀ digits : List Nat, digits.length = 15 → (∀ d ∈ digits, d < 10) →
    (∀ c, c < 10 →
      (checkDigitValid (digits ++ [c]) = true ↔
        c = (10 - ((List.range 15).map fun i =>
              if i % 2 = 0 then (if 9 < 2 * digits.getD i 0 then 2 * digits.getD i 0 - 9 else 2 * digits.getD i 0)
              else digits.getD i 0).sum % 10) % 10)) ∧
    ∀ i d, i < 15 → d < 10 → d ≠ digits.getD i 0 → ∀ c,
      checkDigitValid (digits ++ [c]) = true → checkDigitValid (digits.set i d ++ [c]) = false

/-- The field check (R22): a request fails it exactly when its kind or channel is not listed, its card number is not 16
decimal digits, a field its kind requires is absent, its amount is present and is 0 or above 10,000,000, or its verify
value is present and is not three decimal digits; and the Dispatcher answers it BAD_REQUEST on its origin link, without
balances, and does nothing else. The two are 16 and 3 characters of every request that decodes. -/
def Obligations.FieldCheckRejects : Prop :=
  let isDigit (b : Byte) : Prop := 48 ≤ b.toNat ∧ b.toNat ≤ 57
  ∀ q : Request, q.cardNumber.length = 16 → (∀ v, q.verify = some v → v.length = 3) →
    let fails : Prop :=
      8 < q.kindCode ∨ 1 < q.channelCode ∨ (∃ b ∈ q.cardNumber, ¬isDigit b) ∨
      (q.amount = none ∧ q.kindCode ∈ [1, 2, 3, 4, 5]) ∨ (q.holdRef = none ∧ q.kindCode ∈ [5, 6]) ∨
      (q.original = none ∧ q.kindCode ∈ [7, 8]) ∨ (∃ a, q.amount = some a ∧ (a = 0 ∨ 10000000 < a)) ∨
      ∃ v, q.verify = some v ∧ ∃ b ∈ v, ¬isDigit b
    (fieldCheck q = none ↔ fails) ∧
    ∀ s : State, fails →
      dispatchRequest q s =
        .consumed
          (handStore q.origin
            (.answer
              { kindCode := q.kindCode, outcome := .badRequest, repeated := false, till := q.till, seq := q.seq,
                approved := none, balances := none, holdRef := none, journalSeq := none }) s)

/-- DISPATCH takes the head of the first eligible link, in the order S0, S1, S2, S3, S0, from the link after the
last-served one, which it makes the last-served link; with none eligible, or while an engine reset is under way, nothing
is taken (R20, R27, R178). That a head which then stays blocked also moves the last-served link is the model's choice
(log entry 21). -/
def Obligations.DispatchServesLinksInTurn : Prop :=
  ∀ s : State,
    let eligible (l : StoreLink) : Prop := (s.storeUnit l).intake ≠ [] ∧ l ∉ s.dispatcher.blocked
    ((∀ l, ¬eligible l) ∨ s.resetN = false ∨ s.resetPending = true → exec .dispatch s = .next s) ∧
    (s.resetN = true → s.resetPending = false →
      ∀ (k : Nat) (q : Request) (rest : List Request), k < 4 →
        let l := storeLinkOf (storeLinkCode s.dispatcher.last + 1 + k)
        (∀ j, j < k → ¬eligible (storeLinkOf (storeLinkCode s.dispatcher.last + 1 + j))) → eligible l →
        (s.storeUnit l).intake = q :: rest →
        let served := { s with dispatcher := { s.dispatcher with last := l } }
        (∀ t, dispatchRequest q served = .consumed t →
          ∃ u, exec .dispatch s = .next u ∧ u = { t with stores := u.stores } ∧
            u.storeUnit l = { t.storeUnit l with intake := (t.storeUnit l).intake.tail } ∧
            ∀ j, j ≠ l → u.storeUnit j = t.storeUnit j) ∧
        (dispatchRequest q served = .blocked →
          exec .dispatch s =
            .next { s with dispatcher := { s.dispatcher with last := l, blocked := s.dispatcher.blocked ++ [l] } }))

/-- The dispatch of a request (R2, R3, R22, R23) up to its card: BAD_REQUEST; pass traffic, forwarded with its payload
unchanged or answered UNAVAILABLE while C is DOWN; BAD_CARD; UNAVAILABLE for a quarantined card; BUSY at an intake stop.
None of these takes a card. -/
def Obligations.DispatchAnswersWithoutTheCard : Prop :=
  ∀ (q : Request) (s : State),
    let answered (kind : Nat) (o : TillOutcome) : Dispatched :=
      .consumed
        (handStore q.origin
          (.answer
            { kindCode := kind, outcome := o, repeated := false, till := q.till, seq := q.seq, approved := none,
              balances := none, holdRef := none, journalSeq := none }) s)
    (fieldCheck q = none → dispatchRequest q s = answered q.kindCode .badRequest) ∧
    (∀ q₀ digits, fieldCheck q = some (q₀, digits) →
      let issuer := digitsNat (digits.take 6)
      let serial := digitsNat ((digits.drop 6).take 9)
      ((∀ e ∈ s.programs, e.2.settings.issuer = issuer → e.2.status = .off) ∨
          (∃ e ∈ s.programs, e.2.settings.issuer = issuer ∧ e.2.status ∈ [.pass, .loading, .draining] ∧
            ∀ f ∈ s.programs, f.2.settings.issuer = issuer → f.2.status ≠ .off → f = e) →
        dispatchRequest q s =
          if s.central.link.up then
            .consumed
              { s with
                central :=
                  { s.central with
                    link :=
                      { s.central.link with out := s.central.link.out ++ [.forwardedRequest q.origin q.payload] } } }
          else answered q.kindCode .unavailable) ∧
      (∀ p e, (p, e) ∈ s.programs → e.status = .live → e.settings.issuer = issuer →
        (∀ f ∈ s.programs, f.2.settings.issuer = issuer → f.2.status ≠ .off → f = (p, e)) →
        (checkDigitValid digits = false ∨ serial < e.settings.firstSerial ∨
            e.settings.firstSerial + e.settings.serialCount ≤ serial →
          dispatchRequest q s = answered q.kindCode .badCard) ∧
        (checkDigitValid digits = true → e.settings.firstSerial ≤ serial →
          serial < e.settings.firstSerial + e.settings.serialCount →
          let card := e.settings.tableBase + (serial - e.settings.firstSerial)
          (card ∈ s.tmc.quarantine → dispatchRequest q s = answered q.kindCode .unavailable) ∧
          (card ∉ s.tmc.quarantine → s.dispatcher.intakeStop = true → dispatchRequest q s = answered q.kindCode .busy) ∧
          (card ∉ s.tmc.quarantine → s.dispatcher.intakeStop = false →
            dispatchRequest q s =
              if q₀.kind = .withdraw then dispatchWithdraw q₀ p card s else dispatchItem q₀ p card s))))

/-- The hand-over of an item to the Card Serialiser (R11, R23, R26, R27, R128, R129): a quarantined card, a full waiting
list and a full Busy Card List keep it out with nothing changed, a till request then being answered BUSY or left at its
queue's head; it joins the entry of its card, or makes one that is ACTIVE on the way that holds the record, FETCHING on
the first way not pinned from the replacement pointer on, with a read queued, or in FETCH_WAIT; its program's in-flight
count rises by 1. -/
def Obligations.HandOverEntersOrIsTurnedAway : Prop :=
  (∀ (q₀ : TillRequest) (p card : Nat) (s : State),
     let it : Item := { card := card, program := some p, skip := false, body := .till q₀ }
     card ∉ s.tmc.quarantine →
     (∀ e, s.busyOf card = some e → e.waiting.length < 8 → dispatchItem q₀ p card s = .consumed (handOver it s).2) ∧
     (∀ e, s.busyOf card = some e → 8 ≤ e.waiting.length →
       dispatchItem q₀ p card s = .consumed (answerBare q₀ .busy s)) ∧
     (s.busyOf card = none → s.busy.length < 256 → dispatchItem q₀ p card s = .consumed (handOver it s).2) ∧
     (s.busyOf card = none → 256 ≤ s.busy.length → dispatchItem q₀ p card s = .blocked)) ∧
  (∀ (it : Item) (p : Nat) (s : State), it.program = some p → Tab.wfWith .initial s.programs = true →
     Tab.wfWith .empty s.cache = true →
     let v := handOver it s
     (it.card ∈ s.tmc.quarantine → v = (.quarantined, s)) ∧
     (it.card ∉ s.tmc.quarantine →
       (∀ e, s.busyOf it.card = some e → 8 ≤ e.waiting.length → v = (.waitingFull, s)) ∧
       (s.busyOf it.card = none → 256 ≤ s.busy.length → v = (.listFull, s)) ∧
       ((∃ e, s.busyOf it.card = some e ∧ e.waiting.length < 8) ∨ (s.busyOf it.card = none ∧ s.busy.length < 256) →
         v.1 = .entered ∧
         v.2 = { s with busy := v.2.busy, programs := v.2.programs, cache := v.2.cache, tmc := v.2.tmc } ∧
         v.2.tmc = { s.tmc with reads := v.2.tmc.reads } ∧
         v.2.program p = { s.program p with inFlight := (s.program p).inFlight + 1 } ∧
         (∀ n, n ≠ p → v.2.program n = s.program n)) ∧
       (∀ e, s.busyOf it.card = some e → e.waiting.length < 8 →
         v.2.busy = (s.busy.map fun x => if x.card = it.card then { x with waiting := x.waiting ++ [it] } else x) ∧
         v.2.cache = s.cache ∧ v.2.tmc = s.tmc) ∧
       (s.busyOf it.card = none → s.busy.length < 256 →
         let entry : BusyEntry :=
           { card := it.card, state := .active, current := none, waiting := [it], writes := 0, way := none }
         (∀ w, hitWay s it.card = some w →
           v.2.busy = s.busy ++ [{ entry with way := some w }] ∧ v.2.tmc = s.tmc ∧
           v.2.wayAt it.card w = { s.wayAt it.card w with pinned := true }) ∧
         (∀ w, hitWay s it.card = none → chooseWay (s.cacheSet (Machine.setOf it.card)) = some w →
           v.2.busy = s.busy ++ [{ entry with state := .fetching, way := some w }] ∧
           v.2.tmc.reads = s.tmc.reads ++ [queuedRead s (.fetch it.card)] ∧
           v.2.cacheSet (Machine.setOf it.card) =
             { setWayOf (s.cacheSet (Machine.setOf it.card)) w { Way.empty with pinned := true } with
               pointer := (w + 1) % 4 }) ∧
         (hitWay s it.card = none → chooseWay (s.cacheSet (Machine.setOf it.card)) = none →
           v.2.busy = s.busy ++ [{ entry with state := .fetchWait }] ∧ v.2.cache = s.cache ∧ v.2.tmc = s.tmc))))

/-- A WITHDRAW at dispatch (R38, R39) that finds no target is answered TOO_LATE or NOT_FOUND from the recent references
of an entry in ACTIVE or PARKED, or handed over as an item otherwise. Where it finds targets, a parked one's park entry
becomes empty and its busy entry ACTIVE, and every other leaves the waiting list; each is answered WITHDRAWN and leaves
its program's in-flight count, the parked one first and the rest head first (log entry 42); the WITHDRAW is answered
APPROVED, and the entry is freed where nothing keeps it. -/
def Obligations.WithdrawAtDispatch : Prop :=
  (∀ (q₀ : TillRequest) (p card : Nat) (s : State),
     (s.busyOf card = none → dispatchWithdraw q₀ p card s = dispatchItem q₀ p card s) ∧
     (∀ e n, s.busyOf card = some e → q₀.original = some n →
       let target (it : Item) : Prop := ∃ x, it.body = .till x ∧ x.till = q₀.till ∧ x.seq = n
       (∀ it ∈ e.waiting, ¬target it) → (∀ it, e.current = some it → ¬target it) →
       (e.state = .fetchWait ∨ e.state = .fetching → dispatchWithdraw q₀ p card s = dispatchItem q₀ p card s) ∧
       (∀ w r, e.state = .active ∨ e.state = .parked → e.way = some w → (s.wayAt card w).valid = true →
         (s.wayAt card w).record = r →
         ((∃ x ∈ r.recents, x.till = q₀.till ∧ x.seq = n) →
           dispatchWithdraw q₀ p card s = .consumed (answerBare q₀ .tooLate s)) ∧
         ((∀ x ∈ r.recents, ¬(x.till = q₀.till ∧ x.seq = n)) →
           dispatchWithdraw q₀ p card s = .consumed (answerBare q₀ .notFound s))))) ∧
  (∀ (q₀ : TillRequest) (p card n : Nat) (s : State) (e : BusyEntry), s.busyOf card = some e → q₀.original = some n →
     let hit (it : Item) : Bool :=
       match it.body with
       | .till x => decide (x.till = q₀.till ∧ x.seq = n)
       | _ => false
     let parked : List Item := e.current.toList.filter hit
     let answer (o : TillOutcome) (x : TillRequest) (u : State) : State :=
       handStore x.origin
         (.answer
           { kindCode := tillKindCode x.kind, outcome := o, repeated := false, till := x.till, seq := x.seq,
             approved := none, balances := none, holdRef := none, journalSeq := none }) u
     let cleared : State :=
       { s with
         watch := if parked = [] then s.watch else { s.watch with park := s.watch.park.filter fun x => x.2.card != card }
         busy := s.busy.map fun x =>
           if x.card = card then
             { x with
               state := if parked = [] then x.state else .active
               current := if parked = [] then x.current else none
               waiting := x.waiting.filter fun it => !hit it }
           else x }
     parked ++ e.waiting.filter hit ≠ [] →
     dispatchWithdraw q₀ p card s =
       .consumed
         (freeIfDone card
           (answer .approved q₀
             ((parked ++ e.waiting.filter hit).foldl
               (fun u it => match it.body with
                 | .till x => countOut it.program (answer .withdrawn x u)
                 | _ => u)
               cleared))))

/-! ## The decision event at a card -/

/-- A request taken on a frozen card is answered CARD_UPDATING, one recorded under its till id, till sequence and kind
gets its recorded answer again, and one recorded under another kind is answered SEQUENCE_CLASH (R32 to R34). Where the
roll cannot be applied for lack of a journal entry (R35, R99), an INQUIRE that passes the watch check shows the balances
as the roll would leave them, and every other kind is answered JOURNAL_FULL. The record and the journal stand. The
expiry shown is kept where an open hold holds bonus, as R99 and R97 say; R65 words it as absent (log entry 41). -/
def Obligations.TakingsTurnedAway : Prop :=
  (∀ (s : State) (e : BusyEntry) (it : Item) (rest : List Item) (w : Nat) (r : CardRecord) (q₀ : TillRequest) (c : Instr),
     Taking s e it rest w r → it.body = .till q₀ →
     (q₀.kind, c) ∈
       [(.inquire, .inquire it.card), (.activate, .activate it.card), (.load, .load it.card), (.redeem, .redeem it.card),
        (.hold, .hold it.card), (.complete, .complete it.card), (.release, .release it.card),
        (.reverse, .reverse it.card), (.withdraw, .withdraw it.card)] →
     (r.frozen = true → exec c s = .next (declines it q₀ r r (s.taken it.card) .cardUpdating)) ∧
     (r.frozen = false → ∀ a b x, r.recents = a ++ x :: b → x.till = q₀.till → x.seq = q₀.seq →
       (∀ y ∈ a, ¬(y.till = q₀.till ∧ y.seq = q₀.seq)) →
       (x.kind ≠ q₀.kind → exec c s = .next (declines it q₀ r r (s.taken it.card) .sequenceClash)) ∧
       (x.kind = q₀.kind →
         exec c s =
           .next
             (finishItem it r r
               (handStore q₀.origin
                 (.answer
                   { kindCode := tillKindCode q₀.kind, outcome := if x.isPartial then .partly else .approved,
                     repeated := true, till := q₀.till, seq := q₀.seq, approved := some x.approved
                     balances :=
                       some
                         { state := r.state, paid := r.paid, bonus := r.bonus, held := r.held,
                           bonusExpiry := r.bonusExpiry }
                     holdRef := if q₀.kind = .hold then x.holdRef else none
                     journalSeq := none })
                 (s.taken it.card)))))) ∧
  (∀ (s : State) (e : BusyEntry) (it : Item) (rest : List Item) (w : Nat) (r : CardRecord) (q₀ : TillRequest) (c : Instr),
     Taking s e it rest w r → it.body = .till q₀ → r.frozen = false →
     (∀ x ∈ r.recents, ¬(x.till = q₀.till ∧ x.seq = q₀.seq)) → RollBlocked (s.taken it.card) r →
     ((q₀.kind, c) ∈
         [(.activate, .activate it.card), (.load, .load it.card), (.redeem, .redeem it.card), (.hold, .hold it.card),
          (.complete, .complete it.card), (.release, .release it.card), (.reverse, .reverse it.card),
          (.withdraw, .withdraw it.card)] →
       exec c s = .next (declines it q₀ r r (s.taken it.card) .journalFull)) ∧
     (∀ t, q₀.kind = .inquire → WatchPasses it .inquire (s.taken it.card) t →
       exec (.inquire it.card) s =
         .next
           (finishItem it r r
             (handStore q₀.origin
               (.answer
                 { kindCode := 0, outcome := .approved, repeated := false, till := q₀.till, seq := q₀.seq, approved := none
                   balances :=
                     some
                       { state := r.state, paid := r.paid, bonus := 0, held := r.held,
                         bonusExpiry :=
                           if holdsBonus s it.card then r.bonusExpiry else none }
                   holdRef := none, journalSeq := none })
               t))))

/-- INQUIRE and WITHDRAW at the card (R40, R65): an INQUIRE that comes to its decision is APPROVED in every card state,
with the balances alone; a WITHDRAW is TOO_LATE where the recent references hold its till id and original sequence, and
NOT_FOUND otherwise. Neither changes the record beyond the roll. -/
def Obligations.InquireAndWithdrawAtCard : Prop :=
  ∀ (s : State) (it : Item) (q₀ : TillRequest) (p : Nat) (r : CardRecord) (t : State) (q : CardRecord),
    AtDecision s it q₀ p r t q →
    (q₀.kind = .inquire → exec (.inquire it.card) s = .next (ends it q₀ r q t .approved none none none)) ∧
    (∀ n, q₀.kind = .withdraw → q₀.original = some n →
      ((∃ x ∈ q.recents, x.till = q₀.till ∧ x.seq = n) →
        exec (.withdraw it.card) s = .next (declines it q₀ r q t .tooLate)) ∧
      ((∀ x ∈ q.recents, ¬(x.till = q₀.till ∧ x.seq = n)) →
        exec (.withdraw it.card) s = .next (declines it q₀ r q t .notFound)))

/-- The checks that REDEEM and HOLD share (R17, R43, R44, R46 to R48, R50), in their order, and HOLD's own: the card's
state, the verify value, the day count, the card's holds, the free list and the journal's reserve; the first that fails
declines. -/
def Obligations.SpendingChecksInOrder : Prop :=
  ∀ (s : State) (it : Item) (q₀ : TillRequest) (p : Nat) (r : CardRecord) (t : State) (q : CardRecord) (c : Instr),
    AtDecision s it q₀ p r t q →
    (q₀.kind, c) ∈ [(.redeem, .redeem it.card), (.hold, .hold it.card)] →
    let k := (t.program p).settings
    (q.state = .inactive → exec c s = .next (declines it q₀ r q t .notActive)) ∧
    (q.state = .suspended → exec c s = .next (declines it q₀ r q t .suspended)) ∧
    (q.state = .closed → exec c s = .next (declines it q₀ r q t .closed)) ∧
    (q.state = .active →
      (∀ x, VerifyFails q₀ k q x false → exec c s = .next (declines it q₀ r x t .verify)) ∧
      (∀ x, VerifyFails q₀ k q x true →
        exec c s = .next (declines it q₀ r x (raiseNotice .cardSuspended false t) .verify)) ∧
      (∀ x, Verified q₀ k q x →
        (k.dayCountLimit ≤ x.dayCount → exec c s = .next (declines it q₀ r x t .velocity)) ∧
        (x.dayCount < k.dayCountLimit →
          (q₀.kind = .redeem → journalFree t ≤ 32768 → exec c s = .next (declines it q₀ r x t .journalFull)) ∧
          (q₀.kind = .hold →
            (k.holdsPerCard ≤ x.openHolds → exec c s = .next (declines it q₀ r x t .holdLimit)) ∧
            (x.openHolds < k.holdsPerCard →
              (t.freeList = [] → exec c s = .next (declines it q₀ r x t .capacity)) ∧
              (t.freeList ≠ [] → journalFree t ≤ 32768 →
                exec c s = .next (declines it q₀ r x t .journalFull)))))))

/-- A REDEEM past its checks (R48, R49, R51, R52, R53): the least of the amount asked, P + B and the day remaining is
approved, where it is the amount asked or the program allows a part of it; it is drawn from B first; it is counted for
the day, appended to the journal, recorded and answered. Otherwise the reason names the limit that binds. -/
def Obligations.RedeemSettles : Prop :=
  ∀ (s : State) (it : Item) (q₀ : TillRequest) (p : Nat) (r : CardRecord) (t : State) (q x : CardRecord) (a : Nat),
    AtDecision s it q₀ p r t q → q₀.kind = .redeem → q₀.amount = some a → 0 < a → q.state = .active →
    let k := (t.program p).settings
    Verified q₀ k q x → x.dayCount < k.dayCountLimit → 32768 < journalFree t →
    let left := k.dayAmountLimit - x.dayAmount
    let n := min a (min (x.paid + x.bonus) left)
    (n < a → n = 0 ∨ k.partialAllowed = false →
      exec (.redeem it.card) s =
        .next (declines it q₀ r x t (if x.paid + x.bonus ≤ left then .insufficient else .velocity))) ∧
    (n = a ∨ 0 < n ∧ k.partialAllowed = true →
      let fromBonus := min n x.bonus
      let after : CardRecord :=
        { x with
          paid := x.paid - (n - fromBonus)
          bonus := x.bonus - fromBonus
          bonusExpiry := expiryAfter (x.bonus - fromBonus) (holdsBonus t it.card) x.bonusExpiry
          dayCount := x.dayCount + 1
          dayAmount := min 10000000 (x.dayAmount + n)
          recents := joined x.recents (reference q₀ t.mgmt.day (decide (n < a)) n fromBonus (n - fromBonus)) }
      let entry :=
        { tillEntry .redeem it.card q₀ t after with
          paidDelta := -((n - fromBonus : Nat) : Int), bonusDelta := -(fromBonus : Int) }
      exec (.redeem it.card) s =
        .next
          (ends it q₀ r after (appendJournal entry t) (if n = a then .approved else .partly) (some n) none
            (some t.journal.next)))

/-- A HOLD past its checks (R51, R54, R55, R56, R72): the amount found as for a REDEEM moves from B first and from P
into H; the slot at the head of the free list is written with its reuse count one up, 255 going to 0, and joins the
expiry list; the program's open holds rise by 1; the hold is appended, recorded and answered with its reference. The
slot's program is the item's (R55), the model's choice where the record names another (R13; log entry 18). -/
def Obligations.HoldSettles : Prop :=
  ∀ (s : State) (it : Item) (q₀ : TillRequest) (p : Nat) (r : CardRecord) (t : State) (q x : CardRecord) (a m : Nat)
    (free : List Nat),
    AtDecision s it q₀ p r t q → q₀.kind = .hold → q₀.amount = some a → 0 < a → q.state = .active →
    let k := (t.program p).settings
    Verified q₀ k q x → x.dayCount < k.dayCountLimit → x.openHolds < k.holdsPerCard → t.freeList = m :: free →
    32768 < journalFree t →
    let left := k.dayAmountLimit - x.dayAmount
    let n := min a (min (x.paid + x.bonus) left)
    (n < a → n = 0 ∨ k.partialAllowed = false →
      exec (.hold it.card) s =
        .next (declines it q₀ r x t (if x.paid + x.bonus ≤ left then .insufficient else .velocity))) ∧
    (n = a ∨ 0 < n ∧ k.partialAllowed = true →
      let fromBonus := min n x.bonus
      let slot : HoldSlot :=
        { state := .openHold, reuse := ((t.slot m).reuse + 1) % 256, card := it.card, program := p, till := q₀.till,
          seq := q₀.seq, amount := n, bonusPart := fromBonus, paidPart := n - fromBonus, openDay := t.mgmt.day,
          openMinute := t.time.minutes, expiryMinute := t.time.minutes + k.holdLifetime, issued := false,
          lastClose := none }
      let ref : HoldRef := { slot := m, reuse := slot.reuse }
      let u := allocateHold p m slot t
      let after : CardRecord :=
        { x with
          paid := x.paid - (n - fromBonus)
          bonus := x.bonus - fromBonus
          bonusExpiry := expiryAfter (x.bonus - fromBonus) (holdsBonus u it.card) x.bonusExpiry
          held := x.held + n
          openHolds := x.openHolds + 1
          dayCount := x.dayCount + 1
          dayAmount := min 10000000 (x.dayAmount + n)
          recents :=
            joined x.recents
              { reference q₀ t.mgmt.day (decide (n < a)) n fromBonus (n - fromBonus) with holdRef := some ref } }
      let entry :=
        { tillEntry .hold it.card q₀ t after with
          paidDelta := -((n - fromBonus : Nat) : Int), bonusDelta := -(fromBonus : Int), heldDelta := n,
          holdRef := some ref }
      exec (.hold it.card) s =
        .next
          (ends it q₀ r after (appendJournal entry u) (if n = a then .approved else .partly) (some n) (some ref)
            (some t.journal.next)))

/-- A card holds bonus in its open holds exactly where some hold slot of it that is not FREE has HB above 0 (R14). The
slot an approved HOLD takes (R10, R55, R73, R74) leaves the head of the free list, joins the expiry list behind every
slot whose expiry minute is no later and before every later one, and the program's open holds rise by 1. The closing of
a hold (R60 to R62): H falls by A and the open hold count by 1, the paid return joins P, the bonus return joins B up to
the ceiling while its expiry is not passed and the rest is forfeited, the program's open holds fall by 1, and the slot
is FREE with its close reason, off the expiry list and at the tail of the free list. -/
def Obligations.HoldSlotsAreTakenAndClosed : Prop :=
  (∀ (s : State) (card : Nat), Tab.wfWith .initial s.slots = true →
     (holdsBonus s card = true ↔
       ∃ n, (s.slot n).card = card ∧ (s.slot n).state ≠ .free ∧ 0 < (s.slot n).bonusPart)) ∧
  (∀ (p m : Nat) (slot : HoldSlot) (free : List Nat) (t : State), t.freeList = m :: free → m ∉ t.expiryList →
     Tab.wfWith .initial t.slots = true → Tab.wfWith .initial t.programs = true →
     t.expiryList.Pairwise (fun a b => (t.slot a).expiryMinute ≤ (t.slot b).expiryMinute) →
     let u := allocateHold p m slot t
     u = { t with slots := u.slots, freeList := free, expiryList := u.expiryList, programs := u.programs } ∧
     u.slot m = slot ∧ (∀ n, n ≠ m → u.slot n = t.slot n) ∧
     u.program p = { t.program p with openHolds := (t.program p).openHolds + 1 } ∧
     (∀ n, n ≠ p → u.program n = t.program n) ∧
     ∃ before later, t.expiryList = before ++ later ∧ u.expiryList = before ++ m :: later ∧
       (∀ n ∈ before, (t.slot n).expiryMinute ≤ slot.expiryMinute) ∧
       (∀ n ∈ later, slot.expiryMinute < (t.slot n).expiryMinute)) ∧
  (∀ (card n : Nat) (reason : CloseReason) (paidReturn bonusReturn ceiling : Nat) (t : State) (x : CardRecord),
     Tab.wfWith .initial t.slots = true → Tab.wfWith .initial t.programs = true →
     let h := t.slot n
     let v := closeHold card n reason paidReturn bonusReturn ceiling t x
     let live : Prop := ∀ d, x.bonusExpiry = some d → t.mgmt.day ≤ d
     let kept := if bonusReturn = 0 then 0 else min bonusReturn (ceiling - x.bonus)
     (live ∨ bonusReturn = 0 → v.kept = kept ∧ v.forfeited = bonusReturn - kept) ∧
     (¬live → v.kept = 0 ∧ v.forfeited = bonusReturn) ∧
     v.record =
       { x with
         paid := x.paid + paidReturn
         bonus := x.bonus + v.kept
         bonusExpiry :=
           expiryAfter (x.bonus + v.kept) (holdsBonus v.st card)
             (if bonusReturn = 0 then x.bonusExpiry else x.bonusExpiry.or (some t.mgmt.day))
         held := x.held - h.amount
         openHolds := x.openHolds - 1 } ∧
     v.st =
       { t with
         slots := v.st.slots, programs := v.st.programs, freeList := t.freeList ++ [n],
         expiryList := t.expiryList.filter fun m => m != n } ∧
     v.st.slot n = { h with state := .free, issued := false, lastClose := some reason } ∧
     (∀ m, m ≠ n → v.st.slot m = t.slot m) ∧
     v.st.program h.program = { t.program h.program with openHolds := (t.program h.program).openHolds - 1 } ∧
     ∀ m, m ≠ h.program → v.st.program m = t.program m)

/-- The checks that COMPLETE and RELEASE share, and COMPLETE's own (R17, R45, R50, R57, R58), in their order: the card's
state, the hold its reference names, the tolerance of a COMPLETE and one free journal entry; the first that fails
declines. -/
def Obligations.SettlingChecksInOrder : Prop :=
  ∀ (s : State) (it : Item) (q₀ : TillRequest) (p : Nat) (r : CardRecord) (t : State) (q : CardRecord) (ref : HoldRef)
    (c : Instr),
    AtDecision s it q₀ p r t q → q₀.holdRef = some ref →
    (q₀.kind, c) ∈ [(.complete, .complete it.card), (.release, .release it.card)] →
    let h := t.slot ref.slot
    let named : Prop := ref.slot < 16384 ∧ h.reuse = ref.reuse ∧ h.card = it.card
    (q.state = .inactive → exec c s = .next (declines it q₀ r q t .notActive)) ∧
    (q.state = .closed → exec c s = .next (declines it q₀ r q t .closed)) ∧
    (q.state = .active ∨ q.state = .suspended →
      (named → h.state = .free → h.lastClose = some .lapse → exec c s = .next (declines it q₀ r q t .lapsed)) ∧
      (¬named ∨ h.state = .free ∧ h.lastClose ≠ some .lapse → exec c s = .next (declines it q₀ r q t .noHold)) ∧
      (named → h.state ≠ .free →
        (∀ f, q₀.kind = .complete → q₀.amount = some f →
          h.amount * (10000 + (t.program p).settings.tipTolerance) / 10000 < f →
          exec c s = .next (declines it q₀ r q t .overTolerance)) ∧
        (q₀.kind = .release ∨
            (∃ f, q₀.amount = some f ∧ f ≤ h.amount * (10000 + (t.program p).settings.tipTolerance) / 10000) →
          journalFree t = 0 → exec c s = .next (declines it q₀ r q t .journalFull))))

/-- A COMPLETE of F and a RELEASE past their checks (R59 to R64): a COMPLETE draws on the hold bonus first, draws what
of the overage the card covers, returns what is left of the hold, and is APPROVED for F or PARTIAL for less; a RELEASE
returns the whole hold. Each closes the hold, and is appended, recorded and answered. -/
def Obligations.CompleteAndReleaseSettle : Prop :=
  ∀ (s : State) (it : Item) (q₀ : TillRequest) (p : Nat) (r : CardRecord) (t : State) (q : CardRecord) (ref : HoldRef),
    AtDecision s it q₀ p r t q → q₀.holdRef = some ref → q.state = .active ∨ q.state = .suspended →
    ref.slot < 16384 → (t.slot ref.slot).reuse = ref.reuse → (t.slot ref.slot).card = it.card →
    (t.slot ref.slot).state ≠ .free → 0 < journalFree t →
    let h := t.slot ref.slot
    let k := (t.program p).settings
    (∀ f, q₀.kind = .complete → q₀.amount = some f → f ≤ h.amount * (10000 + k.tipTolerance) / 10000 →
      let bonusUsed := min f h.bonusPart
      let paidUsed := min (f - bonusUsed) h.paidPart
      let covered := min (f - h.amount) (q.paid + q.bonus)
      let overBonus := min covered q.bonus
      let overPaid := covered - overBonus
      let approved := min f h.amount + covered
      let v :=
        closeHold it.card ref.slot .complete (h.paidPart - paidUsed) (h.bonusPart - bonusUsed) k.bonusCeiling t
          { q with paid := q.paid - overPaid, bonus := q.bonus - overBonus }
      let after : CardRecord :=
        { v.record with
          dayAmount := min 10000000 (q.dayAmount + covered)
          recents :=
            joined q.recents
              { reference q₀ t.mgmt.day (decide (approved < f)) approved (bonusUsed + overBonus) (paidUsed + overPaid) with
                holdRef := some ref } }
      let entry :=
        { tillEntry .complete it.card q₀ t after with
          paidDelta := ((h.paidPart - paidUsed : Nat) : Int) - overPaid, bonusDelta := (v.kept : Int) - overBonus,
          heldDelta := -(h.amount : Int), forfeited := v.forfeited, holdRef := some ref }
      exec (.complete it.card) s =
        .next
          (ends it q₀ r after (appendJournal entry v.st) (if approved = f then .approved else .partly) (some approved) none
            (some t.journal.next))) ∧
    (q₀.kind = .release →
      let v := closeHold it.card ref.slot .release h.paidPart h.bonusPart k.bonusCeiling t q
      let after : CardRecord :=
        { v.record with recents := joined q.recents (reference q₀ t.mgmt.day false h.amount 0 0) }
      let entry :=
        { tillEntry .release it.card q₀ t after with
          paidDelta := h.paidPart, bonusDelta := v.kept, heldDelta := -(h.amount : Int), forfeited := v.forfeited,
          holdRef := some ref }
      exec (.release it.card) s =
        .next
          (ends it q₀ r after (appendJournal entry v.st) .approved (some h.amount) none (some t.journal.next)))

/-- The promotion of a load (R90): among the entries that are ENABLED, name the program, run on the day and have their
trigger reached, the one with the greatest bonus above 0, the lowest number among equals; a bonus is the amount times
the rate over 10,000, rounded down, up to the cap. -/
def Obligations.PromotionSelected : Prop :=
  ∀ (p day amount : Nat) (s : State), Tab.wfWith .initial s.promotions = true →
    let bonus (e : Promotion) : Nat := min (amount * e.rate / 10000) e.cap
    let candidate (e : Promotion) : Prop :=
      e.enabled = true ∧ e.mask.getLsbD p = true ∧ e.startDay ≤ day ∧ day ≤ e.endDay ∧ e.trigger ≤ amount
    (selectPromotion p day amount s.promotions = none ↔ ∀ n, candidate (s.promotion n) → bonus (s.promotion n) = 0) ∧
    ∀ n e, selectPromotion p day amount s.promotions = some (n, e) ↔
      s.promotion n = e ∧ candidate e ∧ 0 < bonus e ∧
        ∀ m, candidate (s.promotion m) →
          bonus (s.promotion m) ≤ bonus e ∧ (bonus (s.promotion m) = bonus e → n ≤ m)

/-- ACTIVATE and LOAD (R17, R85, R86, R87, R91 to R94): the checks of state, minimum, maximum and the journal's reserve
in their order; then P rises by the amount and B by the selected bonus up to the room below the ceiling, the expiry
moves no earlier, an ACTIVATE makes the card ACTIVE, and the load is appended, recorded and answered. The entry's program
is the item's (R94), the model's choice where the record names another (R13, R140; log entry 18). -/
def Obligations.LoadsDecideAndSettle : Prop :=
  ∀ (s : State) (it : Item) (q₀ : TillRequest) (p : Nat) (r : CardRecord) (t : State) (q : CardRecord) (a : Nat) (c : Instr)
    (kind : JournalKind),
    AtDecision s it q₀ p r t q → q₀.amount = some a →
    (q₀.kind, c, kind) ∈
      ([(.activate, .activate it.card, .activate), (.load, .load it.card, .load)] : List (TillKind × Instr × JournalKind)) →
    let k := (t.program p).settings
    (q.state = .suspended → exec c s = .next (declines it q₀ r q t .suspended)) ∧
    (q.state = .closed → exec c s = .next (declines it q₀ r q t .closed)) ∧
    (q.state = .active → q₀.kind = .activate → exec c s = .next (declines it q₀ r q t .alreadyActive)) ∧
    (q.state = .inactive → q₀.kind = .load → exec c s = .next (declines it q₀ r q t .notActive)) ∧
    (q.state = (if q₀.kind = .activate then .inactive else .active) →
      (a < k.minLoad → exec c s = .next (declines it q₀ r q t .belowMinimum)) ∧
      (k.minLoad ≤ a → k.maxBalance < q.paid + a → exec c s = .next (declines it q₀ r q t .overMaximum)) ∧
      (k.minLoad ≤ a → q.paid + a ≤ k.maxBalance → journalFree t ≤ 32768 →
        exec c s = .next (declines it q₀ r q t .journalFull)) ∧
      (k.minLoad ≤ a → q.paid + a ≤ k.maxBalance → 32768 < journalFree t →
        ∀ (granted : Nat) (promotion : Option Nat) (expiry : Option Nat),
          (granted = 0 ∧ promotion = none ∧ expiry = q.bonusExpiry ∧
              (selectPromotion p t.mgmt.day a t.promotions = none ∨ k.bonusCeiling ≤ q.bonus)) ∨
            (∃ n e, selectPromotion p t.mgmt.day a t.promotions = some (n, e) ∧
              granted = min (min (a * e.rate / 10000) e.cap) (k.bonusCeiling - q.bonus) ∧ 0 < granted ∧
              promotion = some n ∧
              expiry = some (max (q.bonusExpiry.getD 0) (min 65535 (t.mgmt.day + e.lifetime)))) →
          let after : CardRecord :=
            { q with
              paid := q.paid + a
              bonus := q.bonus + granted
              bonusExpiry := expiry
              state := .active
              recents :=
                joined q.recents
                  { reference q₀ t.mgmt.day false a granted a with promotion := promotion, bonusGranted := granted } }
          let entry :=
            { tillEntry kind it.card q₀ t after with
              program := p, paidDelta := a, bonusDelta := granted, promotion := promotion }
          exec c s =
            .next (ends it q₀ r after (appendJournal entry t) .approved (some a) none (some t.journal.next))))

/-- REVERSE (R17, R101, R102, R105, R106): the gate of the card's state; the original, which must be of the till, of a
reversible kind, not reversed and of the day; the hold of a HOLD still open; the value of a load still on the card; one
free journal entry. The first check that fails declines. -/
def Obligations.ReverseChecksInOrder : Prop :=
  ∀ (s : State) (it : Item) (q₀ : TillRequest) (p : Nat) (r : CardRecord) (t : State) (q : CardRecord) (n : Nat),
    AtDecision s it q₀ p r t q → q₀.kind = .reverse → q₀.original = some n →
    q.recents.Pairwise (fun a b => ¬(a.till = b.till ∧ a.seq = b.seq)) →
    let declined (o : TillOutcome) : Prop := exec (.reverse it.card) s = .next (declines it q₀ r q t o)
    let named (x : RecentRef) : Prop := x.till = q₀.till ∧ x.seq = n
    let reversible (x : RecentRef) : Prop :=
      x.kind ∈ [.activate, .load, .redeem, .hold, .complete] ∧ x.reversed = false ∧ x.day = t.mgmt.day
    let stands (x : RecentRef) : Prop :=
      ∃ ref, x.holdRef = some ref ∧ ref.slot < 16384 ∧ (t.slot ref.slot).reuse = ref.reuse ∧
        (t.slot ref.slot).card = it.card ∧ (t.slot ref.slot).state ≠ .free
    (q.state = .inactive → declined .notActive) ∧ (q.state = .closed → declined .closed) ∧
    (q.state = .active ∨ q.state = .suspended →
      ((∀ x ∈ q.recents, named x → ¬reversible x) → declined .noOriginal) ∧
      (∀ x ∈ q.recents, named x → reversible x →
        (x.kind = .hold → x.holdRef ≠ none → ¬stands x → declined .noOriginal) ∧
        (x.kind = .load ∨ x.kind = .activate → q.paid < x.approved ∨ q.bonus < x.bonusGranted → declined .insufficient) ∧
        (x.kind = .redeem ∨ x.kind = .complete ∨ x.kind = .hold ∧ stands x ∨
            (x.kind = .load ∨ x.kind = .activate) ∧ x.approved ≤ q.paid ∧ x.bonusGranted ≤ q.bonus →
          journalFree t = 0 → declined .journalFull)))

/-- A REVERSE past its checks (R103 to R107): what the original moved goes back: the parts of a REDEEM or COMPLETE
return to P and, settled against the expiry, to B; a HOLD is closed as a RELEASE closes it; a load's value and bonus
leave the card. The original is marked, and the reversal is recorded, appended and answered. That the bonus part it
records is, for a return, the bonus kept and not the whole part returned (R107) is the model's choice (log entry 24). -/
def Obligations.ReverseSettles : Prop :=
  ∀ (s : State) (it : Item) (q₀ : TillRequest) (p : Nat) (r : CardRecord) (t : State) (q : CardRecord) (n : Nat)
    (x : RecentRef),
    AtDecision s it q₀ p r t q → q₀.kind = .reverse → q₀.original = some n →
    q.recents.Pairwise (fun a b => ¬(a.till = b.till ∧ a.seq = b.seq)) →
    q.state = .active ∨ q.state = .suspended → x ∈ q.recents → x.till = q₀.till → x.seq = n → x.reversed = false →
    x.day = t.mgmt.day → 0 < journalFree t →
    let k := (t.program p).settings
    let settled (u : State) (moved : CardRecord) (paidPart bonusPart : Nat) (paidDelta bonusDelta heldDelta : Int)
        (forfeited : Nat) (holdRef : Option HoldRef) (promotion : Option Nat) : Prop :=
      let after : CardRecord :=
        { moved with
          recents :=
            joined (q.recents.map fun y => if y = x then { y with reversed := true } else y)
              (reference q₀ t.mgmt.day false x.approved bonusPart paidPart) }
      let entry :=
        { tillEntry .reverse it.card q₀ t after with
          paidDelta := paidDelta, bonusDelta := bonusDelta, heldDelta := heldDelta, forfeited := forfeited,
          holdRef := holdRef, promotion := promotion }
      exec (.reverse it.card) s =
        .next (ends it q₀ r after (appendJournal entry u) .approved (some x.approved) none (some t.journal.next))
    (x.kind = .redeem ∨ x.kind = .complete →
      let kept := if ∀ d, q.bonusExpiry = some d → t.mgmt.day ≤ d then min x.bonusPart (k.bonusCeiling - q.bonus) else 0
      settled t
        { q with
          paid := q.paid + x.paidPart
          bonus := q.bonus + kept
          bonusExpiry :=
            expiryAfter (q.bonus + kept) (holdsBonus t it.card)
              (if x.bonusPart = 0 then q.bonusExpiry else q.bonusExpiry.or (some t.mgmt.day))
          dayAmount := if x.kind = .redeem then q.dayAmount - x.approved else q.dayAmount }
        x.paidPart kept x.paidPart kept 0 (x.bonusPart - kept) (if x.kind = .redeem then none else x.holdRef) none) ∧
    (∀ ref, x.kind = .hold → x.holdRef = some ref → ref.slot < 16384 → (t.slot ref.slot).reuse = ref.reuse →
      (t.slot ref.slot).card = it.card → (t.slot ref.slot).state ≠ .free →
      let h := t.slot ref.slot
      let v := closeHold it.card ref.slot .release h.paidPart h.bonusPart k.bonusCeiling t q
      settled v.st v.record h.paidPart v.kept h.paidPart v.kept (-(h.amount : Int)) v.forfeited (some ref) none) ∧
    (x.kind = .load ∨ x.kind = .activate → x.approved ≤ q.paid → x.bonusGranted ≤ q.bonus →
      settled t
        { q with
          paid := q.paid - x.approved
          bonus := q.bonus - x.bonusGranted
          bonusExpiry := expiryAfter (q.bonus - x.bonusGranted) (holdsBonus t it.card) q.bonusExpiry
          state :=
            if x.kind = .activate ∧ q.state = .active ∧ q.paid = x.approved ∧ q.bonus = x.bonusGranted ∧ q.held = 0 then
              .inactive
            else q.state }
        x.approved x.bonusGranted (-(x.approved : Int)) (-(x.bonusGranted : Int)) 0 0 none x.promotion)

/-- LAPSE and DROP_ITEM (R35, R77 to R79, R81): a hold found LAPSE_DUE is closed with final amount 0 and a LAPSE entry,
the drop item's command answered DONE; without a free entry it is deferred, its issued flag no; a hold not found is
left. That an equal reuse count on a slot that is OPEN, or LAPSE_DUE for another card, is a hold not found is the model's
choice (log entry 48), and so is the order of a drop's answer data (log entry 12). The entry's program is the slot's
(R78), the model's choice where the record names another (R13, R140; log entry 18). Also the model's choices: a notice of
the append or of the roll goes before the drop's answer on C (log entry 22), and a roll whose EXPIRE entry took the last
free journal entry stands where the item is then deferred (log entry 54). -/
def Obligations.LapseAndDropTaken : Prop :=
  ∀ (s : State) (it : Item) (ref : HoldRef) (drop : Option Nat) (r : CardRecord) (t : State) (q : CardRecord),
    it.body = .lapse ref drop →
    let c : Instr := if drop = none then .lapse it.card else .dropItem it.card
    let told (result : MgmtResult) (u : State) : State := (drop.map fun tag => replyStarted 0x1C tag result u).getD u
    let h := t.slot ref.slot
    (PastRoll s it r t q →
      (h.reuse = ref.reuse → h.state = .lapseDue → h.card = it.card → 0 < journalFree t →
        let v :=
          closeHold it.card ref.slot (if drop = none then .lapse else .drop) h.paidPart h.bonusPart
            (t.program h.program).settings.bonusCeiling t q
        let entry : JournalEntry :=
          { seq := 0, kind := .lapse, day := t.mgmt.day, minute := t.time.minutes, card := it.card, program := h.program,
            till := none, paidDelta := h.paidPart, bonusDelta := v.kept, heldDelta := -(h.amount : Int),
            forfeited := v.forfeited, paid := v.record.paid, bonus := v.record.bonus, held := v.record.held,
            holdRef := some ref, promotion := none, restore := false }
        exec c s =
          .next
            (finishItem it r v.record
              (told
                (.done
                  (leBytes 3 (ref.slot * 256 + ref.reuse) ++ leBytes 3 h.amount ++ leBytes 4 t.journal.next))
                (appendJournal entry v.st)))) ∧
      (h.reuse = ref.reuse → h.state = .lapseDue → h.card = it.card → journalFree t = 0 →
        exec c s =
          .next
            (finishItem it r q
              (told (.refused .journalFull) (t.setSlot ref.slot { h with issued := false })))) ∧
      (h.reuse ≠ ref.reuse ∨ h.state ≠ .lapseDue ∨ h.card ≠ it.card →
        exec c s = .next (finishItem it r q (told (.refused .noHold) t)))) ∧
    ((∃ e rest w, Taking s e it rest w r) → RollBlocked (s.taken it.card) r → t = s.taken it.card →
      (h.reuse = ref.reuse → h.state = .lapseDue → h.card = it.card →
        exec c s =
          .next
            (finishItem it r r
              (told (.refused .journalFull) (t.setSlot ref.slot { h with issued := false })))) ∧
      (h.reuse ≠ ref.reuse ∨ h.state ≠ .lapseDue ∨ h.card ≠ it.card →
        exec c s = .next (finishItem it r r (told (.refused .journalFull) t))))

/-- The management items at their card (R35, R108 to R111, R170): the record is rolled where the roll can be applied.
CARD READ is answered DONE with the record; a freeze and a thaw set the frozen flag; a CARD WRITE meets its checks in
their order, STATE for a card that is not frozen, RANGE for a field out of its limits, STATE for a change of state that
R16 does not allow, JOURNAL_FULL for a change of value without a free entry, and one that passes writes its fields, with
an ADJUST entry for a change of value, and is answered with the record as written. The model's choices: that record and
an optional sequence are all of a CARD WRITE's DONE data, and a CARD READ's begins with the card index and the way of
the read (log entry 12); a yes is 0 and a no is 1 (log entry 9); a journal notice of the append or of the roll goes
before the answer on C (log entry 22). -/
def Obligations.ManagementItemsTaken : Prop :=
  let standing (r : CardRecord) : List Byte :=
    leBytes 1 (cardStateCode r.state) ++ leBytes 4 r.paid ++ leBytes 3 r.bonus
      ++ (match r.bonusExpiry with | none => [0#8] | some d => 1#8 :: leBytes 2 d) ++ leBytes 4 r.held
      ++ leBytes 1 r.openHolds ++ [if r.frozen then 0#8 else 1#8]
  (∀ (s : State) (it : Item) (r : CardRecord) (t : State) (q : CardRecord) (tag : Nat),
     PastRoll s it r t q ∨
       (∃ e rest w, Taking s e it rest w r) ∧ RollBlocked (s.taken it.card) r ∧ t = s.taken it.card ∧ q = r →
     (it.body = .cardRead tag →
       exec (.cardReadAtCard it.card) s =
         .next
           (finishItem it r q
             (replyStarted 0x02 tag (.done (leBytes 3 it.card ++ [0#8] ++ encodeCardRecord q)) t))) ∧
     (it.body = .cardFreeze tag →
       exec (.cardFreezeAtCard it.card) s =
         .next
           (finishItem it r { q with frozen := true }
             (replyStarted 0x12 tag (.done (standing { q with frozen := true })) t))) ∧
     (it.body = .cardThaw tag →
       exec (.cardThawAtCard it.card) s =
         .next
           (finishItem it r { q with frozen := false }
             (replyStarted 0x13 tag (.done (standing { q with frozen := false })) t)))) ∧
  (∀ (s : State) (it : Item) (p : Nat) (r : CardRecord) (t : State) (q : CardRecord) (tag : Nat) (f : CardWriteFields),
     PastRoll s it r t q ∨
       (∃ e rest w, Taking s e it rest w r) ∧ RollBlocked (s.taken it.card) r ∧ t = s.taken it.card ∧ q = r →
     it.program = some p → it.body = .cardWrite tag f →
     let k := (t.program p).settings
     let held := holdsBonus t it.card
     let inLimits : Prop :=
       (f.paid ≤ k.maxBalance ∨ f.paid = q.paid) ∧ f.bonus ≤ k.bonusCeiling ∧ f.verifyFailures ≤ 3 ∧
       (∀ v, f.verify = some v → ∀ b ∈ v, 48 ≤ b.toNat ∧ b.toNat ≤ 57) ∧
       (0 < f.bonus → ∃ d, f.bonusExpiry = some d ∧ t.mgmt.day ≤ d) ∧
       (f.bonus = 0 → held = true → f.bonusExpiry ≠ none)
     let allowed : Prop :=
       (q.state, f.state) ∈
         ([(.inactive, .inactive), (.inactive, .closed), (.active, .active), (.active, .suspended), (.active, .closed),
           (.suspended, .suspended), (.suspended, .active), (.suspended, .closed), (.closed, .closed)] :
           List (CardState × CardState)) ∨
       q.state = .closed ∧ f.state = .active ∧ q.held = 0
     let moves : Prop := f.paid ≠ q.paid ∨ f.bonus ≠ q.bonus
     let refused (reason : Reason) : Prop :=
       exec (.cardWriteAtCard it.card) s = .next (finishItem it r q (replyStarted 0x25 tag (.refused reason) t))
     (q.frozen = false → refused .state) ∧
     (q.frozen = true → ¬inLimits → refused .range) ∧
     (q.frozen = true → inLimits → ¬allowed → refused .state) ∧
     (q.frozen = true → inLimits → allowed → moves → journalFree t = 0 → refused .journalFull) ∧
     (q.frozen = true → inLimits → allowed →
       let after : CardRecord :=
         { q with
           state := f.state, paid := f.paid, bonus := f.bonus, verifyFailures := f.verifyFailures
           verify := f.verify.bind verifyValueOf
           bonusExpiry := if 0 < f.bonus ∨ held = true then f.bonusExpiry else none }
       (¬moves →
         exec (.cardWriteAtCard it.card) s =
           .next
             (finishItem it r after
               (replyStarted 0x25 tag (.done (encodeCardRecord after ++ [0#8])) t))) ∧
       (moves → 0 < journalFree t →
         let entry : JournalEntry :=
           { seq := 0, kind := .adjust, day := t.mgmt.day, minute := t.time.minutes, card := it.card, program := q.program,
             till := none, paidDelta := (f.paid : Int) - q.paid, bonusDelta := (f.bonus : Int) - q.bonus, heldDelta := 0,
             forfeited := 0, paid := f.paid, bonus := f.bonus, held := q.held, holdRef := none, promotion := none,
             restore := false }
         exec (.cardWriteAtCard it.card) s =
           .next
             (finishItem it r after
               (replyStarted 0x25 tag
                 (.done (encodeCardRecord after ++ [1#8] ++ leBytes 4 t.journal.next)) (appendJournal entry t))))))

/-- The watch check (R36, R115, R118 to R121): a slot matches an item when an enable is on, the card lies in its range
and the kind in its groups; of the matching slots those with action PARK park, and each matching slot's status shows the
hit. Where one parks, the item takes the lowest empty park entry, with its expiry second, its busy entry becomes PARKED
with it, and nothing is answered; with all 16 occupied it is answered REFERRED and leaves. So does an INQUIRE whose roll
is blocked (R35), and that its REFERRED answer shows the record as it stands is the model's choice (log entry 55). The
order of the answer and the notices is the model's choice too (log entry 22). -/
def Obligations.WatchCheckMatchesAndParks : Prop :=
  (∀ (w : WatchUnit) (card n : Nat) (k : TillKind), n < 4 →
     let slot := [w.slot0, w.slot1, w.slot2, w.slot3].getD n w.slot0
     let status (u : WatchUnit) := [u.status0, u.status1, u.status2, u.status3].getD n u.status0
     let matched : Prop :=
       (slot.localEnable = true ∨ slot.globalEnable = true) ∧ slot.base ≤ card ∧ card < slot.base + slot.span ∧
       ((slot.kinds.outgoing = true ∧ k ∈ [.redeem, .hold, .complete]) ∨
         (slot.kinds.incoming = true ∧ k ∈ [.activate, .load, .reverse]) ∨ (slot.kinds.look = true ∧ k = .inquire))
     ((matchMask w card k).getLsbD n = true ↔ matched) ∧
     ((parkMask w card k).getLsbD n = true ↔ matched ∧ slot.action = .park) ∧
     (¬matched → status (recordHits (matchMask w card k) card w) = status w) ∧
     (matched →
       status (recordHits (matchMask w card k) card w) =
         { hit := true, last := some card, count := min 65535 ((status w).count + 1) })) ∧
  (∀ (s : State) (e : BusyEntry) (it : Item) (rest : List Item) (w : Nat) (r : CardRecord) (q₀ : TillRequest) (u : State)
     (q : CardRecord) (c : Instr),
     Taking s e it rest w r → it.body = .till q₀ → it.skip = false → r.frozen = false →
     (∀ x ∈ r.recents, ¬(x.till = q₀.till ∧ x.seq = q₀.seq)) →
     RollsTo it.card (s.taken it.card) r u q ∨
       q₀.kind = .inquire ∧ RollBlocked (s.taken it.card) r ∧ u = s.taken it.card ∧ q = r →
     (q₀.kind, c) ∈
       [(.inquire, .inquire it.card), (.activate, .activate it.card), (.load, .load it.card), (.redeem, .redeem it.card),
        (.hold, .hold it.card), (.complete, .complete it.card), (.reverse, .reverse it.card)] →
     parkMask u.watch it.card q₀.kind ≠ 0#4 →
     let hit :=
       raiseNotice .watchHit false
         { u with watch := recordHits (matchMask u.watch it.card q₀.kind) it.card u.watch }
     (∀ id, id < 16 → Tab.find u.watch.park id = none → (∀ j, j < id → Tab.find u.watch.park j ≠ none) →
       exec c s =
         .next
           (raiseNotice .watchParked false
             (updateBusy it.card (fun x => { x with state := .parked, current := some it })
               (settleRecord it.card r q
                 { hit with
                   watch :=
                     { hit.watch with
                       park :=
                         Tab.insert u.watch.park id
                           { item := it, card := it.card, matched := matchMask u.watch it.card q₀.kind,
                             parking := parkMask u.watch it.card q₀.kind,
                             expirySecond := u.time.seconds + u.watch.timeout } } })))) ∧
     ((∀ j, j < 16 → Tab.find u.watch.park j ≠ none) →
       exec c s =
         .next
           (finishItem it r q
             (raiseNotice .watchParked true
               (handStore q₀.origin
                 (.answer
                   { kindCode := tillKindCode q₀.kind, outcome := .referred, repeated := false, till := q₀.till,
                     seq := q₀.seq, approved := none
                     balances :=
                       some
                         { state := q.state, paid := q.paid, bonus := q.bonus, held := q.held,
                           bonusExpiry := q.bonusExpiry }
                     holdRef := none, journalSeq := none })
                 hit)))))

/-- The end of a decision event (R8, R11, R29, R31, R131): a changed record stands in the cached way, one write of the
whole record is queued, and the entry's outstanding writes rise by 1, a rise past 65,535 giving a free value (R25, log
entry 19); the item's program has one item less in flight, and leaves DRAINING for its target at none; an entry with an
item, a current item or an outstanding write stays, and one with none of them is freed. -/
def Obligations.DecisionEventEnds : Prop :=
  (∀ (card : Nat) (before after : CardRecord) (s : State) (e : BusyEntry) (w : Nat),
     s.busyOf card = some e → e.way = some w → w < 4 → (s.wayAt card w).valid = true →
     Tab.wfWith .empty s.cache = true →
     let t := settleRecord card before after s
     (after = before → t = s) ∧
     (after ≠ before →
       t = { s with
             busy := s.busy.map fun x =>
               if x.card = card then
                 { x with
                   writes :=
                     if x.writes < 65535 then x.writes + 1
                     else (Config.writesBeyond s.powerOns s.tmc.nextWrite).toNat }
               else x
             cache := t.cache
             tmc :=
               { s.tmc with
                 writes := s.tmc.writes ++ [{ id := s.tmc.nextWrite, body := .card card after .serialiser }]
                 nextWrite := s.tmc.nextWrite + 1 } } ∧
       t.wayAt card w = { s.wayAt card w with record := after } ∧
       ∀ d v, v < 4 → (Machine.setOf d ≠ Machine.setOf card ∨ v ≠ w) → t.wayAt d v = s.wayAt d v)) ∧
  (∀ (it : Item) (p : Nat) (before after : CardRecord) (s : State) (e : BusyEntry), it.program = some p →
     s.busyOf it.card = some e → Tab.wfWith .initial s.programs = true →
     let n := (s.program p).inFlight - 1
     let writes :=
       if after = before then e.writes
       else if e.writes < 65535 then e.writes + 1
       else (Config.writesBeyond s.powerOns s.tmc.nextWrite).toNat
     ∃ u, u = { settleRecord it.card before after s with programs := u.programs } ∧
       u.program p =
         (if (s.program p).status = .draining ∧ n = 0 then
           { s.program p with inFlight := n, status := (s.program p).drainTarget.getD .pass, drainTarget := none }
         else { s.program p with inFlight := n }) ∧
       (∀ m, m ≠ p → u.program m = s.program m) ∧
       (e.waiting ≠ [] ∨ e.current ≠ none ∨ writes ≠ 0 → finishItem it before after s = u) ∧
       (e.waiting = [] → e.current = none → writes = 0 → finishItem it before after s = freeEntry it.card u))

/-- A fill chooses, from the replacement pointer upward, wrapping from 3 to 0, the first way that is not pinned (R129).
A freed entry's way is unpinned and keeps its record, and the blocked set is emptied (R29). Where entries of its set
wait for a way and the other three are pinned, the oldest takes the way, which is made invalid, and its read is queued;
the rest wait on (R130). -/
def Obligations.FreedEntryPassesItsWay : Prop :=
  (∀ (c : CacheSet) (w : Nat), c.pointer < 4 →
     (chooseWay c = none ↔
       c.way0.pinned = true ∧ c.way1.pinned = true ∧ c.way2.pinned = true ∧ c.way3.pinned = true) ∧
     (chooseWay c = some w ↔
       ∃ k, k < 4 ∧ w = (c.pointer + k) % 4 ∧ (wayOf c w).pinned = false ∧
         ∀ j, j < k → (wayOf c ((c.pointer + j) % 4)).pinned = true)) ∧
  (∀ (card w : Nat) (s : State) (e : BusyEntry),
     s.busyOf card = some e → e.way = some w → w < 4 → Tab.wfWith .empty s.cache = true →
     let t := freeEntry card s
     let set := Machine.setOf card
     t = { s with busy := t.busy, dispatcher := { s.dispatcher with blocked := [] }, cache := t.cache, tmc := t.tmc } ∧
     ((∀ x ∈ s.busy, x.card ≠ card → ¬(x.state = .fetchWait ∧ Machine.setOf x.card = set)) →
       t.busy = (s.busy.filter fun x => x.card != card) ∧ t.tmc = s.tmc ∧
       t.wayAt card w = { s.wayAt card w with pinned := false } ∧
       (∀ d v, v < 4 → (Machine.setOf d ≠ set ∨ v ≠ w) → t.wayAt d v = s.wayAt d v) ∧
       ∀ n, (t.cacheSet n).pointer = (s.cacheSet n).pointer) ∧
     (∀ a f b, (s.busy.filter fun x => x.card != card) = a ++ f :: b →
       ((a ++ f :: b).map fun x => x.card).Nodup → f.state = .fetchWait → Machine.setOf f.card = set →
       (∀ x ∈ a, ¬(x.state = .fetchWait ∧ Machine.setOf x.card = set)) →
       (∀ v, v < 4 → v ≠ w → (s.wayAt card v).pinned = true) → (s.cacheSet set).pointer < 4 →
       t.busy = a ++ { f with state := .fetching, way := some w } :: b ∧
       t.tmc = { s.tmc with reads := s.tmc.reads ++ [queuedRead s (.fetch f.card)] } ∧
       (t.wayAt card w).valid = false ∧ (t.wayAt card w).pinned = true ∧
       (∀ d v, v < 4 → (Machine.setOf d ≠ set ∨ v ≠ w) → t.wayAt d v = s.wayAt d v) ∧
       (t.cacheSet set).pointer = (w + 1) % 4))

/-- The append of a journal entry (R142, R143, R146): it takes the next sequence, whose successor is one more and 1
after the last; the oldest, newest and occupancy follow; its write to the next ring position is queued; the append that
reaches 786,432 or 1,015,808 entries raises its notice. -/
def Obligations.AppendTakesTheNextSequence : Prop :=
  ∀ (x : JournalEntry) (s : State),
    let j := s.journal
    let t :=
      { s with
        journal :=
          { j with
            next := if j.next = 4294967295 then 1 else j.next + 1
            oldest := if j.occupancy = 0 then j.next else j.oldest
            newest := j.next
            occupancy := j.occupancy + 1
            position := if j.position + 1 = 1048576 then 0 else j.position + 1 }
        tmc :=
          { s.tmc with
            writes := s.tmc.writes ++ [{ id := s.tmc.nextWrite, body := .journal j.position { x with seq := j.next } }]
            nextWrite := s.tmc.nextWrite + 1 } }
    j.position < 1048576 →
    appendJournal x s =
      if j.occupancy + 1 = 786432 then raiseNotice .journalHigh false t
      else if j.occupancy + 1 = 1015808 then raiseNotice .journalFull false t
      else t

/-! ## Table memory -/

/-- The fetch of a busy entry (R28, R134 to R136): with data it makes the entry ACTIVE on its way, which holds the
record; a corrected read is counted. Uncorrectable, the card joins the quarantine list where it is not on it and it
holds fewer than 32, MEMORY_ERROR is raised, with overflow at a full list; every waiting item is answered or dismissed
UNAVAILABLE, head first, and the entry is freed. The record is what the write the fetch was queued behind stores, or what
DRAM holds (R135; log entry 53). The model's choices: where a later fetch of the card is queued, the data of the earlier
one is dropped (log entry 15), and an uncorrectable fetch ends whatever entry the card has (log entry 38); a dismissed
lapse or drop item leaves a slot that is not its own (R72) as it is (log entry 48); the MEMORY_ERROR notice goes before
the answers of the management items on C (log entry 22). With no fetch of the card queued nothing happens (log entry
3). -/
def Obligations.FetchesComplete : Prop :=
  (∀ (s : State) (card : Nat) (fixed : Bool), card < 16777216 → (∀ x ∈ s.tmc.reads, x.body ≠ .fetch card) →
    exec (.fetchComplete card fixed) s = .next s ∧ exec (.fetchUncorrectable card) s = .next s) ∧
  (∀ (s : State) (card rd : Nat) (behind : Option WriteBody) (a b : List QueuedRead), card < 16777216 →
    s.tmc.reads = a ++ { body := .fetch card, after := rd, behind := behind } :: b →
    (∀ x ∈ a, x.body ≠ .fetch card) → (∀ x ∈ s.tmc.writes, x.id < rd → ∀ r who, x.body ≠ .card card r who) →
    let read (fixed : Bool) : State :=
      { s with
        tmc :=
          { s.tmc with
            reads := a ++ b, corrected := if fixed then min 65535 (s.tmc.corrected + 1) else s.tmc.corrected } }
    (∀ (fixed : Bool) (e : BusyEntry) (w : Nat), (∀ x ∈ b, x.body ≠ .fetch card) → s.busyOf card = some e →
      e.state = .fetching → e.way = some w → w < 4 → Tab.wfWith .empty s.cache = true →
      ∃ t, exec (.fetchComplete card fixed) s = .next t ∧
        t = { read fixed with
              busy := s.busy.map fun x => if x.card = card then { x with state := .active } else x
              cache := t.cache } ∧
        t.wayAt card w =
          { valid := true, tag := card / 1024
            record := (recordRead s behind card).getD (Config.undefinedCard s.powerOns card)
            pinned := true } ∧
        ∀ d v, v < 4 → (Machine.setOf d ≠ Machine.setOf card ∨ v ≠ w) → t.wayAt d v = s.wayAt d v) ∧
    (∀ fixed : Bool, (∃ x ∈ b, x.body = .fetch card) ∨ (∀ e, s.busyOf card = some e → e.state ≠ .fetching) →
      exec (.fetchComplete card fixed) s = .next (read fixed)) ∧
    (let lost := read false
     let u :=
       if card ∈ s.tmc.quarantine then raiseNotice .memoryError false lost
       else if s.tmc.quarantine.length < 32 then
         raiseNotice .memoryError false
           (invalidateCard card { lost with tmc := { lost.tmc with quarantine := s.tmc.quarantine ++ [card] } })
       else raiseNotice .memoryError true lost
     (s.busyOf card = none → exec (.fetchUncorrectable card) s = .next u) ∧
     ∀ e, s.busyOf card = some e →
       exec (.fetchUncorrectable card) s = .next (freeEntry card (e.waiting.foldl dismissItem u)))) ∧
  (∀ (s : State) (it : Item) (tag : Nat),
    let refused (code : Nat) : State := countOut it.program (replyStarted code tag (.refused .unavailable) s)
    (∀ q₀, it.body = .till q₀ → dismissItem s it = countOut it.program (answerBare q₀ .unavailable s)) ∧
    (it.body = .cardRead tag → dismissItem s it = refused 0x02) ∧
    (it.body = .cardFreeze tag → dismissItem s it = refused 0x12) ∧
    (it.body = .cardThaw tag → dismissItem s it = refused 0x13) ∧
    (∀ f, it.body = .cardWrite tag f → dismissItem s it = refused 0x25) ∧
    (∀ ref drop, it.body = .lapse ref drop →
      let h := s.slot ref.slot
      let u :=
        if h.reuse = ref.reuse ∧ h.state = .lapseDue ∧ h.card = it.card then
          s.setSlot ref.slot { h with issued := false }
        else s
      (drop = none → dismissItem s it = countOut it.program u) ∧
      (drop = some tag →
        dismissItem s it = countOut it.program (replyStarted 0x1C tag (.refused .unavailable) u))))

/-- CARD_RECORD_WRITE_COMPLETE (R29, R135): the oldest queued write of the card reaches DRAM where it is a
write-through, which takes 1 from the entry's outstanding writes and frees an entry that nothing keeps, or, by the
model's choice (log entry 16), one that LOAD DATA queued; where it belongs to a LOAD CLEAR or a restore, which have
completions of their own, nothing changes. JOURNAL_WRITE_COMPLETE (R144): the entry reaches its ring position; the
written mark moves to it where it follows the mark, and on across every following entry already written; otherwise the
write is noted. -/
def Obligations.QueuedWritesComplete : Prop :=
  (∀ (s : State) (card : Nat), card < 16777216 →
    ((∀ x ∈ s.tmc.writes, ∀ r who, x.body ≠ .card card r who) → exec (.cardRecordWriteComplete card) s = .next s) ∧
    ∀ a i r who b, s.tmc.writes = a ++ { id := i, body := .card card r who } :: b →
      (∀ x ∈ a, ∀ r who, x.body ≠ .card card r who) →
      let stored := { s with cards := Tab.insert s.cards card r, tmc := { s.tmc with writes := a ++ b } }
      (who = .serialiser →
        exec (.cardRecordWriteComplete card) s =
          .next
            (freeIfDone card
              { stored with
                busy := s.busy.map fun x => if x.card = card then { x with writes := x.writes - 1 } else x })) ∧
      (who = .loadData → exec (.cardRecordWriteComplete card) s = .next stored) ∧
      (who ≠ .serialiser → who ≠ .loadData → exec (.cardRecordWriteComplete card) s = .next s)) ∧
  (∀ (s : State) (seq : Nat), 1 ≤ seq → seq ≤ 4294967295 →
    ((∀ x ∈ s.tmc.writes, ∀ n e, x.body = .journal n e → e.seq ≠ seq) →
      exec (.journalWriteComplete seq) s = .next s) ∧
    ∀ a i n x b, s.tmc.writes = a ++ { id := i, body := .journal n x } :: b → x.seq = seq →
      (∀ y ∈ a, ∀ n e, y.body = .journal n e → e.seq ≠ seq) → s.journal.noted.Nodup →
      ∃ t, exec (.journalWriteComplete seq) s = .next t ∧
        t = { s with
              ring := Tab.insert s.ring n x
              journal := { s.journal with written := t.journal.written, noted := t.journal.noted }
              tmc := { s.tmc with writes := a ++ b } } ∧
        (seq ≠ successor s.journal.written →
          t.journal.written = s.journal.written ∧ t.journal.noted = s.journal.noted ++ [seq]) ∧
        (seq = successor s.journal.written →
          ∃ k, t.journal.written = successor^[k] seq ∧ successor^[k + 1] seq ∉ t.journal.noted ∧
            (∀ j, 1 ≤ j → j ≤ k → successor^[j] seq ∈ s.journal.noted) ∧
            ∀ m, m ∈ t.journal.noted ↔ m ∈ s.journal.noted ∧ ∀ j, 1 ≤ j → j ≤ k → m ≠ successor^[j] seq))

/-- LOAD_CLEAR_WRITE_QUEUE and LOAD_CLEAR_WRITE_COMPLETE (R9, R19, R137, R138, R175): the next record of the range is
queued cleared, any way that holds it is made invalid, and every other program whose range holds it is no longer
initialised; each write that completes reaches DRAM, and at the last the program is initialised and the command is
answered DONE. Nothing is queued while RESET_N is low or a reset is pending (R178, log entry 32). -/
def Obligations.LoadClearRuns : Prop :=
  ∀ (s : State) (p : Nat) (j : ClearJob) (a b : List ClearJob), p < 32 → s.tmc.clears = a ++ j :: b → j.program = p →
    (∀ x ∈ a ++ b, x.program ≠ p) → Tab.wfWith .initial s.programs = true →
    (j.count ≤ j.queued ∨ s.resetN = false ∨ s.resetPending = true → exec (.loadClearWriteQueue p) s = .next s) ∧
    (j.queued < j.count → s.resetN = true → s.resetPending = false →
      let card := j.base + j.queued
      let record : CardRecord :=
        { program := p, state := .inactive, paid := 0, bonus := 0, bonusExpiry := none, held := 0, openHolds := 0,
          lastDay := s.mgmt.day, dayCount := 0, dayAmount := 0, verify := none, verifyFailures := 0, frozen := false,
          recents := [] }
      ∃ t, exec (.loadClearWriteQueue p) s = .next t ∧
        t = { s with
              programs := t.programs
              cache := (invalidateCard card s).cache
              tmc :=
                { s.tmc with
                  writes := s.tmc.writes ++ [{ id := s.tmc.nextWrite, body := .card card record (.loadClear p) }]
                  nextWrite := s.tmc.nextWrite + 1
                  clears := a ++ { j with queued := j.queued + 1 } :: b } } ∧
        ∀ n, t.program n =
          if n ≠ p ∧ (s.program n).settings.tableBase ≤ card ∧
              card < (s.program n).settings.tableBase + (s.program n).settings.serialCount then
            { s.program n with initialised := false }
          else s.program n) ∧
    (∀ card c i r d, card < 16777216 → s.tmc.writes = c ++ { id := i, body := .card card r (.loadClear p) } :: d →
      (∀ x ∈ c, ∀ r who, x.body ≠ .card card r who) →
      let stored := { s with cards := Tab.insert s.cards card r, tmc := { s.tmc with writes := c ++ d } }
      (j.completed + 1 ≠ j.count →
        exec (.loadClearWriteComplete card) s =
          .next
            { stored with
              tmc := { stored.tmc with clears := a ++ { j with completed := j.completed + 1 } :: b } }) ∧
      (j.completed + 1 = j.count → s.resetPending = false →
        ∃ t, exec (.loadClearWriteComplete card) s =
            .next (replyStarted 0x2B j.tag (.done (leBytes 1 p ++ leBytes 4 j.count)) t) ∧
          t = { stored with programs := t.programs, tmc := { stored.tmc with clears := a ++ b } } ∧
          t.program p = { s.program p with initialised := true } ∧ ∀ n, n ≠ p → t.program n = s.program n))

/-- RESTORE_SCAN_END and RESTORE_WRITE_COMPLETE (R113): the restore is refused STATE for an INACTIVE record of a card
with open holds, and JOURNAL_FULL without a free entry; otherwise the record is written from the load record, with H and
the open hold count of the card's open holds, and an ADJUST entry from zero is appended. Once its write completes the
card leaves the quarantine list and the command is answered DONE, with the data of log entry 12. That the
entry's write is queued before the record's, where R113 lists the record first, is the model's choice (log entry 46). -/
def Obligations.RestoreRuns : Prop :=
  ∀ (s : State) (j : RestoreJob), s.tmc.restore = some j → s.resetN = true → s.resetPending = false →
    (j.written = none → Tab.wfWith .initial s.slots = true → (∀ e ∈ s.slots, e.1 < 16384) →
      let holds := (List.range 16384).filter fun n => (s.slot n).card == j.card && decide ((s.slot n).state ≠ .free)
      let refused (reason : Reason) : Prop :=
        exec .restoreScanEnd s =
          .next (replyStarted 0x26 j.tag (.refused reason) { s with tmc := { s.tmc with restore := none } })
      (j.load.stateCode = 0 → holds ≠ [] → refused .state) ∧
      (j.load.stateCode ≠ 0 ∨ holds = [] → journalFree s = 0 → refused .journalFull) ∧
      (j.load.stateCode ≠ 0 ∨ holds = [] → 0 < journalFree s →
        let record : CardRecord :=
          { program := j.program, state := (cardStateOf j.load.stateCode).getD .inactive, paid := j.load.paid,
            bonus := j.load.bonus
            bonusExpiry :=
              if 0 < j.load.bonus then j.load.bonusExpiry
              else if ∃ n ∈ holds, 0 < (s.slot n).bonusPart then some (j.load.bonusExpiry.getD s.mgmt.day)
              else none
            held := (holds.map fun n => (s.slot n).amount).sum
            openHolds := holds.length, lastDay := s.mgmt.day, dayCount := 0, dayAmount := 0
            verify := j.load.verify.bind verifyValueOf
            verifyFailures := 0, frozen := false, recents := [] }
        let entry : JournalEntry :=
          { seq := 0, kind := .adjust, day := s.mgmt.day, minute := s.time.minutes, card := j.card, program := j.program,
            till := none, paidDelta := record.paid, bonusDelta := record.bonus, heldDelta := record.held, forfeited := 0,
            paid := record.paid, bonus := record.bonus, held := record.held, holdRef := none, promotion := none,
            restore := true }
        let t := appendJournal entry s
        exec .restoreScanEnd s =
          .next
            { t with
              tmc :=
                { t.tmc with
                  writes := t.tmc.writes ++ [{ id := t.tmc.nextWrite, body := .card j.card record .restore }]
                  nextWrite := t.tmc.nextWrite + 1
                  restore := some { j with written := some (record, s.journal.next) } } })) ∧
    (∀ r seq a i x b, j.written = some (r, seq) →
      s.tmc.writes = a ++ { id := i, body := .card j.card x .restore } :: b →
      (∀ y ∈ a, ∀ r who, y.body ≠ .card j.card r who) →
      exec .restoreWriteComplete s =
        .next
          (replyStarted 0x26 j.tag (.done (encodeCardRecord r ++ leBytes 4 seq))
            { s with
              cards := Tab.insert s.cards j.card x
              tmc :=
                { s.tmc with writes := a ++ b, restore := none, quarantine := s.tmc.quarantine.erase j.card } }))

/-- The reads the Management Unit waits for (R134 to R136, R147, R148, R170, R174): a direct CARD READ is answered with
the record's bytes, or refused UNAVAILABLE, its card joining the quarantine list where it has no busy entry, is not on
the list and finds fewer than 32 on it, and MEMORY_ERROR raised, with overflow where the list alone keeps the card out
(log entry 49); a JOURNAL READ with its entries, or refused UNAVAILABLE with MEMORY_ERROR; a LOAD FETCH with its
records, up to one that is uncorrectable, whose index it names, which the pointer passes and which the same rule lists.
Corrected reads are counted. A read delivers what the last write of its address that it was queued behind stores (R135),
or, by the model's choice, what DRAM holds at its completion (log entry 53). The order of the data is log entry 12's;
that the MEMORY_ERROR notice goes before the answer on C is log entry 22's. -/
def Obligations.ManagementReadsComplete : Prop :=
  (∀ (s : State) (body : ReadBody),
    (∀ n r who, sameAddress (.card n r who) body = true ↔ body = .fetch n ∨ body = .direct n ∨ body = .window n) ∧
    (∀ n e, sameAddress (.journal n e) body = true ↔ body = .journal n) ∧
    ((∀ x ∈ s.tmc.writes, sameAddress x.body body = false) → lastWriteTo body s = none) ∧
    ∀ a x b, s.tmc.writes = a ++ x :: b → sameAddress x.body body = true → (∀ y ∈ b, sameAddress y.body body = false) →
      lastWriteTo body s = some x.body) ∧
  ∀ (s : State) (tag rd : Nat) (behind : ReadBody → Option WriteBody) (b : List QueuedRead) (fixed : Nat),
    let records (first count : Nat) : List Byte :=
      (countUp count first).flatMap fun card => leBytes 3 card ++ recordBytes s (behind (.window card)) card
    let read (bodies : List ReadBody) : Prop :=
      s.tmc.reads = bodies.map (fun x => { body := x, after := rd, behind := behind x }) ++ b ∧
      ∀ x ∈ s.tmc.writes, ∀ y ∈ bodies, ¬(x.id < rd ∧ sameAddress x.body y = true)
    let counted : State :=
      { s with
        mgmt := { s.mgmt with reading := none }
        tmc := { s.tmc with reads := b, corrected := min 65535 (s.tmc.corrected + fixed) } }
    let answered (code : Nat) (result : MgmtResult) (t : State) : State :=
      handCentral (.mgmtAnswer { code := code, tag := tag, result := result }) t
    let lost (card : Nat) (t : State) : State :=
      if card ∈ t.tmc.quarantine ∨ (t.busyOf card).isSome = true then raiseNotice .memoryError false t
      else if t.tmc.quarantine.length < 32 then
        raiseNotice .memoryError false
          (invalidateCard card { t with tmc := { t.tmc with quarantine := t.tmc.quarantine ++ [card] } })
      else raiseNotice .memoryError true t
    s.tmc.corrected ≤ 65535 →
    (∀ card outcome, s.mgmt.reading = some (.card tag card) → read [.direct card] →
      fixed = (if outcome = .corrected then 1 else 0) →
      (outcome ≠ .uncorrectable →
        exec (.cardReadDirectComplete outcome) s =
          .next
            (answered 0x02 (.done (leBytes 3 card ++ [1#8] ++ recordBytes s (behind (.direct card)) card)) counted)) ∧
      (outcome = .uncorrectable →
        exec (.cardReadDirectComplete outcome) s =
          .next (answered 0x02 (.refused .unavailable) (lost card counted)))) ∧
    (∀ sel outcomes, s.mgmt.reading = some (.journal tag sel) → outcomes.length = sel.count →
      let positions := selectionPositions s.journal sel
      read (positions.map .journal) → fixed = outcomes.countP (fun o => decide (o = .corrected)) →
      (.uncorrectable ∉ outcomes →
        exec (.journalReadComplete outcomes) s =
          .next
            (answered 0x04
              (.done (journalAnswer sel (positions.flatMap fun n => entryBytes s (behind (.journal n)) n))) counted)) ∧
      (.uncorrectable ∈ outcomes →
        exec (.journalReadComplete outcomes) s =
          .next (answered 0x04 (.refused .unavailable) (raiseNotice .memoryError false counted)))) ∧
    (∀ d p pointer first count outcomes, s.mgmt.reading = some (.window tag first count) →
      s.mgmt.window = .opened d p pointer → read ((countUp count first).map .window) →
      fixed = outcomes.countP (fun o => decide (o = .corrected)) →
      let passed := first + outcomes.length
      let moved := { counted with mgmt := { counted.mgmt with window := .opened d p passed } }
      let further : Byte :=
        if passed < (s.program p).settings.tableBase + (s.program p).settings.serialCount then 1#8 else 0#8
      (.uncorrectable ∉ outcomes → outcomes.length = count →
        exec (.loadFetchComplete outcomes) s =
          .next (answered 0x29 (.done (records first count ++ leBytes 4 passed ++ [further] ++ [0#8])) moved)) ∧
      (∀ good, outcomes = good ++ [.uncorrectable] → .uncorrectable ∉ good → outcomes.length ≤ count →
        exec (.loadFetchComplete outcomes) s =
          .next
            (answered 0x29
              (.done
                (records first good.length ++ leBytes 4 passed ++ [further] ++ 1#8 :: leBytes 3 (first + good.length)))
              (lost (first + good.length) moved))))

/-! ## Management commands -/

/-- The taking of a command (R166, R168): the head of the FIFO with an unknown code is refused UNKNOWN, and one whose
level is above the access level is refused LEVEL; one whose fields end before its last required field is refused RANGE
(R181, after the level: log entry 34; the width of P in a CARD WRITE: log entry 10). None of them changes anything else.
A command that is not at the head is not taken, nor is any while the Management Unit waits for a read (R147, R170, R174;
log entry 43) or an engine reset is under way or RESET_N low (R178; log entry 32). -/
def Obligations.CommandsAreGated : Prop :=
  ∀ (s : State) (i : Instr) (code : Nat), (i, code) ∈ managementCommands →
    (∀ c rest, s.central.fifo = c :: rest → s.resetN = true → s.resetPending = false → s.mgmt.reading = none →
      (c.code = code → s.mgmt.level < code / 16 → exec i s = .next (s.answering c (.refused .level))) ∧
      (c.code ≠ code → exec i s = .next s) ∧
      ((∀ j, (j, c.code) ∉ managementCommands) → exec .unknownCommand s = .next (s.answering c (.refused .unknown))) ∧
      (c.code = code → exec .unknownCommand s = .next s)) ∧
    (s.central.fifo = [] ∨ s.resetN = false ∨ s.resetPending = true ∨ s.mgmt.reading ≠ none →
      exec i s = .next s ∧ exec .unknownCommand s = .next s) ∧
    (∀ c n, admits s code c = true → (i, code, n) ∈ requiredBytes → c.fields.length < n →
      exec i s = .next (s.answering c (.refused .range)))

/-- The commands of level 0 that answer at once from the tables (R83, R125, R132, R168, R169, R171): each carries what
its rule names as it stands, in the order its rule names it (log entries 9 to 12 and 51), and changes nothing, but that
STATUS READ empties the five error reports, and the return size and the access level are set; a number beyond its table
is refused RANGE, and level 2 LEVEL while TBLEN is low. The order of the five links, of the watch slots and of the ways
of a set is the model's choice (log entry 12). -/
def Obligations.ReadsAndSettingsAnswer : Prop :=
  ∀ (s : State) (c : MgmtCommand) (n : Nat) (extra : List Byte),
    let set (b : Bool) : List Byte := [if b then 1#8 else 0#8]
    let yes (b : Bool) : List Byte := [if b then 0#8 else 1#8]
    let maybe (v : Option (List Byte)) : List Byte := match v with | none => [0#8] | some bytes => 1#8 :: bytes
    (admits s 0x01 c = true →
      let window : List Byte :=
        match s.mgmt.window with
        | .closed => [0#8, 0#8, 0#8]
        | .opened .writing p pointer => [1#8] ++ (1#8 :: leBytes 1 p) ++ (1#8 :: leBytes 4 pointer)
        | .opened .reading p pointer => [2#8] ++ (1#8 :: leBytes 1 p) ++ (1#8 :: leBytes 4 pointer)
      let link (l : Link) : List Byte :=
        set (s.linkUnit l).up ++ [(s.linkUnit l).errors] ++ leBytes 2 (s.linkUnit l).dropped
      let status : List Byte :=
        leBytes 2 s.mgmt.day ++ leBytes 4 s.time.seconds ++ leBytes 4 s.time.minutes
          ++ leBytes 1 s.mgmt.level ++ set s.tblen ++ leBytes 1 s.mgmt.returnSize ++ window
          ++ [s.mgmt.pending, s.mgmt.qualifiers, s.mgmt.enabled] ++ leBytes 2 s.mgmt.inFlight.length
          ++ set s.dispatcher.intakeStop ++ leBytes 2 s.busy.length ++ leBytes 1 s.watch.park.length
          ++ leBytes 4 s.journal.oldest ++ leBytes 4 s.journal.newest ++ leBytes 4 s.journal.written
          ++ leBytes 3 (1048576 - s.journal.occupancy)
          ++ leBytes 2 (s.slots.countP fun e => decide (e.2.state = .openHold))
          ++ leBytes 2 (s.slots.countP fun e => decide (e.2.state = .lapseDue))
          ++ leBytes 1 s.tmc.quarantine.length ++ leBytes 2 s.tmc.corrected
          ++ link (.store .s0) ++ link (.store .s1) ++ link (.store .s2) ++ link (.store .s3) ++ link .central
      ∃ t : State, exec .statusRead s = .next (t.answering c (.done status)) ∧
        t = { s with stores := t.stores, central := t.central } ∧ t.central.fifo = s.central.fifo ∧
        (∀ l, t.linkUnit l = { s.linkUnit l with errors := 0#8 }) ∧
        ∀ l, (t.storeUnit l).intake = (s.storeUnit l).intake ∧ (t.storeUnit l).pacer = (s.storeUnit l).pacer) ∧
    (admits s 0x03 c = true → c.fields = leBytes 2 n ++ extra → n < 65536 →
      (16384 ≤ n → exec .holdRead s = .next (s.answering c (.refused .range))) ∧
      (n < 16384 → Tab.wfWith .initial s.slots = true → (∀ e ∈ s.slots, e.1 < 16384) → 1 ≤ s.mgmt.returnSize →
        let held := (List.range 16384).filter fun m => decide (n ≤ m) && decide ((s.slot m).state ≠ .free)
        let returned := held.take (min s.mgmt.returnSize 29)
        let hold (m : Nat) : List Byte :=
          let h := s.slot m
          leBytes 3 (256 * m + h.reuse) ++ leBytes 1 (slotStateCode h.state) ++ leBytes 3 h.card ++ leBytes 1 h.program
            ++ leBytes 2 h.till.store ++ leBytes 1 h.till.lane ++ leBytes 2 h.seq ++ leBytes 3 h.amount
            ++ leBytes 3 h.bonusPart ++ leBytes 3 h.paidPart ++ leBytes 2 h.openDay ++ leBytes 4 h.openMinute
            ++ leBytes 5 h.expiryMinute ++ yes h.issued
        exec .holdRead s =
          .next
            (s.answering c
              (.done
                (returned.flatMap hold
                  ++ leBytes 2 (if held = [] then Config.holdReadNextWhenNone n else returned.getLastD 0 + 1)
                  ++ [if returned.length < held.length then 1#8 else 0#8]))))) ∧
    (admits s 0x05 c = true → c.fields = leBytes 1 n ++ extra → n < 256 →
      let e := s.program n
      let k := e.settings
      let fields : List Byte :=
        leBytes 1 (programStatusCode e.status) ++ maybe (e.drainTarget.map fun d => leBytes 1 (programStatusCode d))
          ++ leBytes 3 k.issuer ++ leBytes 4 k.firstSerial ++ leBytes 4 k.serialCount ++ leBytes 3 k.tableBase
          ++ yes e.initialised ++ leBytes 3 k.maxBalance ++ leBytes 3 k.minLoad ++ leBytes 3 k.bonusCeiling
          ++ leBytes 2 k.tipTolerance ++ leBytes 2 k.holdLifetime ++ leBytes 1 k.holdsPerCard
          ++ leBytes 1 k.dayCountLimit ++ leBytes 3 k.dayAmountLimit ++ yes k.partialAllowed ++ yes k.verifyRemote
          ++ leBytes 2 e.openHolds ++ leBytes 2 e.inFlight
      exec .programRead s = .next (s.answering c (if n < 32 then .done fields else .refused .range))) ∧
    (admits s 0x07 c = true →
      let w := s.watch
      let slot (x : WatchSlot) : List Byte :=
        yes x.localEnable ++ yes x.globalEnable ++ leBytes 3 x.base ++ leBytes 2 x.span
          ++ leBytes 1
            ((if x.kinds.outgoing then 1 else 0) + (if x.kinds.incoming then 2 else 0) + if x.kinds.look then 4 else 0)
          ++ [if x.action = .note then 0#8 else 1#8]
      let status (x : WatchStatus) : List Byte := yes x.hit ++ maybe (x.last.map (leBytes 3)) ++ leBytes 2 x.count
      let parked (e : Nat × ParkEntry) : List Byte :=
        match e.2.item.body with
        | .till t =>
          leBytes 1 e.1 ++ leBytes 3 e.2.card ++ leBytes 1 (tillKindCode t.kind) ++ leBytes 2 t.till.store
            ++ leBytes 1 t.till.lane ++ leBytes 2 t.seq ++ [if t.channel = .till then 0#8 else 1#8]
            ++ maybe (t.amount.map (leBytes 3)) ++ leBytes 1 (storeLinkCode t.origin) ++ leBytes 1 e.2.matched.toNat
            ++ leBytes 1 e.2.parking.toNat ++ leBytes 5 e.2.expirySecond
        | _ => []
      exec .watchRead s =
        .next
          (s.answering c
            (.done
              (slot w.slot0 ++ slot w.slot1 ++ slot w.slot2 ++ slot w.slot3 ++ leBytes 1 w.timeout ++ status w.status0
                ++ status w.status1 ++ status w.status2 ++ status w.status3 ++ leBytes 4 s.time.seconds
                ++ leBytes 1 w.park.length ++ w.park.flatMap parked)))) ∧
    (admits s 0x08 c = true → c.fields = leBytes 3 n ++ extra → n < 16777216 →
      let hit := (List.range 4).find? fun w => (s.wayAt n w).valid && (s.wayAt n w).tag == n / 1024
      let way (w : Nat) : List Byte :=
        let v := s.wayAt n w
        yes v.valid ++ yes v.pinned ++ maybe (if v.valid then some (leBytes 2 v.tag) else none)
      exec .cacheProbe s =
        .next
          (s.answering c
            (.done
              (leBytes 2 (n % 1024) ++ leBytes 2 (n / 1024) ++ yes hit.isSome ++ maybe (hit.map (leBytes 1))
                ++ maybe (hit.map fun w => yes (s.wayAt n w).pinned) ++ leBytes 1 (s.cacheSet (n % 1024)).pointer
                ++ way 0 ++ way 1 ++ way 2 ++ way 3 ++ yes (decide (n ∈ s.tmc.quarantine)))))) ∧
    (admits s 0x09 c = true → c.fields = leBytes 1 n ++ extra → n < 256 →
      let size := max 1 (min n 64)
      exec .returnSizeSet s =
        .next ({ s with mgmt := { s.mgmt with returnSize := size } }.answering c (.done (leBytes 1 size)))) ∧
    (admits s 0x0A c = true → c.fields = leBytes 1 n ++ extra → n < 256 →
      (n < 2 ∨ n = 2 ∧ s.tblen = true →
        exec .accessSet s =
          .next ({ s with mgmt := { s.mgmt with level := n } }.answering c (.done (leBytes 1 n)))) ∧
      (n = 2 → s.tblen = false → exec .accessSet s = .next (s.answering c (.refused .level))) ∧
      (2 < n → exec .accessSet s = .next (s.answering c (.refused .range))))

/-- JOURNAL READ and JOURNAL RELEASE (R147, R149): a read selects, from the oldest or from a start at or after it, at
most the return size of the readable entries and queues their reads, or is answered at once where it selects none; a
release removes the entries from the oldest through a readable one. Sequence 0 is refused RANGE, and so is a release
beyond the written mark. A read that selects more than it returns says so, and names where to go on (R148, R169). Where
it selects none, the continuation is log entry 36's and the answer at once is log entry 43's choice. -/
def Obligations.JournalIsReadAndReleased : Prop :=
  ∀ (s : State) (c : MgmtCommand) (extra : List Byte),
    (∀ start : Option Nat, admits s 0x04 c = true → (∀ n, start = some n → n < 4294967296) →
      c.fields = (match start with | none => [0#8] | some n => 1#8 :: leBytes 4 n) ++ extra →
      (start = some 0 → exec .journalRead s = .next (s.answering c (.refused .range))) ∧
      (start ≠ some 0 → ∀ first readable : Nat,
        (start = none ∨ (∃ n, start = some n ∧ 2147483648 ≤ stepsFrom s.journal.oldest n)) ∧ first = s.journal.oldest ∧
            readable = readableCount s ∨
          (start = some first ∧ stepsFrom s.journal.oldest first < 2147483648 ∧
            readable = readableCount s - stepsFrom s.journal.oldest first) →
        let count := min (min s.mgmt.returnSize 15) readable
        let sel : JournalSelection :=
          { first := first, count := count, more := decide (count < readable)
            continuation := (first - 1 + count) % 4294967295 + 1
            oldest := s.journal.oldest, written := s.journal.written, free := 1048576 - s.journal.occupancy }
        (count = 0 → exec .journalRead s = .next (s.answering c (.done (journalAnswer sel [])))) ∧
        (0 < count →
          exec .journalRead s =
            .next
              { s.unqueued with
                mgmt := { s.mgmt with reading := some (.journal c.tag sel) }
                tmc :=
                  { s.tmc with
                    reads := s.tmc.reads ++
                      (List.range count).map fun k =>
                        queuedRead s (.journal ((positionOf s.journal first + k) % 1048576)) } }))) ∧
    (∀ n : Nat, admits s 0x11 c = true → c.fields = leBytes 4 n ++ extra → n < 4294967296 →
      let marks (oldest occupancy : Nat) : MgmtResult :=
        .done (leBytes 4 oldest ++ leBytes 4 s.journal.written ++ leBytes 3 (1048576 - occupancy))
      let steps := stepsFrom s.journal.oldest n
      (n = 0 → exec .journalRelease s = .next (s.answering c (.refused .range))) ∧
      (n ≠ 0 → 2147483648 ≤ steps →
        exec .journalRelease s = .next (s.answering c (marks s.journal.oldest s.journal.occupancy))) ∧
      (n ≠ 0 → steps < 2147483648 → readableCount s ≤ steps →
        exec .journalRelease s = .next (s.answering c (.refused .range))) ∧
      (n ≠ 0 → steps < 2147483648 → steps < readableCount s →
        exec .journalRelease s =
          .next
            ({ s with
                journal :=
                  { s.journal with
                    oldest := successor n, occupancy := s.journal.occupancy - (steps + 1) } }.answering c
              (marks (successor n) (s.journal.occupancy - (steps + 1))))))

/-- The commands of level 1 that set the day, the watches, the notices and the intake stop (R24, R96, R116, R117, R119,
R177): the day moves only forward and then clears the local enables; a watch slot is written whole, its base aligned
down to its span, or cleared; the watch status is cleared; the pending set loses the kinds named and their overflow; the
enable set is replaced, and a NOTICE follows where an enabled kind is pending. The model's choices: the other bits of
the kinds mask are ignored (log entry 25); a yes is 0 and a no 1, in the fields and the answer of WATCH SET (log entries
9, 10 and 12); NOTICE ENABLE looks at the whole new enable set and hands its answer first (log entries 22 and 40). -/
def Obligations.DayWatchesAndNoticesSet : Prop :=
  ∀ (s : State) (c : MgmtCommand) (n : Nat) (extra : List Byte),
    (admits s 0x10 c = true → c.fields = leBytes 2 n ++ extra → n < 65536 →
      (n ≤ s.mgmt.day → exec .dayAdvance s = .next (s.answering c (.done (leBytes 2 s.mgmt.day)))) ∧
      (s.mgmt.day < n →
        exec .dayAdvance s =
          .next
            ({ s with
                mgmt := { s.mgmt with day := n }
                watch :=
                  { s.watch with
                    slot0 := { s.watch.slot0 with localEnable := false }
                    slot1 := { s.watch.slot1 with localEnable := false }
                    slot2 := { s.watch.slot2 with localEnable := false }
                    slot3 := { s.watch.slot3 with localEnable := false } } }.answering c
              (.done (leBytes 2 n))))) ∧
    (∀ f : WatchSetFields, admits s 0x14 c = true → watchSetFields c.fields = some f →
      let inRange : Prop :=
        f.slot ≤ 3 ∧ f.base ≤ 16777215 ∧ f.span ∈ [1, 16, 256, 4096] ∧ f.kinds &&& 7#8 ≠ 0#8 ∧ f.action ≤ 1 ∧
        (∀ t, f.timeout = some t → 1 ≤ t ∧ t ≤ 60) ∧ f.localEnable ≠ none ∧ f.globalEnable ≠ none
      (¬inRange → exec .watchSet s = .next (s.answering c (.refused .range))) ∧
      (inRange →
        ∃ t : State,
          exec .watchSet s =
            .next
              (t.answering c
                (.done
                  ([if f.localEnable = some true then 0#8 else 1#8] ++ [if f.globalEnable = some true then 0#8 else 1#8]
                    ++ leBytes 3 (f.base / f.span * f.span) ++ leBytes 2 f.span ++ [f.kinds &&& 7#8]
                    ++ leBytes 1 f.action ++ leBytes 1 (f.timeout.getD s.watch.timeout)))) ∧
          t = { s with watch := t.watch } ∧
          watchSlotOf t.watch f.slot =
            { localEnable := f.localEnable.getD false, globalEnable := f.globalEnable.getD false,
              base := f.base / f.span * f.span, span := f.span
              kinds := { outgoing := f.kinds.getLsbD 0, incoming := f.kinds.getLsbD 1, look := f.kinds.getLsbD 2 }
              action := if f.action = 0 then .note else .park } ∧
          (∀ m, m < 4 → m ≠ f.slot → watchSlotOf t.watch m = watchSlotOf s.watch m) ∧
          t.watch =
            { s.watch with
              slot0 := t.watch.slot0, slot1 := t.watch.slot1, slot2 := t.watch.slot2, slot3 := t.watch.slot3
              timeout := f.timeout.getD s.watch.timeout })) ∧
    (admits s 0x15 c = true → c.fields = leBytes 1 n ++ extra → n < 256 →
      (3 < n → exec .watchClear s = .next (s.answering c (.refused .range))) ∧
      (n ≤ 3 →
        ∃ t : State, exec .watchClear s = .next (t.answering c (.done [])) ∧ t = { s with watch := t.watch } ∧
          watchSlotOf t.watch n = .initial ∧
          (∀ m, m < 4 → m ≠ n → watchSlotOf t.watch m = watchSlotOf s.watch m) ∧
          t.watch =
            { s.watch with
              slot0 := t.watch.slot0, slot1 := t.watch.slot1, slot2 := t.watch.slot2, slot3 := t.watch.slot3 })) ∧
    (admits s 0x16 c = true →
      exec .watchClearStatus s =
        .next
          ({ s with
              watch :=
                { s.watch with
                  status0 := .initial, status1 := .initial, status2 := .initial, status3 := .initial } }.answering c
            (.done []))) ∧
    (∀ kinds : BitVec 8, c.fields = kinds :: extra →
      (admits s 0x19 c = true →
        exec .noticeClear s =
          .next
            ({ s with
                mgmt :=
                  { s.mgmt with
                    pending := s.mgmt.pending &&& ~~~kinds
                    qualifiers :=
                      s.mgmt.qualifiers &&&
                        ~~~((if kinds.getLsbD 3 then 1#8 else 0#8) ||| (if kinds.getLsbD 6 then 2#8 else 0#8)) } }.answering
              c (.done [s.mgmt.pending &&& ~~~kinds]))) ∧
      (admits s 0x18 c = true →
        let t := { s with mgmt := { s.mgmt with enabled := kinds } }.answering c (.done [kinds])
        exec .noticeEnable s = .next (if s.mgmt.pending &&& kinds = 0#8 then t else sendNotice t))) ∧
    (admits s 0x1A c = true →
      exec .intakeStop s =
        .next ({ s with dispatcher := { s.dispatcher with intakeStop := true } }.answering c (.done []))) ∧
    (admits s 0x1B c = true →
      exec .intakeStart s =
        .next ({ s with dispatcher := { s.dispatcher with intakeStop := false } }.answering c (.done [])))

/-- The commands that name a card (R26, R27, R108, R110, R170): CARD READ is handed to the card of a program in LIVE or
DRAINING and read directly otherwise; CARD FREEZE, CARD THAW and CARD WRITE are handed to it, and refused STATE for any
other card; a card that is not named, and a CARD WRITE whose fields are not whole or not listed, are refused RANGE. The
fields stand as R181 codes them. The model's choices: the widths of those of a CARD WRITE (log entry 10), and that one
with a state byte above 3 (log entry 9) or a presence byte other than 0 and 1 (log entry 34) is refused when it is
taken. -/
def Obligations.CardCommandsReachTheirCard : Prop :=
  ∀ (s : State) (c : MgmtCommand) (card : Nat),
    let item (body : ItemBody) : Item := { card := card, program := programOfCard s card, skip := false, body := body }
    (admits s 0x02 c = true → namesCard s c.fields card →
      (servesCard s card → exec .cardRead s = .next (s.handsOver c (item (.cardRead c.tag)))) ∧
      (¬servesCard s card →
        exec .cardRead s =
          .next
            { s.unqueued with
              mgmt := { s.mgmt with reading := some (.card c.tag card) }
              tmc :=
                { s.tmc with reads := s.tmc.reads ++ [queuedRead s (.direct card)] } })) ∧
    (admits s 0x12 c = true → namesCard s c.fields card →
      (servesCard s card → exec .cardFreeze s = .next (s.handsOver c (item (.cardFreeze c.tag)))) ∧
      (¬servesCard s card → exec .cardFreeze s = .next (s.answering c (.refused .state)))) ∧
    (admits s 0x13 c = true → namesCard s c.fields card →
      (servesCard s card → exec .cardThaw s = .next (s.handsOver c (item (.cardThaw c.tag)))) ∧
      (¬servesCard s card → exec .cardThaw s = .next (s.answering c (.refused .state)))) ∧
    ((∀ k, ¬namesCard s c.fields k) →
      (admits s 0x02 c = true → exec .cardRead s = .next (s.answering c (.refused .range))) ∧
      (admits s 0x12 c = true → exec .cardFreeze s = .next (s.answering c (.refused .range))) ∧
      (admits s 0x13 c = true → exec .cardThaw s = .next (s.answering c (.refused .range)))) ∧
    (∀ f : CardWriteFields, admits s 0x25 c = true → writesFields s c.fields card f →
      (servesCard s card → exec .cardWrite s = .next (s.handsOver c (item (.cardWrite c.tag f)))) ∧
      (¬servesCard s card → exec .cardWrite s = .next (s.answering c (.refused .state)))) ∧
    (admits s 0x25 c = true → (∀ k f, ¬writesFields s c.fields k f) →
      exec .cardWrite s = .next (s.answering c (.refused .range)))

/-- HOLD DROP, WATCH RELEASE and CARD RESTORE (R36, R80, R112, R122): a named open hold becomes LAPSE_DUE and its drop
item is handed to the card, the slot issued where it enters; a named parked item is answered for at once and then taken
again with skip, or referred; a restore that passes its checks begins. Otherwise each is refused as its rule says. The
model's choices: a HOLD DROP of a number above 4,194,303 is refused NO_HOLD (log entry 45); a released item is taken in
the same event, after the answer (log entries 5 and 22). -/
def Obligations.HoldParkAndQuarantineCommands : Prop :=
  ∀ (s : State) (c : MgmtCommand) (extra : List Byte),
    (∀ n : Nat, admits s 0x1C c = true → c.fields = leBytes 3 n ++ extra → n < 16777216 →
      Tab.wfWith .initial s.slots = true →
      let m := n / 256
      let h := s.slot m
      let refused (t : State) (reason : Reason) : Prop := exec .holdDrop s = .next (t.answering c (.refused reason))
      (16384 ≤ m ∨ h.reuse ≠ n % 256 ∨ h.state = .free → refused s .noHold) ∧
      (m < 16384 → h.reuse = n % 256 → h.state ≠ .free →
        ∃ t, t = { s with slots := t.slots, expiryList := t.expiryList } ∧
          (h.state = .lapseDue → t = s) ∧
          (h.state = .openHold →
            t.slot m = { h with state := .lapseDue, issued := false } ∧ (∀ k, k ≠ m → t.slot k = s.slot k) ∧
            t.expiryList = s.expiryList.filter fun k => k != m) ∧
          let it : Item :=
            { card := h.card, program := some h.program, skip := false,
              body := .lapse { slot := m, reuse := n % 256 } (some c.tag) }
          (∀ u, handOver it t.unqueued = (.entered, u) →
            ∃ v : State, exec .holdDrop s = .next (v.inFlight c) ∧ v = { u with slots := v.slots } ∧
              v.slot m = { t.slot m with issued := true } ∧ ∀ k, k ≠ m → v.slot k = t.slot k) ∧
          (∀ u, handOver it t.unqueued = (.quarantined, u) → refused t .unavailable) ∧
          (∀ u, handOver it t.unqueued = (.waitingFull, u) → refused t .busy) ∧
          (∀ u, handOver it t.unqueued = (.listFull, u) → refused t .busy))) ∧
    (∀ id action card store lane seq : Nat, admits s 0x17 c = true →
      c.fields =
        leBytes 1 id ++ leBytes 1 action ++ leBytes 3 card ++ leBytes 2 store ++ leBytes 1 lane ++ leBytes 2 seq ++ extra →
      id < 256 → action < 256 → card < 16777216 → store < 65536 → lane < 256 → seq < 65536 →
      let names (p : ParkEntry) : Prop :=
        ∃ q₀, p.item.body = .till q₀ ∧ p.card = card ∧ q₀.till = { store := store, lane := lane } ∧ q₀.seq = seq
      (15 < id ∨ 1 < action → exec .watchRelease s = .next (s.answering c (.refused .range))) ∧
      (id ≤ 15 → action ≤ 1 → (∀ p, Tab.find s.watch.park id = some p → ¬names p) →
        exec .watchRelease s = .next (s.answering c (.refused .tooLate))) ∧
      (∀ p, id ≤ 15 → Tab.find s.watch.park id = some p → names p →
        let answered := s.answering c (.done (leBytes 1 id ++ leBytes 1 action))
        (action = 1 → exec .watchRelease s = .next (referParked id p answered)) ∧
        (action = 0 →
          exec .watchRelease s =
            .next
              (takeItem { p.item with skip := true }
                { answered with
                  watch := { s.watch with park := Tab.erase s.watch.park id }
                  busy := s.busy.map fun x =>
                    if x.card = card then { x with state := .active, current := none } else x })))) ∧
    (∀ (card : Nat) (bytes : List Byte), admits s 0x26 c = true → c.fields = leBytes 3 card ++ bytes ++ extra →
      card < 16777216 → bytes.length = 24 →
      let l := decodeLoadRecord bytes
      let refused (reason : Reason) : Prop := exec .cardRestore s = .next (s.answering c (.refused reason))
      let busyProgram (p : Nat) : Prop := (∃ j ∈ s.tmc.clears, j.program = p) ∨ ∃ d a, s.mgmt.window = .opened d p a
      (card ∉ s.tmc.quarantine → refused .state) ∧
      (card ∈ s.tmc.quarantine → s.tmc.restore ≠ none → refused .busy) ∧
      (card ∈ s.tmc.quarantine → s.tmc.restore = none →
        (programOfCard s card = none → refused .state) ∧
        (∀ p, programOfCard s card = some p →
          let k := (s.program p).settings
          let inLimits : Prop :=
            l.stateCode ≤ 3 ∧ l.paid ≤ k.maxBalance ∧ l.bonus ≤ k.bonusCeiling ∧
            (∀ v, l.verify = some v → ∀ b ∈ v, 48 ≤ b.toNat ∧ b.toNat ≤ 57) ∧
            (0 < l.bonus → ∃ d, l.bonusExpiry = some d ∧ s.mgmt.day ≤ d)
          (busyProgram p → refused .busy) ∧
          (¬busyProgram p → ¬inLimits → refused .range) ∧
          (¬busyProgram p → inLimits →
            exec .cardRestore s =
              .next
                ({ s.unqueued with
                    tmc :=
                      { s.tmc with
                        restore :=
                          some { card := card, program := p, tag := c.tag, load := l, written := none } } }.inFlight
                  c)))))

/-- PROGRAM WRITE and PROGRAM STATE (R5, R6, R7, R8): the checks in their order, then all settings written, initialised
kept only where prefix and range stay; and the moves of the table of R7, a program leaving LIVE draining while items are
in flight. The settings stand in the order of R4, as R181 codes them; that a yes is 0 and a no is 1, and that the prefix
takes 3 bytes, are the model's choices (log entries 9 and 10). -/
def Obligations.ProgramCommandsFollowTheTable : Prop :=
  ∀ (s : State) (c : MgmtCommand) (p : Nat) (extra : List Byte), p < 256 → Tab.wfWith .initial s.programs = true →
    let e := s.program p
    let becomes (i : Instr) (data : List Byte) (after : ProgramEntry) : Prop :=
      ∃ t : State, exec i s = .next (t.answering c (.done data)) ∧ t = { s with programs := t.programs } ∧
        t.program p = after ∧ ∀ n, n ≠ p → t.program n = s.program n
    (∀ k : Settings, admits s 0x20 c = true → c.fields = leBytes 1 p ++ settingsBytes k ++ extra → settingsFit k →
      let refused (reason : Reason) : Prop := exec .programWrite s = .next (s.answering c (.refused reason))
      let moves : Prop :=
        k.issuer ≠ e.settings.issuer ∨ k.firstSerial ≠ e.settings.firstSerial ∨ k.serialCount ≠ e.settings.serialCount ∨
          k.tableBase ≠ e.settings.tableBase
      (32 ≤ p → refused .range) ∧
      (p < 32 →
        (e.status = .live ∨ e.status = .draining → refused .state) ∧
        (e.status ≠ .live → e.status ≠ .draining →
          (programHeld s p → refused .busy) ∧
          (¬programHeld s p → ¬settingsAllowed k → refused .range) ∧
          (¬programHeld s p → settingsAllowed k →
            (moves → 0 < e.openHolds → refused .holdsOpen) ∧
            (¬moves ∨ e.openHolds = 0 →
              (overlapsOpen s p k → refused .overlap) ∧
              (¬overlapsOpen s p k →
                (moves → becomes .programWrite [] { e with settings := k, initialised := false }) ∧
                (¬moves → becomes .programWrite [] { e with settings := k }))))))) ∧
    (∀ code : Nat, admits s 0x21 c = true → c.fields = leBytes 1 p ++ leBytes 1 code ++ extra → code < 256 →
      let refused (reason : Reason) : Prop := exec .programState s = .next (s.answering c (.refused reason))
      (32 ≤ p ∨ code ∉ [0, 1, 3, 4] → refused .range) ∧
      (∀ target : ProgramStatus, p < 32 →
        (target, code) ∈ ([(.off, 0), (.pass, 1), (.loading, 3), (.live, 4)] : List (ProgramStatus × Nat)) →
        let moved (data : Byte) (after : ProgramEntry) : Prop := becomes .programState [data] after
        let stays : Prop := moved (BitVec.ofNat 8 code) e
        let reaches : Prop := moved (BitVec.ofNat 8 code) { e with status := target }
        (programHeld s p → refused .busy) ∧
        (¬programHeld s p →
          (e.status = target → stays) ∧
          (e.status = .draining → refused .state) ∧
          (e.status = .off → target = .live → refused .state) ∧
          (e.status = .off → target = .pass ∨ target = .loading →
            (¬settingsAllowed e.settings → refused .range) ∧
            (settingsAllowed e.settings → overlapsOpen s p e.settings → refused .overlap) ∧
            (settingsAllowed e.settings → ¬overlapsOpen s p e.settings → reaches)) ∧
          (e.status = .pass ∨ e.status = .loading → target = .off →
            (0 < e.openHolds → refused .holdsOpen) ∧ (e.openHolds = 0 → reaches)) ∧
          (e.status = .pass → target = .loading → reaches) ∧
          (e.status = .pass → target = .live → refused .state) ∧
          (e.status = .loading → target = .pass → reaches) ∧
          (e.status = .loading → target = .live →
            (e.initialised = false → refused .notInitialised) ∧
            (e.initialised = true → overlapsOpen s p e.settings → refused .overlap) ∧
            (e.initialised = true → ¬overlapsOpen s p e.settings → reaches)) ∧
          (e.status = .live → target = .off → refused .state) ∧
          (e.status = .live → target = .pass ∨ target = .loading →
            (0 < e.openHolds → refused .holdsOpen) ∧
            (e.openHolds = 0 → e.inFlight = 0 →
              moved (BitVec.ofNat 8 code) { e with status := target, drainTarget := none }) ∧
            (e.openHolds = 0 → 0 < e.inFlight →
              moved 2#8 { e with status := .draining, drainTarget := some target })))))

/-- The promotion commands (R89): a number above 63 is refused RANGE; a write needs a DISABLED entry and leaves it so,
and a write or an enable needs every field within its write range and start day ≤ end day; a read is answered with the
entry's state and fields. Below level 2 a write, enable or disable is refused LEVEL. How the state is
coded and how wide the mask is are the model's choices (log entries 9 and 10). -/
def Obligations.PromotionsAreWrittenAndEnabled : Prop :=
  ∀ (s : State) (c : MgmtCommand) (n : Nat) (extra : List Byte), n < 256 → Tab.wfWith .initial s.promotions = true →
    let e := s.promotion n
    let refused (i : Instr) (reason : Reason) : Prop := exec i s = .next (s.answering c (.refused reason))
    let becomes (i : Instr) (after : Promotion) : Prop :=
      ∃ t : State, exec i s = .next (t.answering c (.done [])) ∧ t = { s with promotions := t.promotions } ∧
        t.promotion n = after ∧ ∀ m, m ≠ n → t.promotion m = s.promotion m
    (∀ (mask : BitVec 32) (trigger rate cap startDay endDay lifetime : Nat), admits s 0x22 c = true →
      c.fields =
        leBytes 1 n ++ leBytes 4 mask.toNat ++ leBytes 3 trigger ++ leBytes 2 rate ++ leBytes 3 cap ++ leBytes 2 startDay
          ++ leBytes 2 endDay ++ leBytes 2 lifetime ++ extra →
      trigger < 2 ^ 24 → rate < 2 ^ 16 → cap < 2 ^ 24 → startDay < 2 ^ 16 → endDay < 2 ^ 16 → lifetime < 2 ^ 16 →
      let written : Promotion :=
        { enabled := false, mask := mask, trigger := trigger, rate := rate, cap := cap, startDay := startDay,
          endDay := endDay, lifetime := lifetime }
      (64 ≤ n → refused .promotionWrite .range) ∧
      (n < 64 → e.enabled = true → refused .promotionWrite .state) ∧
      (n < 64 → e.enabled = false → ¬promotionAllowed written → refused .promotionWrite .range) ∧
      (n < 64 → e.enabled = false → promotionAllowed written → becomes .promotionWrite written)) ∧
    (c.fields = leBytes 1 n ++ extra →
      (admits s 0x23 c = true →
        (64 ≤ n ∨ ¬promotionAllowed e → refused .promotionEnable .range) ∧
        (n < 64 → promotionAllowed e → becomes .promotionEnable { e with enabled := true })) ∧
      (admits s 0x24 c = true →
        (64 ≤ n → refused .promotionDisable .range) ∧
        (n < 64 → becomes .promotionDisable { e with enabled := false })) ∧
      (admits s 0x06 c = true →
        (64 ≤ n → refused .promotionRead .range) ∧
        (n < 64 →
          exec .promotionRead s =
            .next
              (s.answering c
                (.done
                  ([if e.enabled then 1#8 else 0#8] ++ leBytes 4 e.mask.toNat ++ leBytes 3 e.trigger ++ leBytes 2 e.rate
                    ++ leBytes 3 e.cap ++ leBytes 2 e.startDay ++ leBytes 2 e.endDay ++ leBytes 2 e.lifetime)))))) ∧
    (headCommand s = some c → s.mgmt.level < 2 →
      ∀ i k, (i, k) ∈ [(Instr.promotionWrite, 0x22), (.promotionEnable, 0x23), (.promotionDisable, 0x24)] → c.code = k →
        refused i .level)

/-- The load window (R9, R19, R172 to R175): LOAD OPEN and LOAD CLEAR make their checks in order, LOAD CLOSE closes the
window, LOAD DATA takes its whole records in order from the pointer, and LOAD FETCH queues the reads of the records from
the pointer on, or is answered at once at the end of the range. The model's choices: the widths of the
pointer and of the counts (log entry 10), a partial tail coded 0 where discarded and 1 where not (log entries 9 and 51),
the LOAD FETCH data and that at most 6 records fit one parcel (log entry 12, over the cap of R169), and its answer at
once (log entry 43). -/
def Obligations.LoadWindowCommands : Prop :=
  ∀ (s : State) (c : MgmtCommand) (extra : List Byte),
    let refused (i : Instr) (reason : Reason) : Prop := exec i s = .next (s.answering c (.refused reason))
    (∀ p serial code : Nat, admits s 0x27 c = true → p < 256 → serial < 4294967296 → code < 256 →
      c.fields = leBytes 1 p ++ leBytes 4 serial ++ leBytes 1 code ++ extra →
      let e := s.program p
      let inLoad : Prop := p < 32 ∧ code ≤ 1 ∧ s.mgmt.window = .closed ∧ e.status = .loading
      let clearing : Prop := ∃ j ∈ s.tmc.clears, j.program = p
      let inRange : Prop :=
        e.settings.firstSerial ≤ serial ∧ serial < e.settings.firstSerial + e.settings.serialCount
      let pointer := e.settings.tableBase + (serial - e.settings.firstSerial)
      (32 ≤ p ∨ 1 < code → refused .loadOpen .range) ∧
      (p < 32 → code ≤ 1 → s.mgmt.window ≠ .closed ∨ e.status ≠ .loading → refused .loadOpen .state) ∧
      (inLoad → clearing → refused .loadOpen .busy) ∧
      (inLoad → ¬clearing → code = 0 → 0 < e.openHolds → refused .loadOpen .holdsOpen) ∧
      (inLoad → ¬clearing → code = 1 ∨ e.openHolds = 0 →
        (¬inRange → refused .loadOpen .range) ∧
        (inRange →
          exec .loadOpen s =
            .next
              ({ s with
                  mgmt :=
                    { s.mgmt with
                      window := .opened (if code = 0 then .writing else .reading) p pointer } }.answering c
                (.done (leBytes 1 (code + 1) ++ leBytes 4 pointer)))))) ∧
    (admits s 0x2A c = true →
      exec .loadClose s = .next ({ s with mgmt := { s.mgmt with window := .closed } }.answering c (.done []))) ∧
    (admits s 0x28 c = true →
      ((∀ p a, s.mgmt.window ≠ .opened .writing p a) → refused .loadData .state) ∧
      (∀ (p pointer : Nat) (good : List Nat), s.mgmt.window = .opened .writing p pointer →
        Tab.wfWith .initial s.programs = true →
        let k := (s.program p).settings
        let record (i : Nat) : LoadRecord := decodeLoadRecord ((c.fields.drop (24 * i)).take 24)
        let whole := c.fields.length / 24
        let taken := min whole (k.tableBase + k.serialCount - pointer)
        good.Pairwise (· < ·) → (∀ i, i ∈ good ↔ i < taken ∧ loadAllowed k (record i)) →
        let stored (i : Nat) : CardRecord :=
          { program := p, state := (cardStateOf (record i).stateCode).getD .inactive, paid := (record i).paid,
            bonus := (record i).bonus, bonusExpiry := if (record i).bonus = 0 then none else (record i).bonusExpiry,
            held := 0, openHolds := 0, lastDay := s.mgmt.day, dayCount := 0, dayAmount := 0
            verify := (record i).verify.bind verifyValueOf
            verifyFailures := 0, frozen := false, recents := [] }
        ∃ t : State,
          exec .loadData s =
            .next
              (t.answering c
                (.done
                  (leBytes 1 good.length ++ leBytes 1 (taken - good.length) ++ leBytes 1 (whole - taken)
                    ++ [if c.fields.length % 24 = 0 then 1#8 else 0#8] ++ leBytes 4 (pointer + taken)))) ∧
          t = { s with
                mgmt := { s.mgmt with window := .opened .writing p (pointer + taken) }
                programs := t.programs
                cache := (good.foldl (fun u i => invalidateCard (pointer + i) u) s).cache
                tmc :=
                  { s.tmc with
                    writes :=
                      s.tmc.writes ++
                        good.zipIdx.map fun x =>
                          { id := s.tmc.nextWrite + x.2, body := .card (pointer + x.1) (stored x.1) .loadData }
                    nextWrite := s.tmc.nextWrite + good.length } } ∧
          ∀ n,
            let v := s.program n
            let hit : Prop :=
              n ≠ p ∧ ∃ i ∈ good, v.settings.tableBase ≤ pointer + i ∧
                pointer + i < v.settings.tableBase + v.settings.serialCount
            (hit → t.program n = { v with initialised := false }) ∧ (¬hit → t.program n = v))) ∧
    (admits s 0x29 c = true →
      ((∀ p a, s.mgmt.window ≠ .opened .reading p a) → refused .loadFetch .state) ∧
      (∀ p pointer, s.mgmt.window = .opened .reading p pointer →
        let last := (s.program p).settings.tableBase + (s.program p).settings.serialCount
        let count := min (min s.mgmt.returnSize 6) (last - pointer)
        (last ≤ pointer →
          exec .loadFetch s = .next (s.answering c (.done (leBytes 4 pointer ++ [0#8] ++ [0#8])))) ∧
        (0 < count →
          exec .loadFetch s =
            .next
              { s.unqueued with
                mgmt := { s.mgmt with reading := some (.window c.tag pointer count) }
                tmc :=
                  { s.tmc with
                    reads := s.tmc.reads ++
                      (List.range count).map fun i =>
                        queuedRead s (.window (pointer + i)) } }))) ∧
    (∀ p : Nat, admits s 0x2B c = true → p < 256 → c.fields = leBytes 1 p ++ extra →
      Tab.wfWith .initial s.programs = true →
      let e := s.program p
      let clearing : Prop := ∃ j ∈ s.tmc.clears, j.program = p
      (32 ≤ p → refused .loadClear .range) ∧
      (p < 32 →
        (e.status ≠ .loading → refused .loadClear .state) ∧
        (e.status = .loading → clearing → refused .loadClear .busy) ∧
        (e.status = .loading → ¬clearing → s.mgmt.window ≠ .closed → refused .loadClear .state) ∧
        (e.status = .loading → ¬clearing → s.mgmt.window = .closed → 0 < e.openHolds → refused .loadClear .holdsOpen) ∧
        (e.status = .loading → ¬clearing → s.mgmt.window = .closed → e.openHolds = 0 →
          ∃ t : State, exec .loadClear s = .next ({ t with central := s.unqueued.central }.inFlight c) ∧
            t = { s with
                  programs := t.programs
                  tmc :=
                    { s.tmc with
                      clears := s.tmc.clears ++
                        [{ program := p, tag := c.tag, base := e.settings.tableBase, count := e.settings.serialCount,
                           queued := 0, completed := 0 }] } } ∧
            t.program p = { e with initialised := false } ∧ ∀ n, n ≠ p → t.program n = s.program n)))

/-- CACHE FLUSH, PACE SET and ENGINE RESET (R133, R163, R178): every valid way that is not pinned becomes invalid, and
the answer counts them; the settings as clamped become the staged settings of each link named, and the active ones of a
pacer in IDLE; an engine reset is caused, its DONE answer handed first. -/
def Obligations.FlushPaceAndResetCommands : Prop :=
  ∀ (s : State) (c : MgmtCommand) (extra : List Byte),
    (admits s 0x2C c = true → Tab.wfWith .empty s.cache = true →
      let flushes (v : Way) : Bool := v.valid && !v.pinned
      ∃ t : State,
        exec .cacheFlush s =
          .next
            (t.answering c
              (.done
                (leBytes 2
                  (s.cache.map fun e => [e.2.way0, e.2.way1, e.2.way2, e.2.way3].countP flushes).sum))) ∧
        t = { s with cache := t.cache } ∧ (∀ n, (t.cacheSet n).pointer = (s.cacheSet n).pointer) ∧
        ∀ card w,
          (flushes (s.wayAt card w) = true → (t.wayAt card w).valid = false ∧ (t.wayAt card w).pinned = false) ∧
          (flushes (s.wayAt card w) = false → t.wayAt card w = s.wayAt card w)) ∧
    (∀ choice high low pause gap count : Nat, admits s 0x2D c = true → choice < 256 → high < 256 → low < 256 →
      pause < 256 → gap < 256 → count < 256 →
      c.fields =
        leBytes 1 choice ++ leBytes 1 high ++ leBytes 1 low ++ leBytes 1 pause ++ leBytes 1 gap ++ leBytes 1 count ++ extra →
      (4 < choice → exec .paceSet s = .next (s.answering c (.refused .range))) ∧
      (choice ≤ 4 →
        let mark := max 2 (min high 64)
        let applied : PacerSettings :=
          { highMark := mark, lowMark := min (max 1 (min low 63)) (mark - 1), pauseTime := max 1 pause,
            gapTime := max 1 gap, pauseCount := min count 15 }
        ∃ t : State,
          exec .paceSet s =
            .next
              (t.answering c
                (.done
                  (leBytes 1 applied.highMark ++ leBytes 1 applied.lowMark ++ leBytes 1 applied.pauseTime
                    ++ leBytes 1 applied.gapTime ++ leBytes 1 applied.pauseCount))) ∧
          t = { s with stores := t.stores } ∧
          ∀ l,
            let u := s.storeUnit l
            let named : Prop := choice = 4 ∨ choice = storeLinkCode l
            (named →
              t.storeUnit l =
                { u with
                  pacer :=
                    { u.pacer with
                      staged := applied, active := if u.pacer.state = .idle then applied else u.pacer.active } }) ∧
            (¬named → t.storeUnit l = u))) ∧
    (admits s 0x2E c = true →
      exec .engineReset s = .next { s.answering c (.done []) with resetPending := true })

/-! ## What every step keeps -/

/-- EVERY STEP KEEPS THE LIMITS that WithinLimits names: the canonical form of the tables; the sizes of the Busy Card
List, its waiting lists and outstanding writes, the intake queues, the FIFO, the blocked set and the quarantine list;
the ranges of the error and drop counts, the journal's counts, the timebase, the day, the watch timeout and hit counts,
the access level, the return size, and the pacers' settings and pauses sent (R23, R25, R26, R68, R95, R116, R119, R134,
R136, R142, R143, R153, R161 to R163, R166, R168, R169). It says nothing of the contents of card records, nor of the
settings and keys of the programs, nor of the keys of the hold slots, the card records and the ring. -/
def Obligations.EveryStepKeepsTheLimits : Prop :=
  ∀ s t : State, WithinLimits s → step s = .next t → WithinLimits t

/-- EVERY STEP KEEPS THE HOLD LISTS, THE PROGRAMS APART AND THE HOLDS COUNTED (R6, R10, R71, R73, R74): each hold slot is
on the list its state says, in its order; the programs that are not OFF share no prefix and no card index; and where each
program's open holds count is the number of OPEN and LAPSE_DUE slots whose program it is, it stays so. -/
def Obligations.EveryStepKeepsHoldListsAndProgramsApart : Prop :=
  ∀ s t : State, HoldLists s → ProgramsApart s → step s = .next t →
    HoldLists t ∧ ProgramsApart t ∧ (HoldsCounted s → HoldsCounted t)

/-- The state after reset stands within every limit, with every hold slot free, no hold counted and no program open. -/
def Obligations.TheInvariantsHoldAtReset : Prop :=
  WithinLimits State.reset ∧ HoldLists State.reset ∧ ProgramsApart State.reset ∧ HoldsCounted State.reset
end

