-- ==== Sys2Proof/Laws/State.lean ====
section
/-!
SUPPORT. What each update of a state field does to each field: one lemma per field per update, true by `rfl`.
-/

namespace Sys2Proof.Machine

@[simp] theorem State.withPending_pending (s : State) (v : List Instr) : (s.withPending v).pending = v := rfl
@[simp] theorem State.withPending_resetN (s : State) (v : List Instr) : (s.withPending v).resetN = s.resetN := rfl
@[simp] theorem State.withPending_tblen (s : State) (v : List Instr) : (s.withPending v).tblen = s.tblen := rfl
@[simp] theorem State.withPending_resetPending (s : State) (v : List Instr) : (s.withPending v).resetPending = s.resetPending := rfl
@[simp] theorem State.withPending_stores (s : State) (v : List Instr) : (s.withPending v).stores = s.stores := rfl
@[simp] theorem State.withPending_central (s : State) (v : List Instr) : (s.withPending v).central = s.central := rfl
@[simp] theorem State.withPending_dispatcher (s : State) (v : List Instr) : (s.withPending v).dispatcher = s.dispatcher := rfl
@[simp] theorem State.withPending_busy (s : State) (v : List Instr) : (s.withPending v).busy = s.busy := rfl
@[simp] theorem State.withPending_programs (s : State) (v : List Instr) : (s.withPending v).programs = s.programs := rfl
@[simp] theorem State.withPending_promotions (s : State) (v : List Instr) : (s.withPending v).promotions = s.promotions := rfl
@[simp] theorem State.withPending_slots (s : State) (v : List Instr) : (s.withPending v).slots = s.slots := rfl
@[simp] theorem State.withPending_freeList (s : State) (v : List Instr) : (s.withPending v).freeList = s.freeList := rfl
@[simp] theorem State.withPending_expiryList (s : State) (v : List Instr) : (s.withPending v).expiryList = s.expiryList := rfl
@[simp] theorem State.withPending_time (s : State) (v : List Instr) : (s.withPending v).time = s.time := rfl
@[simp] theorem State.withPending_cache (s : State) (v : List Instr) : (s.withPending v).cache = s.cache := rfl
@[simp] theorem State.withPending_tmc (s : State) (v : List Instr) : (s.withPending v).tmc = s.tmc := rfl
@[simp] theorem State.withPending_cards (s : State) (v : List Instr) : (s.withPending v).cards = s.cards := rfl
@[simp] theorem State.withPending_ring (s : State) (v : List Instr) : (s.withPending v).ring = s.ring := rfl
@[simp] theorem State.withPending_journal (s : State) (v : List Instr) : (s.withPending v).journal = s.journal := rfl
@[simp] theorem State.withPending_watch (s : State) (v : List Instr) : (s.withPending v).watch = s.watch := rfl
@[simp] theorem State.withPending_mgmt (s : State) (v : List Instr) : (s.withPending v).mgmt = s.mgmt := rfl
@[simp] theorem State.withPending_powerOns (s : State) (v : List Instr) : (s.withPending v).powerOns = s.powerOns := rfl

@[simp] theorem State.withResetN_pending (s : State) (v : Bool) : (s.withResetN v).pending = s.pending := rfl
@[simp] theorem State.withResetN_resetN (s : State) (v : Bool) : (s.withResetN v).resetN = v := rfl
@[simp] theorem State.withResetN_tblen (s : State) (v : Bool) : (s.withResetN v).tblen = s.tblen := rfl
@[simp] theorem State.withResetN_resetPending (s : State) (v : Bool) : (s.withResetN v).resetPending = s.resetPending := rfl
@[simp] theorem State.withResetN_stores (s : State) (v : Bool) : (s.withResetN v).stores = s.stores := rfl
@[simp] theorem State.withResetN_central (s : State) (v : Bool) : (s.withResetN v).central = s.central := rfl
@[simp] theorem State.withResetN_dispatcher (s : State) (v : Bool) : (s.withResetN v).dispatcher = s.dispatcher := rfl
@[simp] theorem State.withResetN_busy (s : State) (v : Bool) : (s.withResetN v).busy = s.busy := rfl
@[simp] theorem State.withResetN_programs (s : State) (v : Bool) : (s.withResetN v).programs = s.programs := rfl
@[simp] theorem State.withResetN_promotions (s : State) (v : Bool) : (s.withResetN v).promotions = s.promotions := rfl
@[simp] theorem State.withResetN_slots (s : State) (v : Bool) : (s.withResetN v).slots = s.slots := rfl
@[simp] theorem State.withResetN_freeList (s : State) (v : Bool) : (s.withResetN v).freeList = s.freeList := rfl
@[simp] theorem State.withResetN_expiryList (s : State) (v : Bool) : (s.withResetN v).expiryList = s.expiryList := rfl
@[simp] theorem State.withResetN_time (s : State) (v : Bool) : (s.withResetN v).time = s.time := rfl
@[simp] theorem State.withResetN_cache (s : State) (v : Bool) : (s.withResetN v).cache = s.cache := rfl
@[simp] theorem State.withResetN_tmc (s : State) (v : Bool) : (s.withResetN v).tmc = s.tmc := rfl
@[simp] theorem State.withResetN_cards (s : State) (v : Bool) : (s.withResetN v).cards = s.cards := rfl
@[simp] theorem State.withResetN_ring (s : State) (v : Bool) : (s.withResetN v).ring = s.ring := rfl
@[simp] theorem State.withResetN_journal (s : State) (v : Bool) : (s.withResetN v).journal = s.journal := rfl
@[simp] theorem State.withResetN_watch (s : State) (v : Bool) : (s.withResetN v).watch = s.watch := rfl
@[simp] theorem State.withResetN_mgmt (s : State) (v : Bool) : (s.withResetN v).mgmt = s.mgmt := rfl
@[simp] theorem State.withResetN_powerOns (s : State) (v : Bool) : (s.withResetN v).powerOns = s.powerOns := rfl

@[simp] theorem State.withTblen_pending (s : State) (v : Bool) : (s.withTblen v).pending = s.pending := rfl
@[simp] theorem State.withTblen_resetN (s : State) (v : Bool) : (s.withTblen v).resetN = s.resetN := rfl
@[simp] theorem State.withTblen_tblen (s : State) (v : Bool) : (s.withTblen v).tblen = v := rfl
@[simp] theorem State.withTblen_resetPending (s : State) (v : Bool) : (s.withTblen v).resetPending = s.resetPending := rfl
@[simp] theorem State.withTblen_stores (s : State) (v : Bool) : (s.withTblen v).stores = s.stores := rfl
@[simp] theorem State.withTblen_central (s : State) (v : Bool) : (s.withTblen v).central = s.central := rfl
@[simp] theorem State.withTblen_dispatcher (s : State) (v : Bool) : (s.withTblen v).dispatcher = s.dispatcher := rfl
@[simp] theorem State.withTblen_busy (s : State) (v : Bool) : (s.withTblen v).busy = s.busy := rfl
@[simp] theorem State.withTblen_programs (s : State) (v : Bool) : (s.withTblen v).programs = s.programs := rfl
@[simp] theorem State.withTblen_promotions (s : State) (v : Bool) : (s.withTblen v).promotions = s.promotions := rfl
@[simp] theorem State.withTblen_slots (s : State) (v : Bool) : (s.withTblen v).slots = s.slots := rfl
@[simp] theorem State.withTblen_freeList (s : State) (v : Bool) : (s.withTblen v).freeList = s.freeList := rfl
@[simp] theorem State.withTblen_expiryList (s : State) (v : Bool) : (s.withTblen v).expiryList = s.expiryList := rfl
@[simp] theorem State.withTblen_time (s : State) (v : Bool) : (s.withTblen v).time = s.time := rfl
@[simp] theorem State.withTblen_cache (s : State) (v : Bool) : (s.withTblen v).cache = s.cache := rfl
@[simp] theorem State.withTblen_tmc (s : State) (v : Bool) : (s.withTblen v).tmc = s.tmc := rfl
@[simp] theorem State.withTblen_cards (s : State) (v : Bool) : (s.withTblen v).cards = s.cards := rfl
@[simp] theorem State.withTblen_ring (s : State) (v : Bool) : (s.withTblen v).ring = s.ring := rfl
@[simp] theorem State.withTblen_journal (s : State) (v : Bool) : (s.withTblen v).journal = s.journal := rfl
@[simp] theorem State.withTblen_watch (s : State) (v : Bool) : (s.withTblen v).watch = s.watch := rfl
@[simp] theorem State.withTblen_mgmt (s : State) (v : Bool) : (s.withTblen v).mgmt = s.mgmt := rfl
@[simp] theorem State.withTblen_powerOns (s : State) (v : Bool) : (s.withTblen v).powerOns = s.powerOns := rfl

@[simp] theorem State.withResetPending_pending (s : State) (v : Bool) : (s.withResetPending v).pending = s.pending := rfl
@[simp] theorem State.withResetPending_resetN (s : State) (v : Bool) : (s.withResetPending v).resetN = s.resetN := rfl
@[simp] theorem State.withResetPending_tblen (s : State) (v : Bool) : (s.withResetPending v).tblen = s.tblen := rfl
@[simp] theorem State.withResetPending_resetPending (s : State) (v : Bool) : (s.withResetPending v).resetPending = v := rfl
@[simp] theorem State.withResetPending_stores (s : State) (v : Bool) : (s.withResetPending v).stores = s.stores := rfl
@[simp] theorem State.withResetPending_central (s : State) (v : Bool) : (s.withResetPending v).central = s.central := rfl
@[simp] theorem State.withResetPending_dispatcher (s : State) (v : Bool) : (s.withResetPending v).dispatcher = s.dispatcher := rfl
@[simp] theorem State.withResetPending_busy (s : State) (v : Bool) : (s.withResetPending v).busy = s.busy := rfl
@[simp] theorem State.withResetPending_programs (s : State) (v : Bool) : (s.withResetPending v).programs = s.programs := rfl
@[simp] theorem State.withResetPending_promotions (s : State) (v : Bool) : (s.withResetPending v).promotions = s.promotions := rfl
@[simp] theorem State.withResetPending_slots (s : State) (v : Bool) : (s.withResetPending v).slots = s.slots := rfl
@[simp] theorem State.withResetPending_freeList (s : State) (v : Bool) : (s.withResetPending v).freeList = s.freeList := rfl
@[simp] theorem State.withResetPending_expiryList (s : State) (v : Bool) : (s.withResetPending v).expiryList = s.expiryList := rfl
@[simp] theorem State.withResetPending_time (s : State) (v : Bool) : (s.withResetPending v).time = s.time := rfl
@[simp] theorem State.withResetPending_cache (s : State) (v : Bool) : (s.withResetPending v).cache = s.cache := rfl
@[simp] theorem State.withResetPending_tmc (s : State) (v : Bool) : (s.withResetPending v).tmc = s.tmc := rfl
@[simp] theorem State.withResetPending_cards (s : State) (v : Bool) : (s.withResetPending v).cards = s.cards := rfl
@[simp] theorem State.withResetPending_ring (s : State) (v : Bool) : (s.withResetPending v).ring = s.ring := rfl
@[simp] theorem State.withResetPending_journal (s : State) (v : Bool) : (s.withResetPending v).journal = s.journal := rfl
@[simp] theorem State.withResetPending_watch (s : State) (v : Bool) : (s.withResetPending v).watch = s.watch := rfl
@[simp] theorem State.withResetPending_mgmt (s : State) (v : Bool) : (s.withResetPending v).mgmt = s.mgmt := rfl
@[simp] theorem State.withResetPending_powerOns (s : State) (v : Bool) : (s.withResetPending v).powerOns = s.powerOns := rfl

@[simp] theorem State.withStores_pending (s : State) (v : StoreUnits) : (s.withStores v).pending = s.pending := rfl
@[simp] theorem State.withStores_resetN (s : State) (v : StoreUnits) : (s.withStores v).resetN = s.resetN := rfl
@[simp] theorem State.withStores_tblen (s : State) (v : StoreUnits) : (s.withStores v).tblen = s.tblen := rfl
@[simp] theorem State.withStores_resetPending (s : State) (v : StoreUnits) : (s.withStores v).resetPending = s.resetPending := rfl
@[simp] theorem State.withStores_stores (s : State) (v : StoreUnits) : (s.withStores v).stores = v := rfl
@[simp] theorem State.withStores_central (s : State) (v : StoreUnits) : (s.withStores v).central = s.central := rfl
@[simp] theorem State.withStores_dispatcher (s : State) (v : StoreUnits) : (s.withStores v).dispatcher = s.dispatcher := rfl
@[simp] theorem State.withStores_busy (s : State) (v : StoreUnits) : (s.withStores v).busy = s.busy := rfl
@[simp] theorem State.withStores_programs (s : State) (v : StoreUnits) : (s.withStores v).programs = s.programs := rfl
@[simp] theorem State.withStores_promotions (s : State) (v : StoreUnits) : (s.withStores v).promotions = s.promotions := rfl
@[simp] theorem State.withStores_slots (s : State) (v : StoreUnits) : (s.withStores v).slots = s.slots := rfl
@[simp] theorem State.withStores_freeList (s : State) (v : StoreUnits) : (s.withStores v).freeList = s.freeList := rfl
@[simp] theorem State.withStores_expiryList (s : State) (v : StoreUnits) : (s.withStores v).expiryList = s.expiryList := rfl
@[simp] theorem State.withStores_time (s : State) (v : StoreUnits) : (s.withStores v).time = s.time := rfl
@[simp] theorem State.withStores_cache (s : State) (v : StoreUnits) : (s.withStores v).cache = s.cache := rfl
@[simp] theorem State.withStores_tmc (s : State) (v : StoreUnits) : (s.withStores v).tmc = s.tmc := rfl
@[simp] theorem State.withStores_cards (s : State) (v : StoreUnits) : (s.withStores v).cards = s.cards := rfl
@[simp] theorem State.withStores_ring (s : State) (v : StoreUnits) : (s.withStores v).ring = s.ring := rfl
@[simp] theorem State.withStores_journal (s : State) (v : StoreUnits) : (s.withStores v).journal = s.journal := rfl
@[simp] theorem State.withStores_watch (s : State) (v : StoreUnits) : (s.withStores v).watch = s.watch := rfl
@[simp] theorem State.withStores_mgmt (s : State) (v : StoreUnits) : (s.withStores v).mgmt = s.mgmt := rfl
@[simp] theorem State.withStores_powerOns (s : State) (v : StoreUnits) : (s.withStores v).powerOns = s.powerOns := rfl

@[simp] theorem State.withCentral_pending (s : State) (v : CentralUnit) : (s.withCentral v).pending = s.pending := rfl
@[simp] theorem State.withCentral_resetN (s : State) (v : CentralUnit) : (s.withCentral v).resetN = s.resetN := rfl
@[simp] theorem State.withCentral_tblen (s : State) (v : CentralUnit) : (s.withCentral v).tblen = s.tblen := rfl
@[simp] theorem State.withCentral_resetPending (s : State) (v : CentralUnit) : (s.withCentral v).resetPending = s.resetPending := rfl
@[simp] theorem State.withCentral_stores (s : State) (v : CentralUnit) : (s.withCentral v).stores = s.stores := rfl
@[simp] theorem State.withCentral_central (s : State) (v : CentralUnit) : (s.withCentral v).central = v := rfl
@[simp] theorem State.withCentral_dispatcher (s : State) (v : CentralUnit) : (s.withCentral v).dispatcher = s.dispatcher := rfl
@[simp] theorem State.withCentral_busy (s : State) (v : CentralUnit) : (s.withCentral v).busy = s.busy := rfl
@[simp] theorem State.withCentral_programs (s : State) (v : CentralUnit) : (s.withCentral v).programs = s.programs := rfl
@[simp] theorem State.withCentral_promotions (s : State) (v : CentralUnit) : (s.withCentral v).promotions = s.promotions := rfl
@[simp] theorem State.withCentral_slots (s : State) (v : CentralUnit) : (s.withCentral v).slots = s.slots := rfl
@[simp] theorem State.withCentral_freeList (s : State) (v : CentralUnit) : (s.withCentral v).freeList = s.freeList := rfl
@[simp] theorem State.withCentral_expiryList (s : State) (v : CentralUnit) : (s.withCentral v).expiryList = s.expiryList := rfl
@[simp] theorem State.withCentral_time (s : State) (v : CentralUnit) : (s.withCentral v).time = s.time := rfl
@[simp] theorem State.withCentral_cache (s : State) (v : CentralUnit) : (s.withCentral v).cache = s.cache := rfl
@[simp] theorem State.withCentral_tmc (s : State) (v : CentralUnit) : (s.withCentral v).tmc = s.tmc := rfl
@[simp] theorem State.withCentral_cards (s : State) (v : CentralUnit) : (s.withCentral v).cards = s.cards := rfl
@[simp] theorem State.withCentral_ring (s : State) (v : CentralUnit) : (s.withCentral v).ring = s.ring := rfl
@[simp] theorem State.withCentral_journal (s : State) (v : CentralUnit) : (s.withCentral v).journal = s.journal := rfl
@[simp] theorem State.withCentral_watch (s : State) (v : CentralUnit) : (s.withCentral v).watch = s.watch := rfl
@[simp] theorem State.withCentral_mgmt (s : State) (v : CentralUnit) : (s.withCentral v).mgmt = s.mgmt := rfl
@[simp] theorem State.withCentral_powerOns (s : State) (v : CentralUnit) : (s.withCentral v).powerOns = s.powerOns := rfl

@[simp] theorem State.withDispatcher_pending (s : State) (v : Dispatcher) : (s.withDispatcher v).pending = s.pending := rfl
@[simp] theorem State.withDispatcher_resetN (s : State) (v : Dispatcher) : (s.withDispatcher v).resetN = s.resetN := rfl
@[simp] theorem State.withDispatcher_tblen (s : State) (v : Dispatcher) : (s.withDispatcher v).tblen = s.tblen := rfl
@[simp] theorem State.withDispatcher_resetPending (s : State) (v : Dispatcher) : (s.withDispatcher v).resetPending = s.resetPending := rfl
@[simp] theorem State.withDispatcher_stores (s : State) (v : Dispatcher) : (s.withDispatcher v).stores = s.stores := rfl
@[simp] theorem State.withDispatcher_central (s : State) (v : Dispatcher) : (s.withDispatcher v).central = s.central := rfl
@[simp] theorem State.withDispatcher_dispatcher (s : State) (v : Dispatcher) : (s.withDispatcher v).dispatcher = v := rfl
@[simp] theorem State.withDispatcher_busy (s : State) (v : Dispatcher) : (s.withDispatcher v).busy = s.busy := rfl
@[simp] theorem State.withDispatcher_programs (s : State) (v : Dispatcher) : (s.withDispatcher v).programs = s.programs := rfl
@[simp] theorem State.withDispatcher_promotions (s : State) (v : Dispatcher) : (s.withDispatcher v).promotions = s.promotions := rfl
@[simp] theorem State.withDispatcher_slots (s : State) (v : Dispatcher) : (s.withDispatcher v).slots = s.slots := rfl
@[simp] theorem State.withDispatcher_freeList (s : State) (v : Dispatcher) : (s.withDispatcher v).freeList = s.freeList := rfl
@[simp] theorem State.withDispatcher_expiryList (s : State) (v : Dispatcher) : (s.withDispatcher v).expiryList = s.expiryList := rfl
@[simp] theorem State.withDispatcher_time (s : State) (v : Dispatcher) : (s.withDispatcher v).time = s.time := rfl
@[simp] theorem State.withDispatcher_cache (s : State) (v : Dispatcher) : (s.withDispatcher v).cache = s.cache := rfl
@[simp] theorem State.withDispatcher_tmc (s : State) (v : Dispatcher) : (s.withDispatcher v).tmc = s.tmc := rfl
@[simp] theorem State.withDispatcher_cards (s : State) (v : Dispatcher) : (s.withDispatcher v).cards = s.cards := rfl
@[simp] theorem State.withDispatcher_ring (s : State) (v : Dispatcher) : (s.withDispatcher v).ring = s.ring := rfl
@[simp] theorem State.withDispatcher_journal (s : State) (v : Dispatcher) : (s.withDispatcher v).journal = s.journal := rfl
@[simp] theorem State.withDispatcher_watch (s : State) (v : Dispatcher) : (s.withDispatcher v).watch = s.watch := rfl
@[simp] theorem State.withDispatcher_mgmt (s : State) (v : Dispatcher) : (s.withDispatcher v).mgmt = s.mgmt := rfl
@[simp] theorem State.withDispatcher_powerOns (s : State) (v : Dispatcher) : (s.withDispatcher v).powerOns = s.powerOns := rfl

@[simp] theorem State.withBusy_pending (s : State) (v : List BusyEntry) : (s.withBusy v).pending = s.pending := rfl
@[simp] theorem State.withBusy_resetN (s : State) (v : List BusyEntry) : (s.withBusy v).resetN = s.resetN := rfl
@[simp] theorem State.withBusy_tblen (s : State) (v : List BusyEntry) : (s.withBusy v).tblen = s.tblen := rfl
@[simp] theorem State.withBusy_resetPending (s : State) (v : List BusyEntry) : (s.withBusy v).resetPending = s.resetPending := rfl
@[simp] theorem State.withBusy_stores (s : State) (v : List BusyEntry) : (s.withBusy v).stores = s.stores := rfl
@[simp] theorem State.withBusy_central (s : State) (v : List BusyEntry) : (s.withBusy v).central = s.central := rfl
@[simp] theorem State.withBusy_dispatcher (s : State) (v : List BusyEntry) : (s.withBusy v).dispatcher = s.dispatcher := rfl
@[simp] theorem State.withBusy_busy (s : State) (v : List BusyEntry) : (s.withBusy v).busy = v := rfl
@[simp] theorem State.withBusy_programs (s : State) (v : List BusyEntry) : (s.withBusy v).programs = s.programs := rfl
@[simp] theorem State.withBusy_promotions (s : State) (v : List BusyEntry) : (s.withBusy v).promotions = s.promotions := rfl
@[simp] theorem State.withBusy_slots (s : State) (v : List BusyEntry) : (s.withBusy v).slots = s.slots := rfl
@[simp] theorem State.withBusy_freeList (s : State) (v : List BusyEntry) : (s.withBusy v).freeList = s.freeList := rfl
@[simp] theorem State.withBusy_expiryList (s : State) (v : List BusyEntry) : (s.withBusy v).expiryList = s.expiryList := rfl
@[simp] theorem State.withBusy_time (s : State) (v : List BusyEntry) : (s.withBusy v).time = s.time := rfl
@[simp] theorem State.withBusy_cache (s : State) (v : List BusyEntry) : (s.withBusy v).cache = s.cache := rfl
@[simp] theorem State.withBusy_tmc (s : State) (v : List BusyEntry) : (s.withBusy v).tmc = s.tmc := rfl
@[simp] theorem State.withBusy_cards (s : State) (v : List BusyEntry) : (s.withBusy v).cards = s.cards := rfl
@[simp] theorem State.withBusy_ring (s : State) (v : List BusyEntry) : (s.withBusy v).ring = s.ring := rfl
@[simp] theorem State.withBusy_journal (s : State) (v : List BusyEntry) : (s.withBusy v).journal = s.journal := rfl
@[simp] theorem State.withBusy_watch (s : State) (v : List BusyEntry) : (s.withBusy v).watch = s.watch := rfl
@[simp] theorem State.withBusy_mgmt (s : State) (v : List BusyEntry) : (s.withBusy v).mgmt = s.mgmt := rfl
@[simp] theorem State.withBusy_powerOns (s : State) (v : List BusyEntry) : (s.withBusy v).powerOns = s.powerOns := rfl

@[simp] theorem State.withPrograms_pending (s : State) (v : Tab ProgramEntry) : (s.withPrograms v).pending = s.pending := rfl
@[simp] theorem State.withPrograms_resetN (s : State) (v : Tab ProgramEntry) : (s.withPrograms v).resetN = s.resetN := rfl
@[simp] theorem State.withPrograms_tblen (s : State) (v : Tab ProgramEntry) : (s.withPrograms v).tblen = s.tblen := rfl
@[simp] theorem State.withPrograms_resetPending (s : State) (v : Tab ProgramEntry) : (s.withPrograms v).resetPending = s.resetPending := rfl
@[simp] theorem State.withPrograms_stores (s : State) (v : Tab ProgramEntry) : (s.withPrograms v).stores = s.stores := rfl
@[simp] theorem State.withPrograms_central (s : State) (v : Tab ProgramEntry) : (s.withPrograms v).central = s.central := rfl
@[simp] theorem State.withPrograms_dispatcher (s : State) (v : Tab ProgramEntry) : (s.withPrograms v).dispatcher = s.dispatcher := rfl
@[simp] theorem State.withPrograms_busy (s : State) (v : Tab ProgramEntry) : (s.withPrograms v).busy = s.busy := rfl
@[simp] theorem State.withPrograms_programs (s : State) (v : Tab ProgramEntry) : (s.withPrograms v).programs = v := rfl
@[simp] theorem State.withPrograms_promotions (s : State) (v : Tab ProgramEntry) : (s.withPrograms v).promotions = s.promotions := rfl
@[simp] theorem State.withPrograms_slots (s : State) (v : Tab ProgramEntry) : (s.withPrograms v).slots = s.slots := rfl
@[simp] theorem State.withPrograms_freeList (s : State) (v : Tab ProgramEntry) : (s.withPrograms v).freeList = s.freeList := rfl
@[simp] theorem State.withPrograms_expiryList (s : State) (v : Tab ProgramEntry) : (s.withPrograms v).expiryList = s.expiryList := rfl
@[simp] theorem State.withPrograms_time (s : State) (v : Tab ProgramEntry) : (s.withPrograms v).time = s.time := rfl
@[simp] theorem State.withPrograms_cache (s : State) (v : Tab ProgramEntry) : (s.withPrograms v).cache = s.cache := rfl
@[simp] theorem State.withPrograms_tmc (s : State) (v : Tab ProgramEntry) : (s.withPrograms v).tmc = s.tmc := rfl
@[simp] theorem State.withPrograms_cards (s : State) (v : Tab ProgramEntry) : (s.withPrograms v).cards = s.cards := rfl
@[simp] theorem State.withPrograms_ring (s : State) (v : Tab ProgramEntry) : (s.withPrograms v).ring = s.ring := rfl
@[simp] theorem State.withPrograms_journal (s : State) (v : Tab ProgramEntry) : (s.withPrograms v).journal = s.journal := rfl
@[simp] theorem State.withPrograms_watch (s : State) (v : Tab ProgramEntry) : (s.withPrograms v).watch = s.watch := rfl
@[simp] theorem State.withPrograms_mgmt (s : State) (v : Tab ProgramEntry) : (s.withPrograms v).mgmt = s.mgmt := rfl
@[simp] theorem State.withPrograms_powerOns (s : State) (v : Tab ProgramEntry) : (s.withPrograms v).powerOns = s.powerOns := rfl

@[simp] theorem State.withPromotions_pending (s : State) (v : Tab Promotion) : (s.withPromotions v).pending = s.pending := rfl
@[simp] theorem State.withPromotions_resetN (s : State) (v : Tab Promotion) : (s.withPromotions v).resetN = s.resetN := rfl
@[simp] theorem State.withPromotions_tblen (s : State) (v : Tab Promotion) : (s.withPromotions v).tblen = s.tblen := rfl
@[simp] theorem State.withPromotions_resetPending (s : State) (v : Tab Promotion) : (s.withPromotions v).resetPending = s.resetPending := rfl
@[simp] theorem State.withPromotions_stores (s : State) (v : Tab Promotion) : (s.withPromotions v).stores = s.stores := rfl
@[simp] theorem State.withPromotions_central (s : State) (v : Tab Promotion) : (s.withPromotions v).central = s.central := rfl
@[simp] theorem State.withPromotions_dispatcher (s : State) (v : Tab Promotion) : (s.withPromotions v).dispatcher = s.dispatcher := rfl
@[simp] theorem State.withPromotions_busy (s : State) (v : Tab Promotion) : (s.withPromotions v).busy = s.busy := rfl
@[simp] theorem State.withPromotions_programs (s : State) (v : Tab Promotion) : (s.withPromotions v).programs = s.programs := rfl
@[simp] theorem State.withPromotions_promotions (s : State) (v : Tab Promotion) : (s.withPromotions v).promotions = v := rfl
@[simp] theorem State.withPromotions_slots (s : State) (v : Tab Promotion) : (s.withPromotions v).slots = s.slots := rfl
@[simp] theorem State.withPromotions_freeList (s : State) (v : Tab Promotion) : (s.withPromotions v).freeList = s.freeList := rfl
@[simp] theorem State.withPromotions_expiryList (s : State) (v : Tab Promotion) : (s.withPromotions v).expiryList = s.expiryList := rfl
@[simp] theorem State.withPromotions_time (s : State) (v : Tab Promotion) : (s.withPromotions v).time = s.time := rfl
@[simp] theorem State.withPromotions_cache (s : State) (v : Tab Promotion) : (s.withPromotions v).cache = s.cache := rfl
@[simp] theorem State.withPromotions_tmc (s : State) (v : Tab Promotion) : (s.withPromotions v).tmc = s.tmc := rfl
@[simp] theorem State.withPromotions_cards (s : State) (v : Tab Promotion) : (s.withPromotions v).cards = s.cards := rfl
@[simp] theorem State.withPromotions_ring (s : State) (v : Tab Promotion) : (s.withPromotions v).ring = s.ring := rfl
@[simp] theorem State.withPromotions_journal (s : State) (v : Tab Promotion) : (s.withPromotions v).journal = s.journal := rfl
@[simp] theorem State.withPromotions_watch (s : State) (v : Tab Promotion) : (s.withPromotions v).watch = s.watch := rfl
@[simp] theorem State.withPromotions_mgmt (s : State) (v : Tab Promotion) : (s.withPromotions v).mgmt = s.mgmt := rfl
@[simp] theorem State.withPromotions_powerOns (s : State) (v : Tab Promotion) : (s.withPromotions v).powerOns = s.powerOns := rfl

@[simp] theorem State.withSlots_pending (s : State) (v : Tab HoldSlot) : (s.withSlots v).pending = s.pending := rfl
@[simp] theorem State.withSlots_resetN (s : State) (v : Tab HoldSlot) : (s.withSlots v).resetN = s.resetN := rfl
@[simp] theorem State.withSlots_tblen (s : State) (v : Tab HoldSlot) : (s.withSlots v).tblen = s.tblen := rfl
@[simp] theorem State.withSlots_resetPending (s : State) (v : Tab HoldSlot) : (s.withSlots v).resetPending = s.resetPending := rfl
@[simp] theorem State.withSlots_stores (s : State) (v : Tab HoldSlot) : (s.withSlots v).stores = s.stores := rfl
@[simp] theorem State.withSlots_central (s : State) (v : Tab HoldSlot) : (s.withSlots v).central = s.central := rfl
@[simp] theorem State.withSlots_dispatcher (s : State) (v : Tab HoldSlot) : (s.withSlots v).dispatcher = s.dispatcher := rfl
@[simp] theorem State.withSlots_busy (s : State) (v : Tab HoldSlot) : (s.withSlots v).busy = s.busy := rfl
@[simp] theorem State.withSlots_programs (s : State) (v : Tab HoldSlot) : (s.withSlots v).programs = s.programs := rfl
@[simp] theorem State.withSlots_promotions (s : State) (v : Tab HoldSlot) : (s.withSlots v).promotions = s.promotions := rfl
@[simp] theorem State.withSlots_slots (s : State) (v : Tab HoldSlot) : (s.withSlots v).slots = v := rfl
@[simp] theorem State.withSlots_freeList (s : State) (v : Tab HoldSlot) : (s.withSlots v).freeList = s.freeList := rfl
@[simp] theorem State.withSlots_expiryList (s : State) (v : Tab HoldSlot) : (s.withSlots v).expiryList = s.expiryList := rfl
@[simp] theorem State.withSlots_time (s : State) (v : Tab HoldSlot) : (s.withSlots v).time = s.time := rfl
@[simp] theorem State.withSlots_cache (s : State) (v : Tab HoldSlot) : (s.withSlots v).cache = s.cache := rfl
@[simp] theorem State.withSlots_tmc (s : State) (v : Tab HoldSlot) : (s.withSlots v).tmc = s.tmc := rfl
@[simp] theorem State.withSlots_cards (s : State) (v : Tab HoldSlot) : (s.withSlots v).cards = s.cards := rfl
@[simp] theorem State.withSlots_ring (s : State) (v : Tab HoldSlot) : (s.withSlots v).ring = s.ring := rfl
@[simp] theorem State.withSlots_journal (s : State) (v : Tab HoldSlot) : (s.withSlots v).journal = s.journal := rfl
@[simp] theorem State.withSlots_watch (s : State) (v : Tab HoldSlot) : (s.withSlots v).watch = s.watch := rfl
@[simp] theorem State.withSlots_mgmt (s : State) (v : Tab HoldSlot) : (s.withSlots v).mgmt = s.mgmt := rfl
@[simp] theorem State.withSlots_powerOns (s : State) (v : Tab HoldSlot) : (s.withSlots v).powerOns = s.powerOns := rfl

@[simp] theorem State.withFreeList_pending (s : State) (v : List Nat) : (s.withFreeList v).pending = s.pending := rfl
@[simp] theorem State.withFreeList_resetN (s : State) (v : List Nat) : (s.withFreeList v).resetN = s.resetN := rfl
@[simp] theorem State.withFreeList_tblen (s : State) (v : List Nat) : (s.withFreeList v).tblen = s.tblen := rfl
@[simp] theorem State.withFreeList_resetPending (s : State) (v : List Nat) : (s.withFreeList v).resetPending = s.resetPending := rfl
@[simp] theorem State.withFreeList_stores (s : State) (v : List Nat) : (s.withFreeList v).stores = s.stores := rfl
@[simp] theorem State.withFreeList_central (s : State) (v : List Nat) : (s.withFreeList v).central = s.central := rfl
@[simp] theorem State.withFreeList_dispatcher (s : State) (v : List Nat) : (s.withFreeList v).dispatcher = s.dispatcher := rfl
@[simp] theorem State.withFreeList_busy (s : State) (v : List Nat) : (s.withFreeList v).busy = s.busy := rfl
@[simp] theorem State.withFreeList_programs (s : State) (v : List Nat) : (s.withFreeList v).programs = s.programs := rfl
@[simp] theorem State.withFreeList_promotions (s : State) (v : List Nat) : (s.withFreeList v).promotions = s.promotions := rfl
@[simp] theorem State.withFreeList_slots (s : State) (v : List Nat) : (s.withFreeList v).slots = s.slots := rfl
@[simp] theorem State.withFreeList_freeList (s : State) (v : List Nat) : (s.withFreeList v).freeList = v := rfl
@[simp] theorem State.withFreeList_expiryList (s : State) (v : List Nat) : (s.withFreeList v).expiryList = s.expiryList := rfl
@[simp] theorem State.withFreeList_time (s : State) (v : List Nat) : (s.withFreeList v).time = s.time := rfl
@[simp] theorem State.withFreeList_cache (s : State) (v : List Nat) : (s.withFreeList v).cache = s.cache := rfl
@[simp] theorem State.withFreeList_tmc (s : State) (v : List Nat) : (s.withFreeList v).tmc = s.tmc := rfl
@[simp] theorem State.withFreeList_cards (s : State) (v : List Nat) : (s.withFreeList v).cards = s.cards := rfl
@[simp] theorem State.withFreeList_ring (s : State) (v : List Nat) : (s.withFreeList v).ring = s.ring := rfl
@[simp] theorem State.withFreeList_journal (s : State) (v : List Nat) : (s.withFreeList v).journal = s.journal := rfl
@[simp] theorem State.withFreeList_watch (s : State) (v : List Nat) : (s.withFreeList v).watch = s.watch := rfl
@[simp] theorem State.withFreeList_mgmt (s : State) (v : List Nat) : (s.withFreeList v).mgmt = s.mgmt := rfl
@[simp] theorem State.withFreeList_powerOns (s : State) (v : List Nat) : (s.withFreeList v).powerOns = s.powerOns := rfl

@[simp] theorem State.withExpiryList_pending (s : State) (v : List Nat) : (s.withExpiryList v).pending = s.pending := rfl
@[simp] theorem State.withExpiryList_resetN (s : State) (v : List Nat) : (s.withExpiryList v).resetN = s.resetN := rfl
@[simp] theorem State.withExpiryList_tblen (s : State) (v : List Nat) : (s.withExpiryList v).tblen = s.tblen := rfl
@[simp] theorem State.withExpiryList_resetPending (s : State) (v : List Nat) : (s.withExpiryList v).resetPending = s.resetPending := rfl
@[simp] theorem State.withExpiryList_stores (s : State) (v : List Nat) : (s.withExpiryList v).stores = s.stores := rfl
@[simp] theorem State.withExpiryList_central (s : State) (v : List Nat) : (s.withExpiryList v).central = s.central := rfl
@[simp] theorem State.withExpiryList_dispatcher (s : State) (v : List Nat) : (s.withExpiryList v).dispatcher = s.dispatcher := rfl
@[simp] theorem State.withExpiryList_busy (s : State) (v : List Nat) : (s.withExpiryList v).busy = s.busy := rfl
@[simp] theorem State.withExpiryList_programs (s : State) (v : List Nat) : (s.withExpiryList v).programs = s.programs := rfl
@[simp] theorem State.withExpiryList_promotions (s : State) (v : List Nat) : (s.withExpiryList v).promotions = s.promotions := rfl
@[simp] theorem State.withExpiryList_slots (s : State) (v : List Nat) : (s.withExpiryList v).slots = s.slots := rfl
@[simp] theorem State.withExpiryList_freeList (s : State) (v : List Nat) : (s.withExpiryList v).freeList = s.freeList := rfl
@[simp] theorem State.withExpiryList_expiryList (s : State) (v : List Nat) : (s.withExpiryList v).expiryList = v := rfl
@[simp] theorem State.withExpiryList_time (s : State) (v : List Nat) : (s.withExpiryList v).time = s.time := rfl
@[simp] theorem State.withExpiryList_cache (s : State) (v : List Nat) : (s.withExpiryList v).cache = s.cache := rfl
@[simp] theorem State.withExpiryList_tmc (s : State) (v : List Nat) : (s.withExpiryList v).tmc = s.tmc := rfl
@[simp] theorem State.withExpiryList_cards (s : State) (v : List Nat) : (s.withExpiryList v).cards = s.cards := rfl
@[simp] theorem State.withExpiryList_ring (s : State) (v : List Nat) : (s.withExpiryList v).ring = s.ring := rfl
@[simp] theorem State.withExpiryList_journal (s : State) (v : List Nat) : (s.withExpiryList v).journal = s.journal := rfl
@[simp] theorem State.withExpiryList_watch (s : State) (v : List Nat) : (s.withExpiryList v).watch = s.watch := rfl
@[simp] theorem State.withExpiryList_mgmt (s : State) (v : List Nat) : (s.withExpiryList v).mgmt = s.mgmt := rfl
@[simp] theorem State.withExpiryList_powerOns (s : State) (v : List Nat) : (s.withExpiryList v).powerOns = s.powerOns := rfl

@[simp] theorem State.withTime_pending (s : State) (v : Timebase) : (s.withTime v).pending = s.pending := rfl
@[simp] theorem State.withTime_resetN (s : State) (v : Timebase) : (s.withTime v).resetN = s.resetN := rfl
@[simp] theorem State.withTime_tblen (s : State) (v : Timebase) : (s.withTime v).tblen = s.tblen := rfl
@[simp] theorem State.withTime_resetPending (s : State) (v : Timebase) : (s.withTime v).resetPending = s.resetPending := rfl
@[simp] theorem State.withTime_stores (s : State) (v : Timebase) : (s.withTime v).stores = s.stores := rfl
@[simp] theorem State.withTime_central (s : State) (v : Timebase) : (s.withTime v).central = s.central := rfl
@[simp] theorem State.withTime_dispatcher (s : State) (v : Timebase) : (s.withTime v).dispatcher = s.dispatcher := rfl
@[simp] theorem State.withTime_busy (s : State) (v : Timebase) : (s.withTime v).busy = s.busy := rfl
@[simp] theorem State.withTime_programs (s : State) (v : Timebase) : (s.withTime v).programs = s.programs := rfl
@[simp] theorem State.withTime_promotions (s : State) (v : Timebase) : (s.withTime v).promotions = s.promotions := rfl
@[simp] theorem State.withTime_slots (s : State) (v : Timebase) : (s.withTime v).slots = s.slots := rfl
@[simp] theorem State.withTime_freeList (s : State) (v : Timebase) : (s.withTime v).freeList = s.freeList := rfl
@[simp] theorem State.withTime_expiryList (s : State) (v : Timebase) : (s.withTime v).expiryList = s.expiryList := rfl
@[simp] theorem State.withTime_time (s : State) (v : Timebase) : (s.withTime v).time = v := rfl
@[simp] theorem State.withTime_cache (s : State) (v : Timebase) : (s.withTime v).cache = s.cache := rfl
@[simp] theorem State.withTime_tmc (s : State) (v : Timebase) : (s.withTime v).tmc = s.tmc := rfl
@[simp] theorem State.withTime_cards (s : State) (v : Timebase) : (s.withTime v).cards = s.cards := rfl
@[simp] theorem State.withTime_ring (s : State) (v : Timebase) : (s.withTime v).ring = s.ring := rfl
@[simp] theorem State.withTime_journal (s : State) (v : Timebase) : (s.withTime v).journal = s.journal := rfl
@[simp] theorem State.withTime_watch (s : State) (v : Timebase) : (s.withTime v).watch = s.watch := rfl
@[simp] theorem State.withTime_mgmt (s : State) (v : Timebase) : (s.withTime v).mgmt = s.mgmt := rfl
@[simp] theorem State.withTime_powerOns (s : State) (v : Timebase) : (s.withTime v).powerOns = s.powerOns := rfl

@[simp] theorem State.withCache_pending (s : State) (v : Tab CacheSet) : (s.withCache v).pending = s.pending := rfl
@[simp] theorem State.withCache_resetN (s : State) (v : Tab CacheSet) : (s.withCache v).resetN = s.resetN := rfl
@[simp] theorem State.withCache_tblen (s : State) (v : Tab CacheSet) : (s.withCache v).tblen = s.tblen := rfl
@[simp] theorem State.withCache_resetPending (s : State) (v : Tab CacheSet) : (s.withCache v).resetPending = s.resetPending := rfl
@[simp] theorem State.withCache_stores (s : State) (v : Tab CacheSet) : (s.withCache v).stores = s.stores := rfl
@[simp] theorem State.withCache_central (s : State) (v : Tab CacheSet) : (s.withCache v).central = s.central := rfl
@[simp] theorem State.withCache_dispatcher (s : State) (v : Tab CacheSet) : (s.withCache v).dispatcher = s.dispatcher := rfl
@[simp] theorem State.withCache_busy (s : State) (v : Tab CacheSet) : (s.withCache v).busy = s.busy := rfl
@[simp] theorem State.withCache_programs (s : State) (v : Tab CacheSet) : (s.withCache v).programs = s.programs := rfl
@[simp] theorem State.withCache_promotions (s : State) (v : Tab CacheSet) : (s.withCache v).promotions = s.promotions := rfl
@[simp] theorem State.withCache_slots (s : State) (v : Tab CacheSet) : (s.withCache v).slots = s.slots := rfl
@[simp] theorem State.withCache_freeList (s : State) (v : Tab CacheSet) : (s.withCache v).freeList = s.freeList := rfl
@[simp] theorem State.withCache_expiryList (s : State) (v : Tab CacheSet) : (s.withCache v).expiryList = s.expiryList := rfl
@[simp] theorem State.withCache_time (s : State) (v : Tab CacheSet) : (s.withCache v).time = s.time := rfl
@[simp] theorem State.withCache_cache (s : State) (v : Tab CacheSet) : (s.withCache v).cache = v := rfl
@[simp] theorem State.withCache_tmc (s : State) (v : Tab CacheSet) : (s.withCache v).tmc = s.tmc := rfl
@[simp] theorem State.withCache_cards (s : State) (v : Tab CacheSet) : (s.withCache v).cards = s.cards := rfl
@[simp] theorem State.withCache_ring (s : State) (v : Tab CacheSet) : (s.withCache v).ring = s.ring := rfl
@[simp] theorem State.withCache_journal (s : State) (v : Tab CacheSet) : (s.withCache v).journal = s.journal := rfl
@[simp] theorem State.withCache_watch (s : State) (v : Tab CacheSet) : (s.withCache v).watch = s.watch := rfl
@[simp] theorem State.withCache_mgmt (s : State) (v : Tab CacheSet) : (s.withCache v).mgmt = s.mgmt := rfl
@[simp] theorem State.withCache_powerOns (s : State) (v : Tab CacheSet) : (s.withCache v).powerOns = s.powerOns := rfl

@[simp] theorem State.withTmc_pending (s : State) (v : Tmc) : (s.withTmc v).pending = s.pending := rfl
@[simp] theorem State.withTmc_resetN (s : State) (v : Tmc) : (s.withTmc v).resetN = s.resetN := rfl
@[simp] theorem State.withTmc_tblen (s : State) (v : Tmc) : (s.withTmc v).tblen = s.tblen := rfl
@[simp] theorem State.withTmc_resetPending (s : State) (v : Tmc) : (s.withTmc v).resetPending = s.resetPending := rfl
@[simp] theorem State.withTmc_stores (s : State) (v : Tmc) : (s.withTmc v).stores = s.stores := rfl
@[simp] theorem State.withTmc_central (s : State) (v : Tmc) : (s.withTmc v).central = s.central := rfl
@[simp] theorem State.withTmc_dispatcher (s : State) (v : Tmc) : (s.withTmc v).dispatcher = s.dispatcher := rfl
@[simp] theorem State.withTmc_busy (s : State) (v : Tmc) : (s.withTmc v).busy = s.busy := rfl
@[simp] theorem State.withTmc_programs (s : State) (v : Tmc) : (s.withTmc v).programs = s.programs := rfl
@[simp] theorem State.withTmc_promotions (s : State) (v : Tmc) : (s.withTmc v).promotions = s.promotions := rfl
@[simp] theorem State.withTmc_slots (s : State) (v : Tmc) : (s.withTmc v).slots = s.slots := rfl
@[simp] theorem State.withTmc_freeList (s : State) (v : Tmc) : (s.withTmc v).freeList = s.freeList := rfl
@[simp] theorem State.withTmc_expiryList (s : State) (v : Tmc) : (s.withTmc v).expiryList = s.expiryList := rfl
@[simp] theorem State.withTmc_time (s : State) (v : Tmc) : (s.withTmc v).time = s.time := rfl
@[simp] theorem State.withTmc_cache (s : State) (v : Tmc) : (s.withTmc v).cache = s.cache := rfl
@[simp] theorem State.withTmc_tmc (s : State) (v : Tmc) : (s.withTmc v).tmc = v := rfl
@[simp] theorem State.withTmc_cards (s : State) (v : Tmc) : (s.withTmc v).cards = s.cards := rfl
@[simp] theorem State.withTmc_ring (s : State) (v : Tmc) : (s.withTmc v).ring = s.ring := rfl
@[simp] theorem State.withTmc_journal (s : State) (v : Tmc) : (s.withTmc v).journal = s.journal := rfl
@[simp] theorem State.withTmc_watch (s : State) (v : Tmc) : (s.withTmc v).watch = s.watch := rfl
@[simp] theorem State.withTmc_mgmt (s : State) (v : Tmc) : (s.withTmc v).mgmt = s.mgmt := rfl
@[simp] theorem State.withTmc_powerOns (s : State) (v : Tmc) : (s.withTmc v).powerOns = s.powerOns := rfl

@[simp] theorem State.withCards_pending (s : State) (v : Tab CardRecord) : (s.withCards v).pending = s.pending := rfl
@[simp] theorem State.withCards_resetN (s : State) (v : Tab CardRecord) : (s.withCards v).resetN = s.resetN := rfl
@[simp] theorem State.withCards_tblen (s : State) (v : Tab CardRecord) : (s.withCards v).tblen = s.tblen := rfl
@[simp] theorem State.withCards_resetPending (s : State) (v : Tab CardRecord) : (s.withCards v).resetPending = s.resetPending := rfl
@[simp] theorem State.withCards_stores (s : State) (v : Tab CardRecord) : (s.withCards v).stores = s.stores := rfl
@[simp] theorem State.withCards_central (s : State) (v : Tab CardRecord) : (s.withCards v).central = s.central := rfl
@[simp] theorem State.withCards_dispatcher (s : State) (v : Tab CardRecord) : (s.withCards v).dispatcher = s.dispatcher := rfl
@[simp] theorem State.withCards_busy (s : State) (v : Tab CardRecord) : (s.withCards v).busy = s.busy := rfl
@[simp] theorem State.withCards_programs (s : State) (v : Tab CardRecord) : (s.withCards v).programs = s.programs := rfl
@[simp] theorem State.withCards_promotions (s : State) (v : Tab CardRecord) : (s.withCards v).promotions = s.promotions := rfl
@[simp] theorem State.withCards_slots (s : State) (v : Tab CardRecord) : (s.withCards v).slots = s.slots := rfl
@[simp] theorem State.withCards_freeList (s : State) (v : Tab CardRecord) : (s.withCards v).freeList = s.freeList := rfl
@[simp] theorem State.withCards_expiryList (s : State) (v : Tab CardRecord) : (s.withCards v).expiryList = s.expiryList := rfl
@[simp] theorem State.withCards_time (s : State) (v : Tab CardRecord) : (s.withCards v).time = s.time := rfl
@[simp] theorem State.withCards_cache (s : State) (v : Tab CardRecord) : (s.withCards v).cache = s.cache := rfl
@[simp] theorem State.withCards_tmc (s : State) (v : Tab CardRecord) : (s.withCards v).tmc = s.tmc := rfl
@[simp] theorem State.withCards_cards (s : State) (v : Tab CardRecord) : (s.withCards v).cards = v := rfl
@[simp] theorem State.withCards_ring (s : State) (v : Tab CardRecord) : (s.withCards v).ring = s.ring := rfl
@[simp] theorem State.withCards_journal (s : State) (v : Tab CardRecord) : (s.withCards v).journal = s.journal := rfl
@[simp] theorem State.withCards_watch (s : State) (v : Tab CardRecord) : (s.withCards v).watch = s.watch := rfl
@[simp] theorem State.withCards_mgmt (s : State) (v : Tab CardRecord) : (s.withCards v).mgmt = s.mgmt := rfl
@[simp] theorem State.withCards_powerOns (s : State) (v : Tab CardRecord) : (s.withCards v).powerOns = s.powerOns := rfl

@[simp] theorem State.withRing_pending (s : State) (v : Tab JournalEntry) : (s.withRing v).pending = s.pending := rfl
@[simp] theorem State.withRing_resetN (s : State) (v : Tab JournalEntry) : (s.withRing v).resetN = s.resetN := rfl
@[simp] theorem State.withRing_tblen (s : State) (v : Tab JournalEntry) : (s.withRing v).tblen = s.tblen := rfl
@[simp] theorem State.withRing_resetPending (s : State) (v : Tab JournalEntry) : (s.withRing v).resetPending = s.resetPending := rfl
@[simp] theorem State.withRing_stores (s : State) (v : Tab JournalEntry) : (s.withRing v).stores = s.stores := rfl
@[simp] theorem State.withRing_central (s : State) (v : Tab JournalEntry) : (s.withRing v).central = s.central := rfl
@[simp] theorem State.withRing_dispatcher (s : State) (v : Tab JournalEntry) : (s.withRing v).dispatcher = s.dispatcher := rfl
@[simp] theorem State.withRing_busy (s : State) (v : Tab JournalEntry) : (s.withRing v).busy = s.busy := rfl
@[simp] theorem State.withRing_programs (s : State) (v : Tab JournalEntry) : (s.withRing v).programs = s.programs := rfl
@[simp] theorem State.withRing_promotions (s : State) (v : Tab JournalEntry) : (s.withRing v).promotions = s.promotions := rfl
@[simp] theorem State.withRing_slots (s : State) (v : Tab JournalEntry) : (s.withRing v).slots = s.slots := rfl
@[simp] theorem State.withRing_freeList (s : State) (v : Tab JournalEntry) : (s.withRing v).freeList = s.freeList := rfl
@[simp] theorem State.withRing_expiryList (s : State) (v : Tab JournalEntry) : (s.withRing v).expiryList = s.expiryList := rfl
@[simp] theorem State.withRing_time (s : State) (v : Tab JournalEntry) : (s.withRing v).time = s.time := rfl
@[simp] theorem State.withRing_cache (s : State) (v : Tab JournalEntry) : (s.withRing v).cache = s.cache := rfl
@[simp] theorem State.withRing_tmc (s : State) (v : Tab JournalEntry) : (s.withRing v).tmc = s.tmc := rfl
@[simp] theorem State.withRing_cards (s : State) (v : Tab JournalEntry) : (s.withRing v).cards = s.cards := rfl
@[simp] theorem State.withRing_ring (s : State) (v : Tab JournalEntry) : (s.withRing v).ring = v := rfl
@[simp] theorem State.withRing_journal (s : State) (v : Tab JournalEntry) : (s.withRing v).journal = s.journal := rfl
@[simp] theorem State.withRing_watch (s : State) (v : Tab JournalEntry) : (s.withRing v).watch = s.watch := rfl
@[simp] theorem State.withRing_mgmt (s : State) (v : Tab JournalEntry) : (s.withRing v).mgmt = s.mgmt := rfl
@[simp] theorem State.withRing_powerOns (s : State) (v : Tab JournalEntry) : (s.withRing v).powerOns = s.powerOns := rfl

@[simp] theorem State.withJournal_pending (s : State) (v : Journal) : (s.withJournal v).pending = s.pending := rfl
@[simp] theorem State.withJournal_resetN (s : State) (v : Journal) : (s.withJournal v).resetN = s.resetN := rfl
@[simp] theorem State.withJournal_tblen (s : State) (v : Journal) : (s.withJournal v).tblen = s.tblen := rfl
@[simp] theorem State.withJournal_resetPending (s : State) (v : Journal) : (s.withJournal v).resetPending = s.resetPending := rfl
@[simp] theorem State.withJournal_stores (s : State) (v : Journal) : (s.withJournal v).stores = s.stores := rfl
@[simp] theorem State.withJournal_central (s : State) (v : Journal) : (s.withJournal v).central = s.central := rfl
@[simp] theorem State.withJournal_dispatcher (s : State) (v : Journal) : (s.withJournal v).dispatcher = s.dispatcher := rfl
@[simp] theorem State.withJournal_busy (s : State) (v : Journal) : (s.withJournal v).busy = s.busy := rfl
@[simp] theorem State.withJournal_programs (s : State) (v : Journal) : (s.withJournal v).programs = s.programs := rfl
@[simp] theorem State.withJournal_promotions (s : State) (v : Journal) : (s.withJournal v).promotions = s.promotions := rfl
@[simp] theorem State.withJournal_slots (s : State) (v : Journal) : (s.withJournal v).slots = s.slots := rfl
@[simp] theorem State.withJournal_freeList (s : State) (v : Journal) : (s.withJournal v).freeList = s.freeList := rfl
@[simp] theorem State.withJournal_expiryList (s : State) (v : Journal) : (s.withJournal v).expiryList = s.expiryList := rfl
@[simp] theorem State.withJournal_time (s : State) (v : Journal) : (s.withJournal v).time = s.time := rfl
@[simp] theorem State.withJournal_cache (s : State) (v : Journal) : (s.withJournal v).cache = s.cache := rfl
@[simp] theorem State.withJournal_tmc (s : State) (v : Journal) : (s.withJournal v).tmc = s.tmc := rfl
@[simp] theorem State.withJournal_cards (s : State) (v : Journal) : (s.withJournal v).cards = s.cards := rfl
@[simp] theorem State.withJournal_ring (s : State) (v : Journal) : (s.withJournal v).ring = s.ring := rfl
@[simp] theorem State.withJournal_journal (s : State) (v : Journal) : (s.withJournal v).journal = v := rfl
@[simp] theorem State.withJournal_watch (s : State) (v : Journal) : (s.withJournal v).watch = s.watch := rfl
@[simp] theorem State.withJournal_mgmt (s : State) (v : Journal) : (s.withJournal v).mgmt = s.mgmt := rfl
@[simp] theorem State.withJournal_powerOns (s : State) (v : Journal) : (s.withJournal v).powerOns = s.powerOns := rfl

@[simp] theorem State.withWatch_pending (s : State) (v : WatchUnit) : (s.withWatch v).pending = s.pending := rfl
@[simp] theorem State.withWatch_resetN (s : State) (v : WatchUnit) : (s.withWatch v).resetN = s.resetN := rfl
@[simp] theorem State.withWatch_tblen (s : State) (v : WatchUnit) : (s.withWatch v).tblen = s.tblen := rfl
@[simp] theorem State.withWatch_resetPending (s : State) (v : WatchUnit) : (s.withWatch v).resetPending = s.resetPending := rfl
@[simp] theorem State.withWatch_stores (s : State) (v : WatchUnit) : (s.withWatch v).stores = s.stores := rfl
@[simp] theorem State.withWatch_central (s : State) (v : WatchUnit) : (s.withWatch v).central = s.central := rfl
@[simp] theorem State.withWatch_dispatcher (s : State) (v : WatchUnit) : (s.withWatch v).dispatcher = s.dispatcher := rfl
@[simp] theorem State.withWatch_busy (s : State) (v : WatchUnit) : (s.withWatch v).busy = s.busy := rfl
@[simp] theorem State.withWatch_programs (s : State) (v : WatchUnit) : (s.withWatch v).programs = s.programs := rfl
@[simp] theorem State.withWatch_promotions (s : State) (v : WatchUnit) : (s.withWatch v).promotions = s.promotions := rfl
@[simp] theorem State.withWatch_slots (s : State) (v : WatchUnit) : (s.withWatch v).slots = s.slots := rfl
@[simp] theorem State.withWatch_freeList (s : State) (v : WatchUnit) : (s.withWatch v).freeList = s.freeList := rfl
@[simp] theorem State.withWatch_expiryList (s : State) (v : WatchUnit) : (s.withWatch v).expiryList = s.expiryList := rfl
@[simp] theorem State.withWatch_time (s : State) (v : WatchUnit) : (s.withWatch v).time = s.time := rfl
@[simp] theorem State.withWatch_cache (s : State) (v : WatchUnit) : (s.withWatch v).cache = s.cache := rfl
@[simp] theorem State.withWatch_tmc (s : State) (v : WatchUnit) : (s.withWatch v).tmc = s.tmc := rfl
@[simp] theorem State.withWatch_cards (s : State) (v : WatchUnit) : (s.withWatch v).cards = s.cards := rfl
@[simp] theorem State.withWatch_ring (s : State) (v : WatchUnit) : (s.withWatch v).ring = s.ring := rfl
@[simp] theorem State.withWatch_journal (s : State) (v : WatchUnit) : (s.withWatch v).journal = s.journal := rfl
@[simp] theorem State.withWatch_watch (s : State) (v : WatchUnit) : (s.withWatch v).watch = v := rfl
@[simp] theorem State.withWatch_mgmt (s : State) (v : WatchUnit) : (s.withWatch v).mgmt = s.mgmt := rfl
@[simp] theorem State.withWatch_powerOns (s : State) (v : WatchUnit) : (s.withWatch v).powerOns = s.powerOns := rfl

@[simp] theorem State.withMgmt_pending (s : State) (v : Mgmt) : (s.withMgmt v).pending = s.pending := rfl
@[simp] theorem State.withMgmt_resetN (s : State) (v : Mgmt) : (s.withMgmt v).resetN = s.resetN := rfl
@[simp] theorem State.withMgmt_tblen (s : State) (v : Mgmt) : (s.withMgmt v).tblen = s.tblen := rfl
@[simp] theorem State.withMgmt_resetPending (s : State) (v : Mgmt) : (s.withMgmt v).resetPending = s.resetPending := rfl
@[simp] theorem State.withMgmt_stores (s : State) (v : Mgmt) : (s.withMgmt v).stores = s.stores := rfl
@[simp] theorem State.withMgmt_central (s : State) (v : Mgmt) : (s.withMgmt v).central = s.central := rfl
@[simp] theorem State.withMgmt_dispatcher (s : State) (v : Mgmt) : (s.withMgmt v).dispatcher = s.dispatcher := rfl
@[simp] theorem State.withMgmt_busy (s : State) (v : Mgmt) : (s.withMgmt v).busy = s.busy := rfl
@[simp] theorem State.withMgmt_programs (s : State) (v : Mgmt) : (s.withMgmt v).programs = s.programs := rfl
@[simp] theorem State.withMgmt_promotions (s : State) (v : Mgmt) : (s.withMgmt v).promotions = s.promotions := rfl
@[simp] theorem State.withMgmt_slots (s : State) (v : Mgmt) : (s.withMgmt v).slots = s.slots := rfl
@[simp] theorem State.withMgmt_freeList (s : State) (v : Mgmt) : (s.withMgmt v).freeList = s.freeList := rfl
@[simp] theorem State.withMgmt_expiryList (s : State) (v : Mgmt) : (s.withMgmt v).expiryList = s.expiryList := rfl
@[simp] theorem State.withMgmt_time (s : State) (v : Mgmt) : (s.withMgmt v).time = s.time := rfl
@[simp] theorem State.withMgmt_cache (s : State) (v : Mgmt) : (s.withMgmt v).cache = s.cache := rfl
@[simp] theorem State.withMgmt_tmc (s : State) (v : Mgmt) : (s.withMgmt v).tmc = s.tmc := rfl
@[simp] theorem State.withMgmt_cards (s : State) (v : Mgmt) : (s.withMgmt v).cards = s.cards := rfl
@[simp] theorem State.withMgmt_ring (s : State) (v : Mgmt) : (s.withMgmt v).ring = s.ring := rfl
@[simp] theorem State.withMgmt_journal (s : State) (v : Mgmt) : (s.withMgmt v).journal = s.journal := rfl
@[simp] theorem State.withMgmt_watch (s : State) (v : Mgmt) : (s.withMgmt v).watch = s.watch := rfl
@[simp] theorem State.withMgmt_mgmt (s : State) (v : Mgmt) : (s.withMgmt v).mgmt = v := rfl
@[simp] theorem State.withMgmt_powerOns (s : State) (v : Mgmt) : (s.withMgmt v).powerOns = s.powerOns := rfl

@[simp] theorem State.withPowerOns_pending (s : State) (v : Nat) : (s.withPowerOns v).pending = s.pending := rfl
@[simp] theorem State.withPowerOns_resetN (s : State) (v : Nat) : (s.withPowerOns v).resetN = s.resetN := rfl
@[simp] theorem State.withPowerOns_tblen (s : State) (v : Nat) : (s.withPowerOns v).tblen = s.tblen := rfl
@[simp] theorem State.withPowerOns_resetPending (s : State) (v : Nat) : (s.withPowerOns v).resetPending = s.resetPending := rfl
@[simp] theorem State.withPowerOns_stores (s : State) (v : Nat) : (s.withPowerOns v).stores = s.stores := rfl
@[simp] theorem State.withPowerOns_central (s : State) (v : Nat) : (s.withPowerOns v).central = s.central := rfl
@[simp] theorem State.withPowerOns_dispatcher (s : State) (v : Nat) : (s.withPowerOns v).dispatcher = s.dispatcher := rfl
@[simp] theorem State.withPowerOns_busy (s : State) (v : Nat) : (s.withPowerOns v).busy = s.busy := rfl
@[simp] theorem State.withPowerOns_programs (s : State) (v : Nat) : (s.withPowerOns v).programs = s.programs := rfl
@[simp] theorem State.withPowerOns_promotions (s : State) (v : Nat) : (s.withPowerOns v).promotions = s.promotions := rfl
@[simp] theorem State.withPowerOns_slots (s : State) (v : Nat) : (s.withPowerOns v).slots = s.slots := rfl
@[simp] theorem State.withPowerOns_freeList (s : State) (v : Nat) : (s.withPowerOns v).freeList = s.freeList := rfl
@[simp] theorem State.withPowerOns_expiryList (s : State) (v : Nat) : (s.withPowerOns v).expiryList = s.expiryList := rfl
@[simp] theorem State.withPowerOns_time (s : State) (v : Nat) : (s.withPowerOns v).time = s.time := rfl
@[simp] theorem State.withPowerOns_cache (s : State) (v : Nat) : (s.withPowerOns v).cache = s.cache := rfl
@[simp] theorem State.withPowerOns_tmc (s : State) (v : Nat) : (s.withPowerOns v).tmc = s.tmc := rfl
@[simp] theorem State.withPowerOns_cards (s : State) (v : Nat) : (s.withPowerOns v).cards = s.cards := rfl
@[simp] theorem State.withPowerOns_ring (s : State) (v : Nat) : (s.withPowerOns v).ring = s.ring := rfl
@[simp] theorem State.withPowerOns_journal (s : State) (v : Nat) : (s.withPowerOns v).journal = s.journal := rfl
@[simp] theorem State.withPowerOns_watch (s : State) (v : Nat) : (s.withPowerOns v).watch = s.watch := rfl
@[simp] theorem State.withPowerOns_mgmt (s : State) (v : Nat) : (s.withPowerOns v).mgmt = s.mgmt := rfl
@[simp] theorem State.withPowerOns_powerOns (s : State) (v : Nat) : (s.withPowerOns v).powerOns = v := rfl

end Sys2Proof.Machine
end

