-- ==== Sys2Proof/Laws/Frames.lean ====
section
/-!
SUPPORT. The frame of each shared operation: one lemma for each field it leaves alone.
-/

namespace Sys2Proof.Machine

/-! ## handStore: changes stores -/

@[simp] theorem handStore_pending (l : StoreLink) (p : OutParcel) (s : State) : (handStore l p s).pending = s.pending := rfl
@[simp] theorem handStore_resetN (l : StoreLink) (p : OutParcel) (s : State) : (handStore l p s).resetN = s.resetN := rfl
@[simp] theorem handStore_tblen (l : StoreLink) (p : OutParcel) (s : State) : (handStore l p s).tblen = s.tblen := rfl
@[simp] theorem handStore_resetPending (l : StoreLink) (p : OutParcel) (s : State) : (handStore l p s).resetPending = s.resetPending := rfl
@[simp] theorem handStore_central (l : StoreLink) (p : OutParcel) (s : State) : (handStore l p s).central = s.central := rfl
@[simp] theorem handStore_dispatcher (l : StoreLink) (p : OutParcel) (s : State) : (handStore l p s).dispatcher = s.dispatcher := rfl
@[simp] theorem handStore_busy (l : StoreLink) (p : OutParcel) (s : State) : (handStore l p s).busy = s.busy := rfl
@[simp] theorem handStore_programs (l : StoreLink) (p : OutParcel) (s : State) : (handStore l p s).programs = s.programs := rfl
@[simp] theorem handStore_promotions (l : StoreLink) (p : OutParcel) (s : State) : (handStore l p s).promotions = s.promotions := rfl
@[simp] theorem handStore_slots (l : StoreLink) (p : OutParcel) (s : State) : (handStore l p s).slots = s.slots := rfl
@[simp] theorem handStore_freeList (l : StoreLink) (p : OutParcel) (s : State) : (handStore l p s).freeList = s.freeList := rfl
@[simp] theorem handStore_expiryList (l : StoreLink) (p : OutParcel) (s : State) : (handStore l p s).expiryList = s.expiryList := rfl
@[simp] theorem handStore_time (l : StoreLink) (p : OutParcel) (s : State) : (handStore l p s).time = s.time := rfl
@[simp] theorem handStore_cache (l : StoreLink) (p : OutParcel) (s : State) : (handStore l p s).cache = s.cache := rfl
@[simp] theorem handStore_tmc (l : StoreLink) (p : OutParcel) (s : State) : (handStore l p s).tmc = s.tmc := rfl
@[simp] theorem handStore_cards (l : StoreLink) (p : OutParcel) (s : State) : (handStore l p s).cards = s.cards := rfl
@[simp] theorem handStore_ring (l : StoreLink) (p : OutParcel) (s : State) : (handStore l p s).ring = s.ring := rfl
@[simp] theorem handStore_journal (l : StoreLink) (p : OutParcel) (s : State) : (handStore l p s).journal = s.journal := rfl
@[simp] theorem handStore_watch (l : StoreLink) (p : OutParcel) (s : State) : (handStore l p s).watch = s.watch := rfl
@[simp] theorem handStore_mgmt (l : StoreLink) (p : OutParcel) (s : State) : (handStore l p s).mgmt = s.mgmt := rfl
@[simp] theorem handStore_powerOns (l : StoreLink) (p : OutParcel) (s : State) : (handStore l p s).powerOns = s.powerOns := rfl

/-! ## handCentral: changes central -/

@[simp] theorem handCentral_pending (p : OutParcel) (s : State) : (handCentral p s).pending = s.pending := rfl
@[simp] theorem handCentral_resetN (p : OutParcel) (s : State) : (handCentral p s).resetN = s.resetN := rfl
@[simp] theorem handCentral_tblen (p : OutParcel) (s : State) : (handCentral p s).tblen = s.tblen := rfl
@[simp] theorem handCentral_resetPending (p : OutParcel) (s : State) : (handCentral p s).resetPending = s.resetPending := rfl
@[simp] theorem handCentral_stores (p : OutParcel) (s : State) : (handCentral p s).stores = s.stores := rfl
@[simp] theorem handCentral_dispatcher (p : OutParcel) (s : State) : (handCentral p s).dispatcher = s.dispatcher := rfl
@[simp] theorem handCentral_busy (p : OutParcel) (s : State) : (handCentral p s).busy = s.busy := rfl
@[simp] theorem handCentral_programs (p : OutParcel) (s : State) : (handCentral p s).programs = s.programs := rfl
@[simp] theorem handCentral_promotions (p : OutParcel) (s : State) : (handCentral p s).promotions = s.promotions := rfl
@[simp] theorem handCentral_slots (p : OutParcel) (s : State) : (handCentral p s).slots = s.slots := rfl
@[simp] theorem handCentral_freeList (p : OutParcel) (s : State) : (handCentral p s).freeList = s.freeList := rfl
@[simp] theorem handCentral_expiryList (p : OutParcel) (s : State) : (handCentral p s).expiryList = s.expiryList := rfl
@[simp] theorem handCentral_time (p : OutParcel) (s : State) : (handCentral p s).time = s.time := rfl
@[simp] theorem handCentral_cache (p : OutParcel) (s : State) : (handCentral p s).cache = s.cache := rfl
@[simp] theorem handCentral_tmc (p : OutParcel) (s : State) : (handCentral p s).tmc = s.tmc := rfl
@[simp] theorem handCentral_cards (p : OutParcel) (s : State) : (handCentral p s).cards = s.cards := rfl
@[simp] theorem handCentral_ring (p : OutParcel) (s : State) : (handCentral p s).ring = s.ring := rfl
@[simp] theorem handCentral_journal (p : OutParcel) (s : State) : (handCentral p s).journal = s.journal := rfl
@[simp] theorem handCentral_watch (p : OutParcel) (s : State) : (handCentral p s).watch = s.watch := rfl
@[simp] theorem handCentral_mgmt (p : OutParcel) (s : State) : (handCentral p s).mgmt = s.mgmt := rfl
@[simp] theorem handCentral_powerOns (p : OutParcel) (s : State) : (handCentral p s).powerOns = s.powerOns := rfl

/-! ## reply: changes central -/

@[simp] theorem reply_pending (code tag : Nat) (r : MgmtResult) (s : State) : (reply code tag r s).pending = s.pending := rfl
@[simp] theorem reply_resetN (code tag : Nat) (r : MgmtResult) (s : State) : (reply code tag r s).resetN = s.resetN := rfl
@[simp] theorem reply_tblen (code tag : Nat) (r : MgmtResult) (s : State) : (reply code tag r s).tblen = s.tblen := rfl
@[simp] theorem reply_resetPending (code tag : Nat) (r : MgmtResult) (s : State) : (reply code tag r s).resetPending = s.resetPending := rfl
@[simp] theorem reply_stores (code tag : Nat) (r : MgmtResult) (s : State) : (reply code tag r s).stores = s.stores := rfl
@[simp] theorem reply_dispatcher (code tag : Nat) (r : MgmtResult) (s : State) : (reply code tag r s).dispatcher = s.dispatcher := rfl
@[simp] theorem reply_busy (code tag : Nat) (r : MgmtResult) (s : State) : (reply code tag r s).busy = s.busy := rfl
@[simp] theorem reply_programs (code tag : Nat) (r : MgmtResult) (s : State) : (reply code tag r s).programs = s.programs := rfl
@[simp] theorem reply_promotions (code tag : Nat) (r : MgmtResult) (s : State) : (reply code tag r s).promotions = s.promotions := rfl
@[simp] theorem reply_slots (code tag : Nat) (r : MgmtResult) (s : State) : (reply code tag r s).slots = s.slots := rfl
@[simp] theorem reply_freeList (code tag : Nat) (r : MgmtResult) (s : State) : (reply code tag r s).freeList = s.freeList := rfl
@[simp] theorem reply_expiryList (code tag : Nat) (r : MgmtResult) (s : State) : (reply code tag r s).expiryList = s.expiryList := rfl
@[simp] theorem reply_time (code tag : Nat) (r : MgmtResult) (s : State) : (reply code tag r s).time = s.time := rfl
@[simp] theorem reply_cache (code tag : Nat) (r : MgmtResult) (s : State) : (reply code tag r s).cache = s.cache := rfl
@[simp] theorem reply_tmc (code tag : Nat) (r : MgmtResult) (s : State) : (reply code tag r s).tmc = s.tmc := rfl
@[simp] theorem reply_cards (code tag : Nat) (r : MgmtResult) (s : State) : (reply code tag r s).cards = s.cards := rfl
@[simp] theorem reply_ring (code tag : Nat) (r : MgmtResult) (s : State) : (reply code tag r s).ring = s.ring := rfl
@[simp] theorem reply_journal (code tag : Nat) (r : MgmtResult) (s : State) : (reply code tag r s).journal = s.journal := rfl
@[simp] theorem reply_watch (code tag : Nat) (r : MgmtResult) (s : State) : (reply code tag r s).watch = s.watch := rfl
@[simp] theorem reply_mgmt (code tag : Nat) (r : MgmtResult) (s : State) : (reply code tag r s).mgmt = s.mgmt := rfl
@[simp] theorem reply_powerOns (code tag : Nat) (r : MgmtResult) (s : State) : (reply code tag r s).powerOns = s.powerOns := rfl

/-! ## startCommand: changes mgmt -/

@[simp] theorem startCommand_pending (code tag : Nat) (s : State) : (startCommand code tag s).pending = s.pending := rfl
@[simp] theorem startCommand_resetN (code tag : Nat) (s : State) : (startCommand code tag s).resetN = s.resetN := rfl
@[simp] theorem startCommand_tblen (code tag : Nat) (s : State) : (startCommand code tag s).tblen = s.tblen := rfl
@[simp] theorem startCommand_resetPending (code tag : Nat) (s : State) : (startCommand code tag s).resetPending = s.resetPending := rfl
@[simp] theorem startCommand_stores (code tag : Nat) (s : State) : (startCommand code tag s).stores = s.stores := rfl
@[simp] theorem startCommand_central (code tag : Nat) (s : State) : (startCommand code tag s).central = s.central := rfl
@[simp] theorem startCommand_dispatcher (code tag : Nat) (s : State) : (startCommand code tag s).dispatcher = s.dispatcher := rfl
@[simp] theorem startCommand_busy (code tag : Nat) (s : State) : (startCommand code tag s).busy = s.busy := rfl
@[simp] theorem startCommand_programs (code tag : Nat) (s : State) : (startCommand code tag s).programs = s.programs := rfl
@[simp] theorem startCommand_promotions (code tag : Nat) (s : State) : (startCommand code tag s).promotions = s.promotions := rfl
@[simp] theorem startCommand_slots (code tag : Nat) (s : State) : (startCommand code tag s).slots = s.slots := rfl
@[simp] theorem startCommand_freeList (code tag : Nat) (s : State) : (startCommand code tag s).freeList = s.freeList := rfl
@[simp] theorem startCommand_expiryList (code tag : Nat) (s : State) : (startCommand code tag s).expiryList = s.expiryList := rfl
@[simp] theorem startCommand_time (code tag : Nat) (s : State) : (startCommand code tag s).time = s.time := rfl
@[simp] theorem startCommand_cache (code tag : Nat) (s : State) : (startCommand code tag s).cache = s.cache := rfl
@[simp] theorem startCommand_tmc (code tag : Nat) (s : State) : (startCommand code tag s).tmc = s.tmc := rfl
@[simp] theorem startCommand_cards (code tag : Nat) (s : State) : (startCommand code tag s).cards = s.cards := rfl
@[simp] theorem startCommand_ring (code tag : Nat) (s : State) : (startCommand code tag s).ring = s.ring := rfl
@[simp] theorem startCommand_journal (code tag : Nat) (s : State) : (startCommand code tag s).journal = s.journal := rfl
@[simp] theorem startCommand_watch (code tag : Nat) (s : State) : (startCommand code tag s).watch = s.watch := rfl
@[simp] theorem startCommand_powerOns (code tag : Nat) (s : State) : (startCommand code tag s).powerOns = s.powerOns := rfl

/-! ## endCommand: changes mgmt -/

@[simp] theorem endCommand_pending (code tag : Nat) (s : State) : (endCommand code tag s).pending = s.pending := rfl
@[simp] theorem endCommand_resetN (code tag : Nat) (s : State) : (endCommand code tag s).resetN = s.resetN := rfl
@[simp] theorem endCommand_tblen (code tag : Nat) (s : State) : (endCommand code tag s).tblen = s.tblen := rfl
@[simp] theorem endCommand_resetPending (code tag : Nat) (s : State) : (endCommand code tag s).resetPending = s.resetPending := rfl
@[simp] theorem endCommand_stores (code tag : Nat) (s : State) : (endCommand code tag s).stores = s.stores := rfl
@[simp] theorem endCommand_central (code tag : Nat) (s : State) : (endCommand code tag s).central = s.central := rfl
@[simp] theorem endCommand_dispatcher (code tag : Nat) (s : State) : (endCommand code tag s).dispatcher = s.dispatcher := rfl
@[simp] theorem endCommand_busy (code tag : Nat) (s : State) : (endCommand code tag s).busy = s.busy := rfl
@[simp] theorem endCommand_programs (code tag : Nat) (s : State) : (endCommand code tag s).programs = s.programs := rfl
@[simp] theorem endCommand_promotions (code tag : Nat) (s : State) : (endCommand code tag s).promotions = s.promotions := rfl
@[simp] theorem endCommand_slots (code tag : Nat) (s : State) : (endCommand code tag s).slots = s.slots := rfl
@[simp] theorem endCommand_freeList (code tag : Nat) (s : State) : (endCommand code tag s).freeList = s.freeList := rfl
@[simp] theorem endCommand_expiryList (code tag : Nat) (s : State) : (endCommand code tag s).expiryList = s.expiryList := rfl
@[simp] theorem endCommand_time (code tag : Nat) (s : State) : (endCommand code tag s).time = s.time := rfl
@[simp] theorem endCommand_cache (code tag : Nat) (s : State) : (endCommand code tag s).cache = s.cache := rfl
@[simp] theorem endCommand_tmc (code tag : Nat) (s : State) : (endCommand code tag s).tmc = s.tmc := rfl
@[simp] theorem endCommand_cards (code tag : Nat) (s : State) : (endCommand code tag s).cards = s.cards := rfl
@[simp] theorem endCommand_ring (code tag : Nat) (s : State) : (endCommand code tag s).ring = s.ring := rfl
@[simp] theorem endCommand_journal (code tag : Nat) (s : State) : (endCommand code tag s).journal = s.journal := rfl
@[simp] theorem endCommand_watch (code tag : Nat) (s : State) : (endCommand code tag s).watch = s.watch := rfl
@[simp] theorem endCommand_powerOns (code tag : Nat) (s : State) : (endCommand code tag s).powerOns = s.powerOns := rfl

/-! ## replyStarted: changes central, mgmt -/

@[simp] theorem replyStarted_pending (code tag : Nat) (r : MgmtResult) (s : State) : (replyStarted code tag r s).pending = s.pending := rfl
@[simp] theorem replyStarted_resetN (code tag : Nat) (r : MgmtResult) (s : State) : (replyStarted code tag r s).resetN = s.resetN := rfl
@[simp] theorem replyStarted_tblen (code tag : Nat) (r : MgmtResult) (s : State) : (replyStarted code tag r s).tblen = s.tblen := rfl
@[simp] theorem replyStarted_resetPending (code tag : Nat) (r : MgmtResult) (s : State) : (replyStarted code tag r s).resetPending = s.resetPending := rfl
@[simp] theorem replyStarted_stores (code tag : Nat) (r : MgmtResult) (s : State) : (replyStarted code tag r s).stores = s.stores := rfl
@[simp] theorem replyStarted_dispatcher (code tag : Nat) (r : MgmtResult) (s : State) : (replyStarted code tag r s).dispatcher = s.dispatcher := rfl
@[simp] theorem replyStarted_busy (code tag : Nat) (r : MgmtResult) (s : State) : (replyStarted code tag r s).busy = s.busy := rfl
@[simp] theorem replyStarted_programs (code tag : Nat) (r : MgmtResult) (s : State) : (replyStarted code tag r s).programs = s.programs := rfl
@[simp] theorem replyStarted_promotions (code tag : Nat) (r : MgmtResult) (s : State) : (replyStarted code tag r s).promotions = s.promotions := rfl
@[simp] theorem replyStarted_slots (code tag : Nat) (r : MgmtResult) (s : State) : (replyStarted code tag r s).slots = s.slots := rfl
@[simp] theorem replyStarted_freeList (code tag : Nat) (r : MgmtResult) (s : State) : (replyStarted code tag r s).freeList = s.freeList := rfl
@[simp] theorem replyStarted_expiryList (code tag : Nat) (r : MgmtResult) (s : State) : (replyStarted code tag r s).expiryList = s.expiryList := rfl
@[simp] theorem replyStarted_time (code tag : Nat) (r : MgmtResult) (s : State) : (replyStarted code tag r s).time = s.time := rfl
@[simp] theorem replyStarted_cache (code tag : Nat) (r : MgmtResult) (s : State) : (replyStarted code tag r s).cache = s.cache := rfl
@[simp] theorem replyStarted_tmc (code tag : Nat) (r : MgmtResult) (s : State) : (replyStarted code tag r s).tmc = s.tmc := rfl
@[simp] theorem replyStarted_cards (code tag : Nat) (r : MgmtResult) (s : State) : (replyStarted code tag r s).cards = s.cards := rfl
@[simp] theorem replyStarted_ring (code tag : Nat) (r : MgmtResult) (s : State) : (replyStarted code tag r s).ring = s.ring := rfl
@[simp] theorem replyStarted_journal (code tag : Nat) (r : MgmtResult) (s : State) : (replyStarted code tag r s).journal = s.journal := rfl
@[simp] theorem replyStarted_watch (code tag : Nat) (r : MgmtResult) (s : State) : (replyStarted code tag r s).watch = s.watch := rfl
@[simp] theorem replyStarted_powerOns (code tag : Nat) (r : MgmtResult) (s : State) : (replyStarted code tag r s).powerOns = s.powerOns := rfl

/-! ## sendNotice: changes central -/

@[simp] theorem sendNotice_pending (s : State) : (sendNotice s).pending = s.pending := rfl
@[simp] theorem sendNotice_resetN (s : State) : (sendNotice s).resetN = s.resetN := rfl
@[simp] theorem sendNotice_tblen (s : State) : (sendNotice s).tblen = s.tblen := rfl
@[simp] theorem sendNotice_resetPending (s : State) : (sendNotice s).resetPending = s.resetPending := rfl
@[simp] theorem sendNotice_stores (s : State) : (sendNotice s).stores = s.stores := rfl
@[simp] theorem sendNotice_dispatcher (s : State) : (sendNotice s).dispatcher = s.dispatcher := rfl
@[simp] theorem sendNotice_busy (s : State) : (sendNotice s).busy = s.busy := rfl
@[simp] theorem sendNotice_programs (s : State) : (sendNotice s).programs = s.programs := rfl
@[simp] theorem sendNotice_promotions (s : State) : (sendNotice s).promotions = s.promotions := rfl
@[simp] theorem sendNotice_slots (s : State) : (sendNotice s).slots = s.slots := rfl
@[simp] theorem sendNotice_freeList (s : State) : (sendNotice s).freeList = s.freeList := rfl
@[simp] theorem sendNotice_expiryList (s : State) : (sendNotice s).expiryList = s.expiryList := rfl
@[simp] theorem sendNotice_time (s : State) : (sendNotice s).time = s.time := rfl
@[simp] theorem sendNotice_cache (s : State) : (sendNotice s).cache = s.cache := rfl
@[simp] theorem sendNotice_tmc (s : State) : (sendNotice s).tmc = s.tmc := rfl
@[simp] theorem sendNotice_cards (s : State) : (sendNotice s).cards = s.cards := rfl
@[simp] theorem sendNotice_ring (s : State) : (sendNotice s).ring = s.ring := rfl
@[simp] theorem sendNotice_journal (s : State) : (sendNotice s).journal = s.journal := rfl
@[simp] theorem sendNotice_watch (s : State) : (sendNotice s).watch = s.watch := rfl
@[simp] theorem sendNotice_mgmt (s : State) : (sendNotice s).mgmt = s.mgmt := rfl
@[simp] theorem sendNotice_powerOns (s : State) : (sendNotice s).powerOns = s.powerOns := rfl

/-! ## raiseNotice: changes central, mgmt -/

@[simp] theorem raiseNotice_pending (k : NoticeKind) (o : Bool) (s : State) : (raiseNotice k o s).pending = s.pending := by
  unfold raiseNotice; dsimp only; (repeat' split) <;> rfl
@[simp] theorem raiseNotice_resetN (k : NoticeKind) (o : Bool) (s : State) : (raiseNotice k o s).resetN = s.resetN := by
  unfold raiseNotice; dsimp only; (repeat' split) <;> rfl
@[simp] theorem raiseNotice_tblen (k : NoticeKind) (o : Bool) (s : State) : (raiseNotice k o s).tblen = s.tblen := by
  unfold raiseNotice; dsimp only; (repeat' split) <;> rfl
@[simp] theorem raiseNotice_resetPending (k : NoticeKind) (o : Bool) (s : State) : (raiseNotice k o s).resetPending = s.resetPending := by
  unfold raiseNotice; dsimp only; (repeat' split) <;> rfl
@[simp] theorem raiseNotice_stores (k : NoticeKind) (o : Bool) (s : State) : (raiseNotice k o s).stores = s.stores := by
  unfold raiseNotice; dsimp only; (repeat' split) <;> rfl
@[simp] theorem raiseNotice_dispatcher (k : NoticeKind) (o : Bool) (s : State) : (raiseNotice k o s).dispatcher = s.dispatcher := by
  unfold raiseNotice; dsimp only; (repeat' split) <;> rfl
@[simp] theorem raiseNotice_busy (k : NoticeKind) (o : Bool) (s : State) : (raiseNotice k o s).busy = s.busy := by
  unfold raiseNotice; dsimp only; (repeat' split) <;> rfl
@[simp] theorem raiseNotice_programs (k : NoticeKind) (o : Bool) (s : State) : (raiseNotice k o s).programs = s.programs := by
  unfold raiseNotice; dsimp only; (repeat' split) <;> rfl
@[simp] theorem raiseNotice_promotions (k : NoticeKind) (o : Bool) (s : State) : (raiseNotice k o s).promotions = s.promotions := by
  unfold raiseNotice; dsimp only; (repeat' split) <;> rfl
@[simp] theorem raiseNotice_slots (k : NoticeKind) (o : Bool) (s : State) : (raiseNotice k o s).slots = s.slots := by
  unfold raiseNotice; dsimp only; (repeat' split) <;> rfl
@[simp] theorem raiseNotice_freeList (k : NoticeKind) (o : Bool) (s : State) : (raiseNotice k o s).freeList = s.freeList := by
  unfold raiseNotice; dsimp only; (repeat' split) <;> rfl
@[simp] theorem raiseNotice_expiryList (k : NoticeKind) (o : Bool) (s : State) : (raiseNotice k o s).expiryList = s.expiryList := by
  unfold raiseNotice; dsimp only; (repeat' split) <;> rfl
@[simp] theorem raiseNotice_time (k : NoticeKind) (o : Bool) (s : State) : (raiseNotice k o s).time = s.time := by
  unfold raiseNotice; dsimp only; (repeat' split) <;> rfl
@[simp] theorem raiseNotice_cache (k : NoticeKind) (o : Bool) (s : State) : (raiseNotice k o s).cache = s.cache := by
  unfold raiseNotice; dsimp only; (repeat' split) <;> rfl
@[simp] theorem raiseNotice_tmc (k : NoticeKind) (o : Bool) (s : State) : (raiseNotice k o s).tmc = s.tmc := by
  unfold raiseNotice; dsimp only; (repeat' split) <;> rfl
@[simp] theorem raiseNotice_cards (k : NoticeKind) (o : Bool) (s : State) : (raiseNotice k o s).cards = s.cards := by
  unfold raiseNotice; dsimp only; (repeat' split) <;> rfl
@[simp] theorem raiseNotice_ring (k : NoticeKind) (o : Bool) (s : State) : (raiseNotice k o s).ring = s.ring := by
  unfold raiseNotice; dsimp only; (repeat' split) <;> rfl
@[simp] theorem raiseNotice_journal (k : NoticeKind) (o : Bool) (s : State) : (raiseNotice k o s).journal = s.journal := by
  unfold raiseNotice; dsimp only; (repeat' split) <;> rfl
@[simp] theorem raiseNotice_watch (k : NoticeKind) (o : Bool) (s : State) : (raiseNotice k o s).watch = s.watch := by
  unfold raiseNotice; dsimp only; (repeat' split) <;> rfl
@[simp] theorem raiseNotice_powerOns (k : NoticeKind) (o : Bool) (s : State) : (raiseNotice k o s).powerOns = s.powerOns := by
  unfold raiseNotice; dsimp only; (repeat' split) <;> rfl

/-! ## queueWrite: changes tmc -/

@[simp] theorem queueWrite_pending (b : WriteBody) (s : State) : (queueWrite b s).pending = s.pending := rfl
@[simp] theorem queueWrite_resetN (b : WriteBody) (s : State) : (queueWrite b s).resetN = s.resetN := rfl
@[simp] theorem queueWrite_tblen (b : WriteBody) (s : State) : (queueWrite b s).tblen = s.tblen := rfl
@[simp] theorem queueWrite_resetPending (b : WriteBody) (s : State) : (queueWrite b s).resetPending = s.resetPending := rfl
@[simp] theorem queueWrite_stores (b : WriteBody) (s : State) : (queueWrite b s).stores = s.stores := rfl
@[simp] theorem queueWrite_central (b : WriteBody) (s : State) : (queueWrite b s).central = s.central := rfl
@[simp] theorem queueWrite_dispatcher (b : WriteBody) (s : State) : (queueWrite b s).dispatcher = s.dispatcher := rfl
@[simp] theorem queueWrite_busy (b : WriteBody) (s : State) : (queueWrite b s).busy = s.busy := rfl
@[simp] theorem queueWrite_programs (b : WriteBody) (s : State) : (queueWrite b s).programs = s.programs := rfl
@[simp] theorem queueWrite_promotions (b : WriteBody) (s : State) : (queueWrite b s).promotions = s.promotions := rfl
@[simp] theorem queueWrite_slots (b : WriteBody) (s : State) : (queueWrite b s).slots = s.slots := rfl
@[simp] theorem queueWrite_freeList (b : WriteBody) (s : State) : (queueWrite b s).freeList = s.freeList := rfl
@[simp] theorem queueWrite_expiryList (b : WriteBody) (s : State) : (queueWrite b s).expiryList = s.expiryList := rfl
@[simp] theorem queueWrite_time (b : WriteBody) (s : State) : (queueWrite b s).time = s.time := rfl
@[simp] theorem queueWrite_cache (b : WriteBody) (s : State) : (queueWrite b s).cache = s.cache := rfl
@[simp] theorem queueWrite_cards (b : WriteBody) (s : State) : (queueWrite b s).cards = s.cards := rfl
@[simp] theorem queueWrite_ring (b : WriteBody) (s : State) : (queueWrite b s).ring = s.ring := rfl
@[simp] theorem queueWrite_journal (b : WriteBody) (s : State) : (queueWrite b s).journal = s.journal := rfl
@[simp] theorem queueWrite_watch (b : WriteBody) (s : State) : (queueWrite b s).watch = s.watch := rfl
@[simp] theorem queueWrite_mgmt (b : WriteBody) (s : State) : (queueWrite b s).mgmt = s.mgmt := rfl
@[simp] theorem queueWrite_powerOns (b : WriteBody) (s : State) : (queueWrite b s).powerOns = s.powerOns := rfl

/-! ## queueRead: changes tmc -/

@[simp] theorem queueRead_pending (b : ReadBody) (s : State) : (queueRead b s).pending = s.pending := rfl
@[simp] theorem queueRead_resetN (b : ReadBody) (s : State) : (queueRead b s).resetN = s.resetN := rfl
@[simp] theorem queueRead_tblen (b : ReadBody) (s : State) : (queueRead b s).tblen = s.tblen := rfl
@[simp] theorem queueRead_resetPending (b : ReadBody) (s : State) : (queueRead b s).resetPending = s.resetPending := rfl
@[simp] theorem queueRead_stores (b : ReadBody) (s : State) : (queueRead b s).stores = s.stores := rfl
@[simp] theorem queueRead_central (b : ReadBody) (s : State) : (queueRead b s).central = s.central := rfl
@[simp] theorem queueRead_dispatcher (b : ReadBody) (s : State) : (queueRead b s).dispatcher = s.dispatcher := rfl
@[simp] theorem queueRead_busy (b : ReadBody) (s : State) : (queueRead b s).busy = s.busy := rfl
@[simp] theorem queueRead_programs (b : ReadBody) (s : State) : (queueRead b s).programs = s.programs := rfl
@[simp] theorem queueRead_promotions (b : ReadBody) (s : State) : (queueRead b s).promotions = s.promotions := rfl
@[simp] theorem queueRead_slots (b : ReadBody) (s : State) : (queueRead b s).slots = s.slots := rfl
@[simp] theorem queueRead_freeList (b : ReadBody) (s : State) : (queueRead b s).freeList = s.freeList := rfl
@[simp] theorem queueRead_expiryList (b : ReadBody) (s : State) : (queueRead b s).expiryList = s.expiryList := rfl
@[simp] theorem queueRead_time (b : ReadBody) (s : State) : (queueRead b s).time = s.time := rfl
@[simp] theorem queueRead_cache (b : ReadBody) (s : State) : (queueRead b s).cache = s.cache := rfl
@[simp] theorem queueRead_cards (b : ReadBody) (s : State) : (queueRead b s).cards = s.cards := rfl
@[simp] theorem queueRead_ring (b : ReadBody) (s : State) : (queueRead b s).ring = s.ring := rfl
@[simp] theorem queueRead_journal (b : ReadBody) (s : State) : (queueRead b s).journal = s.journal := rfl
@[simp] theorem queueRead_watch (b : ReadBody) (s : State) : (queueRead b s).watch = s.watch := rfl
@[simp] theorem queueRead_mgmt (b : ReadBody) (s : State) : (queueRead b s).mgmt = s.mgmt := rfl
@[simp] theorem queueRead_powerOns (b : ReadBody) (s : State) : (queueRead b s).powerOns = s.powerOns := rfl

/-! ## appendJournal: changes journal, tmc, central, mgmt -/

@[simp] theorem appendJournal_pending (e : JournalEntry) (s : State) : (appendJournal e s).pending = s.pending := by
  unfold appendJournal; dsimp only; (repeat' split) <;> simp
@[simp] theorem appendJournal_resetN (e : JournalEntry) (s : State) : (appendJournal e s).resetN = s.resetN := by
  unfold appendJournal; dsimp only; (repeat' split) <;> simp
@[simp] theorem appendJournal_tblen (e : JournalEntry) (s : State) : (appendJournal e s).tblen = s.tblen := by
  unfold appendJournal; dsimp only; (repeat' split) <;> simp
@[simp] theorem appendJournal_resetPending (e : JournalEntry) (s : State) : (appendJournal e s).resetPending = s.resetPending := by
  unfold appendJournal; dsimp only; (repeat' split) <;> simp
@[simp] theorem appendJournal_stores (e : JournalEntry) (s : State) : (appendJournal e s).stores = s.stores := by
  unfold appendJournal; dsimp only; (repeat' split) <;> simp
@[simp] theorem appendJournal_dispatcher (e : JournalEntry) (s : State) : (appendJournal e s).dispatcher = s.dispatcher := by
  unfold appendJournal; dsimp only; (repeat' split) <;> simp
@[simp] theorem appendJournal_busy (e : JournalEntry) (s : State) : (appendJournal e s).busy = s.busy := by
  unfold appendJournal; dsimp only; (repeat' split) <;> simp
@[simp] theorem appendJournal_programs (e : JournalEntry) (s : State) : (appendJournal e s).programs = s.programs := by
  unfold appendJournal; dsimp only; (repeat' split) <;> simp
@[simp] theorem appendJournal_promotions (e : JournalEntry) (s : State) : (appendJournal e s).promotions = s.promotions := by
  unfold appendJournal; dsimp only; (repeat' split) <;> simp
@[simp] theorem appendJournal_slots (e : JournalEntry) (s : State) : (appendJournal e s).slots = s.slots := by
  unfold appendJournal; dsimp only; (repeat' split) <;> simp
@[simp] theorem appendJournal_freeList (e : JournalEntry) (s : State) : (appendJournal e s).freeList = s.freeList := by
  unfold appendJournal; dsimp only; (repeat' split) <;> simp
@[simp] theorem appendJournal_expiryList (e : JournalEntry) (s : State) : (appendJournal e s).expiryList = s.expiryList := by
  unfold appendJournal; dsimp only; (repeat' split) <;> simp
@[simp] theorem appendJournal_time (e : JournalEntry) (s : State) : (appendJournal e s).time = s.time := by
  unfold appendJournal; dsimp only; (repeat' split) <;> simp
@[simp] theorem appendJournal_cache (e : JournalEntry) (s : State) : (appendJournal e s).cache = s.cache := by
  unfold appendJournal; dsimp only; (repeat' split) <;> simp
@[simp] theorem appendJournal_cards (e : JournalEntry) (s : State) : (appendJournal e s).cards = s.cards := by
  unfold appendJournal; dsimp only; (repeat' split) <;> simp
@[simp] theorem appendJournal_ring (e : JournalEntry) (s : State) : (appendJournal e s).ring = s.ring := by
  unfold appendJournal; dsimp only; (repeat' split) <;> simp
@[simp] theorem appendJournal_watch (e : JournalEntry) (s : State) : (appendJournal e s).watch = s.watch := by
  unfold appendJournal; dsimp only; (repeat' split) <;> simp
@[simp] theorem appendJournal_powerOns (e : JournalEntry) (s : State) : (appendJournal e s).powerOns = s.powerOns := by
  unfold appendJournal; dsimp only; (repeat' split) <;> simp

/-! ## setProgram: changes programs -/

@[simp] theorem State.setProgram_pending (s : State) (p : Nat) (e : ProgramEntry) : (s.setProgram p e).pending = s.pending := rfl
@[simp] theorem State.setProgram_resetN (s : State) (p : Nat) (e : ProgramEntry) : (s.setProgram p e).resetN = s.resetN := rfl
@[simp] theorem State.setProgram_tblen (s : State) (p : Nat) (e : ProgramEntry) : (s.setProgram p e).tblen = s.tblen := rfl
@[simp] theorem State.setProgram_resetPending (s : State) (p : Nat) (e : ProgramEntry) : (s.setProgram p e).resetPending = s.resetPending := rfl
@[simp] theorem State.setProgram_stores (s : State) (p : Nat) (e : ProgramEntry) : (s.setProgram p e).stores = s.stores := rfl
@[simp] theorem State.setProgram_central (s : State) (p : Nat) (e : ProgramEntry) : (s.setProgram p e).central = s.central := rfl
@[simp] theorem State.setProgram_dispatcher (s : State) (p : Nat) (e : ProgramEntry) : (s.setProgram p e).dispatcher = s.dispatcher := rfl
@[simp] theorem State.setProgram_busy (s : State) (p : Nat) (e : ProgramEntry) : (s.setProgram p e).busy = s.busy := rfl
@[simp] theorem State.setProgram_promotions (s : State) (p : Nat) (e : ProgramEntry) : (s.setProgram p e).promotions = s.promotions := rfl
@[simp] theorem State.setProgram_slots (s : State) (p : Nat) (e : ProgramEntry) : (s.setProgram p e).slots = s.slots := rfl
@[simp] theorem State.setProgram_freeList (s : State) (p : Nat) (e : ProgramEntry) : (s.setProgram p e).freeList = s.freeList := rfl
@[simp] theorem State.setProgram_expiryList (s : State) (p : Nat) (e : ProgramEntry) : (s.setProgram p e).expiryList = s.expiryList := rfl
@[simp] theorem State.setProgram_time (s : State) (p : Nat) (e : ProgramEntry) : (s.setProgram p e).time = s.time := rfl
@[simp] theorem State.setProgram_cache (s : State) (p : Nat) (e : ProgramEntry) : (s.setProgram p e).cache = s.cache := rfl
@[simp] theorem State.setProgram_tmc (s : State) (p : Nat) (e : ProgramEntry) : (s.setProgram p e).tmc = s.tmc := rfl
@[simp] theorem State.setProgram_cards (s : State) (p : Nat) (e : ProgramEntry) : (s.setProgram p e).cards = s.cards := rfl
@[simp] theorem State.setProgram_ring (s : State) (p : Nat) (e : ProgramEntry) : (s.setProgram p e).ring = s.ring := rfl
@[simp] theorem State.setProgram_journal (s : State) (p : Nat) (e : ProgramEntry) : (s.setProgram p e).journal = s.journal := rfl
@[simp] theorem State.setProgram_watch (s : State) (p : Nat) (e : ProgramEntry) : (s.setProgram p e).watch = s.watch := rfl
@[simp] theorem State.setProgram_mgmt (s : State) (p : Nat) (e : ProgramEntry) : (s.setProgram p e).mgmt = s.mgmt := rfl
@[simp] theorem State.setProgram_powerOns (s : State) (p : Nat) (e : ProgramEntry) : (s.setProgram p e).powerOns = s.powerOns := rfl

/-! ## countIn: changes programs -/

@[simp] theorem countIn_pending (p : Option Nat) (s : State) : (countIn p s).pending = s.pending := by
  cases p <;> rfl
@[simp] theorem countIn_resetN (p : Option Nat) (s : State) : (countIn p s).resetN = s.resetN := by
  cases p <;> rfl
@[simp] theorem countIn_tblen (p : Option Nat) (s : State) : (countIn p s).tblen = s.tblen := by
  cases p <;> rfl
@[simp] theorem countIn_resetPending (p : Option Nat) (s : State) : (countIn p s).resetPending = s.resetPending := by
  cases p <;> rfl
@[simp] theorem countIn_stores (p : Option Nat) (s : State) : (countIn p s).stores = s.stores := by
  cases p <;> rfl
@[simp] theorem countIn_central (p : Option Nat) (s : State) : (countIn p s).central = s.central := by
  cases p <;> rfl
@[simp] theorem countIn_dispatcher (p : Option Nat) (s : State) : (countIn p s).dispatcher = s.dispatcher := by
  cases p <;> rfl
@[simp] theorem countIn_busy (p : Option Nat) (s : State) : (countIn p s).busy = s.busy := by
  cases p <;> rfl
@[simp] theorem countIn_promotions (p : Option Nat) (s : State) : (countIn p s).promotions = s.promotions := by
  cases p <;> rfl
@[simp] theorem countIn_slots (p : Option Nat) (s : State) : (countIn p s).slots = s.slots := by
  cases p <;> rfl
@[simp] theorem countIn_freeList (p : Option Nat) (s : State) : (countIn p s).freeList = s.freeList := by
  cases p <;> rfl
@[simp] theorem countIn_expiryList (p : Option Nat) (s : State) : (countIn p s).expiryList = s.expiryList := by
  cases p <;> rfl
@[simp] theorem countIn_time (p : Option Nat) (s : State) : (countIn p s).time = s.time := by
  cases p <;> rfl
@[simp] theorem countIn_cache (p : Option Nat) (s : State) : (countIn p s).cache = s.cache := by
  cases p <;> rfl
@[simp] theorem countIn_tmc (p : Option Nat) (s : State) : (countIn p s).tmc = s.tmc := by
  cases p <;> rfl
@[simp] theorem countIn_cards (p : Option Nat) (s : State) : (countIn p s).cards = s.cards := by
  cases p <;> rfl
@[simp] theorem countIn_ring (p : Option Nat) (s : State) : (countIn p s).ring = s.ring := by
  cases p <;> rfl
@[simp] theorem countIn_journal (p : Option Nat) (s : State) : (countIn p s).journal = s.journal := by
  cases p <;> rfl
@[simp] theorem countIn_watch (p : Option Nat) (s : State) : (countIn p s).watch = s.watch := by
  cases p <;> rfl
@[simp] theorem countIn_mgmt (p : Option Nat) (s : State) : (countIn p s).mgmt = s.mgmt := by
  cases p <;> rfl
@[simp] theorem countIn_powerOns (p : Option Nat) (s : State) : (countIn p s).powerOns = s.powerOns := by
  cases p <;> rfl

/-! ## countOut: changes programs -/

@[simp] theorem countOut_pending (p : Option Nat) (s : State) : (countOut p s).pending = s.pending := by
  cases p with
  | none => rfl
  | some n => unfold countOut; simp only; split <;> rfl
@[simp] theorem countOut_resetN (p : Option Nat) (s : State) : (countOut p s).resetN = s.resetN := by
  cases p with
  | none => rfl
  | some n => unfold countOut; simp only; split <;> rfl
@[simp] theorem countOut_tblen (p : Option Nat) (s : State) : (countOut p s).tblen = s.tblen := by
  cases p with
  | none => rfl
  | some n => unfold countOut; simp only; split <;> rfl
@[simp] theorem countOut_resetPending (p : Option Nat) (s : State) : (countOut p s).resetPending = s.resetPending := by
  cases p with
  | none => rfl
  | some n => unfold countOut; simp only; split <;> rfl
@[simp] theorem countOut_stores (p : Option Nat) (s : State) : (countOut p s).stores = s.stores := by
  cases p with
  | none => rfl
  | some n => unfold countOut; simp only; split <;> rfl
@[simp] theorem countOut_central (p : Option Nat) (s : State) : (countOut p s).central = s.central := by
  cases p with
  | none => rfl
  | some n => unfold countOut; simp only; split <;> rfl
@[simp] theorem countOut_dispatcher (p : Option Nat) (s : State) : (countOut p s).dispatcher = s.dispatcher := by
  cases p with
  | none => rfl
  | some n => unfold countOut; simp only; split <;> rfl
@[simp] theorem countOut_busy (p : Option Nat) (s : State) : (countOut p s).busy = s.busy := by
  cases p with
  | none => rfl
  | some n => unfold countOut; simp only; split <;> rfl
@[simp] theorem countOut_promotions (p : Option Nat) (s : State) : (countOut p s).promotions = s.promotions := by
  cases p with
  | none => rfl
  | some n => unfold countOut; simp only; split <;> rfl
@[simp] theorem countOut_slots (p : Option Nat) (s : State) : (countOut p s).slots = s.slots := by
  cases p with
  | none => rfl
  | some n => unfold countOut; simp only; split <;> rfl
@[simp] theorem countOut_freeList (p : Option Nat) (s : State) : (countOut p s).freeList = s.freeList := by
  cases p with
  | none => rfl
  | some n => unfold countOut; simp only; split <;> rfl
@[simp] theorem countOut_expiryList (p : Option Nat) (s : State) : (countOut p s).expiryList = s.expiryList := by
  cases p with
  | none => rfl
  | some n => unfold countOut; simp only; split <;> rfl
@[simp] theorem countOut_time (p : Option Nat) (s : State) : (countOut p s).time = s.time := by
  cases p with
  | none => rfl
  | some n => unfold countOut; simp only; split <;> rfl
@[simp] theorem countOut_cache (p : Option Nat) (s : State) : (countOut p s).cache = s.cache := by
  cases p with
  | none => rfl
  | some n => unfold countOut; simp only; split <;> rfl
@[simp] theorem countOut_tmc (p : Option Nat) (s : State) : (countOut p s).tmc = s.tmc := by
  cases p with
  | none => rfl
  | some n => unfold countOut; simp only; split <;> rfl
@[simp] theorem countOut_cards (p : Option Nat) (s : State) : (countOut p s).cards = s.cards := by
  cases p with
  | none => rfl
  | some n => unfold countOut; simp only; split <;> rfl
@[simp] theorem countOut_ring (p : Option Nat) (s : State) : (countOut p s).ring = s.ring := by
  cases p with
  | none => rfl
  | some n => unfold countOut; simp only; split <;> rfl
@[simp] theorem countOut_journal (p : Option Nat) (s : State) : (countOut p s).journal = s.journal := by
  cases p with
  | none => rfl
  | some n => unfold countOut; simp only; split <;> rfl
@[simp] theorem countOut_watch (p : Option Nat) (s : State) : (countOut p s).watch = s.watch := by
  cases p with
  | none => rfl
  | some n => unfold countOut; simp only; split <;> rfl
@[simp] theorem countOut_mgmt (p : Option Nat) (s : State) : (countOut p s).mgmt = s.mgmt := by
  cases p with
  | none => rfl
  | some n => unfold countOut; simp only; split <;> rfl
@[simp] theorem countOut_powerOns (p : Option Nat) (s : State) : (countOut p s).powerOns = s.powerOns := by
  cases p with
  | none => rfl
  | some n => unfold countOut; simp only; split <;> rfl

/-! ## countHold: changes programs -/

@[simp] theorem countHold_pending (p : Nat) (s : State) : (countHold p s).pending = s.pending := rfl
@[simp] theorem countHold_resetN (p : Nat) (s : State) : (countHold p s).resetN = s.resetN := rfl
@[simp] theorem countHold_tblen (p : Nat) (s : State) : (countHold p s).tblen = s.tblen := rfl
@[simp] theorem countHold_resetPending (p : Nat) (s : State) : (countHold p s).resetPending = s.resetPending := rfl
@[simp] theorem countHold_stores (p : Nat) (s : State) : (countHold p s).stores = s.stores := rfl
@[simp] theorem countHold_central (p : Nat) (s : State) : (countHold p s).central = s.central := rfl
@[simp] theorem countHold_dispatcher (p : Nat) (s : State) : (countHold p s).dispatcher = s.dispatcher := rfl
@[simp] theorem countHold_busy (p : Nat) (s : State) : (countHold p s).busy = s.busy := rfl
@[simp] theorem countHold_promotions (p : Nat) (s : State) : (countHold p s).promotions = s.promotions := rfl
@[simp] theorem countHold_slots (p : Nat) (s : State) : (countHold p s).slots = s.slots := rfl
@[simp] theorem countHold_freeList (p : Nat) (s : State) : (countHold p s).freeList = s.freeList := rfl
@[simp] theorem countHold_expiryList (p : Nat) (s : State) : (countHold p s).expiryList = s.expiryList := rfl
@[simp] theorem countHold_time (p : Nat) (s : State) : (countHold p s).time = s.time := rfl
@[simp] theorem countHold_cache (p : Nat) (s : State) : (countHold p s).cache = s.cache := rfl
@[simp] theorem countHold_tmc (p : Nat) (s : State) : (countHold p s).tmc = s.tmc := rfl
@[simp] theorem countHold_cards (p : Nat) (s : State) : (countHold p s).cards = s.cards := rfl
@[simp] theorem countHold_ring (p : Nat) (s : State) : (countHold p s).ring = s.ring := rfl
@[simp] theorem countHold_journal (p : Nat) (s : State) : (countHold p s).journal = s.journal := rfl
@[simp] theorem countHold_watch (p : Nat) (s : State) : (countHold p s).watch = s.watch := rfl
@[simp] theorem countHold_mgmt (p : Nat) (s : State) : (countHold p s).mgmt = s.mgmt := rfl
@[simp] theorem countHold_powerOns (p : Nat) (s : State) : (countHold p s).powerOns = s.powerOns := rfl

/-! ## uncountHold: changes programs -/

@[simp] theorem uncountHold_pending (p : Nat) (s : State) : (uncountHold p s).pending = s.pending := rfl
@[simp] theorem uncountHold_resetN (p : Nat) (s : State) : (uncountHold p s).resetN = s.resetN := rfl
@[simp] theorem uncountHold_tblen (p : Nat) (s : State) : (uncountHold p s).tblen = s.tblen := rfl
@[simp] theorem uncountHold_resetPending (p : Nat) (s : State) : (uncountHold p s).resetPending = s.resetPending := rfl
@[simp] theorem uncountHold_stores (p : Nat) (s : State) : (uncountHold p s).stores = s.stores := rfl
@[simp] theorem uncountHold_central (p : Nat) (s : State) : (uncountHold p s).central = s.central := rfl
@[simp] theorem uncountHold_dispatcher (p : Nat) (s : State) : (uncountHold p s).dispatcher = s.dispatcher := rfl
@[simp] theorem uncountHold_busy (p : Nat) (s : State) : (uncountHold p s).busy = s.busy := rfl
@[simp] theorem uncountHold_promotions (p : Nat) (s : State) : (uncountHold p s).promotions = s.promotions := rfl
@[simp] theorem uncountHold_slots (p : Nat) (s : State) : (uncountHold p s).slots = s.slots := rfl
@[simp] theorem uncountHold_freeList (p : Nat) (s : State) : (uncountHold p s).freeList = s.freeList := rfl
@[simp] theorem uncountHold_expiryList (p : Nat) (s : State) : (uncountHold p s).expiryList = s.expiryList := rfl
@[simp] theorem uncountHold_time (p : Nat) (s : State) : (uncountHold p s).time = s.time := rfl
@[simp] theorem uncountHold_cache (p : Nat) (s : State) : (uncountHold p s).cache = s.cache := rfl
@[simp] theorem uncountHold_tmc (p : Nat) (s : State) : (uncountHold p s).tmc = s.tmc := rfl
@[simp] theorem uncountHold_cards (p : Nat) (s : State) : (uncountHold p s).cards = s.cards := rfl
@[simp] theorem uncountHold_ring (p : Nat) (s : State) : (uncountHold p s).ring = s.ring := rfl
@[simp] theorem uncountHold_journal (p : Nat) (s : State) : (uncountHold p s).journal = s.journal := rfl
@[simp] theorem uncountHold_watch (p : Nat) (s : State) : (uncountHold p s).watch = s.watch := rfl
@[simp] theorem uncountHold_mgmt (p : Nat) (s : State) : (uncountHold p s).mgmt = s.mgmt := rfl
@[simp] theorem uncountHold_powerOns (p : Nat) (s : State) : (uncountHold p s).powerOns = s.powerOns := rfl

/-! ## setCacheSet: changes cache -/

@[simp] theorem State.setCacheSet_pending (s : State) (n : Nat) (c : CacheSet) : (s.setCacheSet n c).pending = s.pending := rfl
@[simp] theorem State.setCacheSet_resetN (s : State) (n : Nat) (c : CacheSet) : (s.setCacheSet n c).resetN = s.resetN := rfl
@[simp] theorem State.setCacheSet_tblen (s : State) (n : Nat) (c : CacheSet) : (s.setCacheSet n c).tblen = s.tblen := rfl
@[simp] theorem State.setCacheSet_resetPending (s : State) (n : Nat) (c : CacheSet) : (s.setCacheSet n c).resetPending = s.resetPending := rfl
@[simp] theorem State.setCacheSet_stores (s : State) (n : Nat) (c : CacheSet) : (s.setCacheSet n c).stores = s.stores := rfl
@[simp] theorem State.setCacheSet_central (s : State) (n : Nat) (c : CacheSet) : (s.setCacheSet n c).central = s.central := rfl
@[simp] theorem State.setCacheSet_dispatcher (s : State) (n : Nat) (c : CacheSet) : (s.setCacheSet n c).dispatcher = s.dispatcher := rfl
@[simp] theorem State.setCacheSet_busy (s : State) (n : Nat) (c : CacheSet) : (s.setCacheSet n c).busy = s.busy := rfl
@[simp] theorem State.setCacheSet_programs (s : State) (n : Nat) (c : CacheSet) : (s.setCacheSet n c).programs = s.programs := rfl
@[simp] theorem State.setCacheSet_promotions (s : State) (n : Nat) (c : CacheSet) : (s.setCacheSet n c).promotions = s.promotions := rfl
@[simp] theorem State.setCacheSet_slots (s : State) (n : Nat) (c : CacheSet) : (s.setCacheSet n c).slots = s.slots := rfl
@[simp] theorem State.setCacheSet_freeList (s : State) (n : Nat) (c : CacheSet) : (s.setCacheSet n c).freeList = s.freeList := rfl
@[simp] theorem State.setCacheSet_expiryList (s : State) (n : Nat) (c : CacheSet) : (s.setCacheSet n c).expiryList = s.expiryList := rfl
@[simp] theorem State.setCacheSet_time (s : State) (n : Nat) (c : CacheSet) : (s.setCacheSet n c).time = s.time := rfl
@[simp] theorem State.setCacheSet_tmc (s : State) (n : Nat) (c : CacheSet) : (s.setCacheSet n c).tmc = s.tmc := rfl
@[simp] theorem State.setCacheSet_cards (s : State) (n : Nat) (c : CacheSet) : (s.setCacheSet n c).cards = s.cards := rfl
@[simp] theorem State.setCacheSet_ring (s : State) (n : Nat) (c : CacheSet) : (s.setCacheSet n c).ring = s.ring := rfl
@[simp] theorem State.setCacheSet_journal (s : State) (n : Nat) (c : CacheSet) : (s.setCacheSet n c).journal = s.journal := rfl
@[simp] theorem State.setCacheSet_watch (s : State) (n : Nat) (c : CacheSet) : (s.setCacheSet n c).watch = s.watch := rfl
@[simp] theorem State.setCacheSet_mgmt (s : State) (n : Nat) (c : CacheSet) : (s.setCacheSet n c).mgmt = s.mgmt := rfl
@[simp] theorem State.setCacheSet_powerOns (s : State) (n : Nat) (c : CacheSet) : (s.setCacheSet n c).powerOns = s.powerOns := rfl

/-! ## setWayAt: changes cache -/

@[simp] theorem State.setWayAt_pending (s : State) (card w : Nat) (v : Way) : (s.setWayAt card w v).pending = s.pending := rfl
@[simp] theorem State.setWayAt_resetN (s : State) (card w : Nat) (v : Way) : (s.setWayAt card w v).resetN = s.resetN := rfl
@[simp] theorem State.setWayAt_tblen (s : State) (card w : Nat) (v : Way) : (s.setWayAt card w v).tblen = s.tblen := rfl
@[simp] theorem State.setWayAt_resetPending (s : State) (card w : Nat) (v : Way) : (s.setWayAt card w v).resetPending = s.resetPending := rfl
@[simp] theorem State.setWayAt_stores (s : State) (card w : Nat) (v : Way) : (s.setWayAt card w v).stores = s.stores := rfl
@[simp] theorem State.setWayAt_central (s : State) (card w : Nat) (v : Way) : (s.setWayAt card w v).central = s.central := rfl
@[simp] theorem State.setWayAt_dispatcher (s : State) (card w : Nat) (v : Way) : (s.setWayAt card w v).dispatcher = s.dispatcher := rfl
@[simp] theorem State.setWayAt_busy (s : State) (card w : Nat) (v : Way) : (s.setWayAt card w v).busy = s.busy := rfl
@[simp] theorem State.setWayAt_programs (s : State) (card w : Nat) (v : Way) : (s.setWayAt card w v).programs = s.programs := rfl
@[simp] theorem State.setWayAt_promotions (s : State) (card w : Nat) (v : Way) : (s.setWayAt card w v).promotions = s.promotions := rfl
@[simp] theorem State.setWayAt_slots (s : State) (card w : Nat) (v : Way) : (s.setWayAt card w v).slots = s.slots := rfl
@[simp] theorem State.setWayAt_freeList (s : State) (card w : Nat) (v : Way) : (s.setWayAt card w v).freeList = s.freeList := rfl
@[simp] theorem State.setWayAt_expiryList (s : State) (card w : Nat) (v : Way) : (s.setWayAt card w v).expiryList = s.expiryList := rfl
@[simp] theorem State.setWayAt_time (s : State) (card w : Nat) (v : Way) : (s.setWayAt card w v).time = s.time := rfl
@[simp] theorem State.setWayAt_tmc (s : State) (card w : Nat) (v : Way) : (s.setWayAt card w v).tmc = s.tmc := rfl
@[simp] theorem State.setWayAt_cards (s : State) (card w : Nat) (v : Way) : (s.setWayAt card w v).cards = s.cards := rfl
@[simp] theorem State.setWayAt_ring (s : State) (card w : Nat) (v : Way) : (s.setWayAt card w v).ring = s.ring := rfl
@[simp] theorem State.setWayAt_journal (s : State) (card w : Nat) (v : Way) : (s.setWayAt card w v).journal = s.journal := rfl
@[simp] theorem State.setWayAt_watch (s : State) (card w : Nat) (v : Way) : (s.setWayAt card w v).watch = s.watch := rfl
@[simp] theorem State.setWayAt_mgmt (s : State) (card w : Nat) (v : Way) : (s.setWayAt card w v).mgmt = s.mgmt := rfl
@[simp] theorem State.setWayAt_powerOns (s : State) (card w : Nat) (v : Way) : (s.setWayAt card w v).powerOns = s.powerOns := rfl

/-! ## invalidateCard: changes cache -/

@[simp] theorem invalidateCard_pending (card : Nat) (s : State) : (invalidateCard card s).pending = s.pending := by
  unfold invalidateCard; split <;> rfl
@[simp] theorem invalidateCard_resetN (card : Nat) (s : State) : (invalidateCard card s).resetN = s.resetN := by
  unfold invalidateCard; split <;> rfl
@[simp] theorem invalidateCard_tblen (card : Nat) (s : State) : (invalidateCard card s).tblen = s.tblen := by
  unfold invalidateCard; split <;> rfl
@[simp] theorem invalidateCard_resetPending (card : Nat) (s : State) : (invalidateCard card s).resetPending = s.resetPending := by
  unfold invalidateCard; split <;> rfl
@[simp] theorem invalidateCard_stores (card : Nat) (s : State) : (invalidateCard card s).stores = s.stores := by
  unfold invalidateCard; split <;> rfl
@[simp] theorem invalidateCard_central (card : Nat) (s : State) : (invalidateCard card s).central = s.central := by
  unfold invalidateCard; split <;> rfl
@[simp] theorem invalidateCard_dispatcher (card : Nat) (s : State) : (invalidateCard card s).dispatcher = s.dispatcher := by
  unfold invalidateCard; split <;> rfl
@[simp] theorem invalidateCard_busy (card : Nat) (s : State) : (invalidateCard card s).busy = s.busy := by
  unfold invalidateCard; split <;> rfl
@[simp] theorem invalidateCard_programs (card : Nat) (s : State) : (invalidateCard card s).programs = s.programs := by
  unfold invalidateCard; split <;> rfl
@[simp] theorem invalidateCard_promotions (card : Nat) (s : State) : (invalidateCard card s).promotions = s.promotions := by
  unfold invalidateCard; split <;> rfl
@[simp] theorem invalidateCard_slots (card : Nat) (s : State) : (invalidateCard card s).slots = s.slots := by
  unfold invalidateCard; split <;> rfl
@[simp] theorem invalidateCard_freeList (card : Nat) (s : State) : (invalidateCard card s).freeList = s.freeList := by
  unfold invalidateCard; split <;> rfl
@[simp] theorem invalidateCard_expiryList (card : Nat) (s : State) : (invalidateCard card s).expiryList = s.expiryList := by
  unfold invalidateCard; split <;> rfl
@[simp] theorem invalidateCard_time (card : Nat) (s : State) : (invalidateCard card s).time = s.time := by
  unfold invalidateCard; split <;> rfl
@[simp] theorem invalidateCard_tmc (card : Nat) (s : State) : (invalidateCard card s).tmc = s.tmc := by
  unfold invalidateCard; split <;> rfl
@[simp] theorem invalidateCard_cards (card : Nat) (s : State) : (invalidateCard card s).cards = s.cards := by
  unfold invalidateCard; split <;> rfl
@[simp] theorem invalidateCard_ring (card : Nat) (s : State) : (invalidateCard card s).ring = s.ring := by
  unfold invalidateCard; split <;> rfl
@[simp] theorem invalidateCard_journal (card : Nat) (s : State) : (invalidateCard card s).journal = s.journal := by
  unfold invalidateCard; split <;> rfl
@[simp] theorem invalidateCard_watch (card : Nat) (s : State) : (invalidateCard card s).watch = s.watch := by
  unfold invalidateCard; split <;> rfl
@[simp] theorem invalidateCard_mgmt (card : Nat) (s : State) : (invalidateCard card s).mgmt = s.mgmt := by
  unfold invalidateCard; split <;> rfl
@[simp] theorem invalidateCard_powerOns (card : Nat) (s : State) : (invalidateCard card s).powerOns = s.powerOns := by
  unfold invalidateCard; split <;> rfl

/-! ## updateBusy: changes busy -/

@[simp] theorem updateBusy_pending (card : Nat) (f : BusyEntry → BusyEntry) (s : State) : (updateBusy card f s).pending = s.pending := rfl
@[simp] theorem updateBusy_resetN (card : Nat) (f : BusyEntry → BusyEntry) (s : State) : (updateBusy card f s).resetN = s.resetN := rfl
@[simp] theorem updateBusy_tblen (card : Nat) (f : BusyEntry → BusyEntry) (s : State) : (updateBusy card f s).tblen = s.tblen := rfl
@[simp] theorem updateBusy_resetPending (card : Nat) (f : BusyEntry → BusyEntry) (s : State) : (updateBusy card f s).resetPending = s.resetPending := rfl
@[simp] theorem updateBusy_stores (card : Nat) (f : BusyEntry → BusyEntry) (s : State) : (updateBusy card f s).stores = s.stores := rfl
@[simp] theorem updateBusy_central (card : Nat) (f : BusyEntry → BusyEntry) (s : State) : (updateBusy card f s).central = s.central := rfl
@[simp] theorem updateBusy_dispatcher (card : Nat) (f : BusyEntry → BusyEntry) (s : State) : (updateBusy card f s).dispatcher = s.dispatcher := rfl
@[simp] theorem updateBusy_programs (card : Nat) (f : BusyEntry → BusyEntry) (s : State) : (updateBusy card f s).programs = s.programs := rfl
@[simp] theorem updateBusy_promotions (card : Nat) (f : BusyEntry → BusyEntry) (s : State) : (updateBusy card f s).promotions = s.promotions := rfl
@[simp] theorem updateBusy_slots (card : Nat) (f : BusyEntry → BusyEntry) (s : State) : (updateBusy card f s).slots = s.slots := rfl
@[simp] theorem updateBusy_freeList (card : Nat) (f : BusyEntry → BusyEntry) (s : State) : (updateBusy card f s).freeList = s.freeList := rfl
@[simp] theorem updateBusy_expiryList (card : Nat) (f : BusyEntry → BusyEntry) (s : State) : (updateBusy card f s).expiryList = s.expiryList := rfl
@[simp] theorem updateBusy_time (card : Nat) (f : BusyEntry → BusyEntry) (s : State) : (updateBusy card f s).time = s.time := rfl
@[simp] theorem updateBusy_cache (card : Nat) (f : BusyEntry → BusyEntry) (s : State) : (updateBusy card f s).cache = s.cache := rfl
@[simp] theorem updateBusy_tmc (card : Nat) (f : BusyEntry → BusyEntry) (s : State) : (updateBusy card f s).tmc = s.tmc := rfl
@[simp] theorem updateBusy_cards (card : Nat) (f : BusyEntry → BusyEntry) (s : State) : (updateBusy card f s).cards = s.cards := rfl
@[simp] theorem updateBusy_ring (card : Nat) (f : BusyEntry → BusyEntry) (s : State) : (updateBusy card f s).ring = s.ring := rfl
@[simp] theorem updateBusy_journal (card : Nat) (f : BusyEntry → BusyEntry) (s : State) : (updateBusy card f s).journal = s.journal := rfl
@[simp] theorem updateBusy_watch (card : Nat) (f : BusyEntry → BusyEntry) (s : State) : (updateBusy card f s).watch = s.watch := rfl
@[simp] theorem updateBusy_mgmt (card : Nat) (f : BusyEntry → BusyEntry) (s : State) : (updateBusy card f s).mgmt = s.mgmt := rfl
@[simp] theorem updateBusy_powerOns (card : Nat) (f : BusyEntry → BusyEntry) (s : State) : (updateBusy card f s).powerOns = s.powerOns := rfl

/-! ## startFetch: changes cache, busy, tmc -/

@[simp] theorem startFetch_pending (s : State) (card : Nat) : (startFetch s card).pending = s.pending := by
  unfold startFetch takeWay; dsimp only; cases chooseWay (s.cacheSet (setOf card)) <;> rfl
@[simp] theorem startFetch_resetN (s : State) (card : Nat) : (startFetch s card).resetN = s.resetN := by
  unfold startFetch takeWay; dsimp only; cases chooseWay (s.cacheSet (setOf card)) <;> rfl
@[simp] theorem startFetch_tblen (s : State) (card : Nat) : (startFetch s card).tblen = s.tblen := by
  unfold startFetch takeWay; dsimp only; cases chooseWay (s.cacheSet (setOf card)) <;> rfl
@[simp] theorem startFetch_resetPending (s : State) (card : Nat) : (startFetch s card).resetPending = s.resetPending := by
  unfold startFetch takeWay; dsimp only; cases chooseWay (s.cacheSet (setOf card)) <;> rfl
@[simp] theorem startFetch_stores (s : State) (card : Nat) : (startFetch s card).stores = s.stores := by
  unfold startFetch takeWay; dsimp only; cases chooseWay (s.cacheSet (setOf card)) <;> rfl
@[simp] theorem startFetch_central (s : State) (card : Nat) : (startFetch s card).central = s.central := by
  unfold startFetch takeWay; dsimp only; cases chooseWay (s.cacheSet (setOf card)) <;> rfl
@[simp] theorem startFetch_dispatcher (s : State) (card : Nat) : (startFetch s card).dispatcher = s.dispatcher := by
  unfold startFetch takeWay; dsimp only; cases chooseWay (s.cacheSet (setOf card)) <;> rfl
@[simp] theorem startFetch_programs (s : State) (card : Nat) : (startFetch s card).programs = s.programs := by
  unfold startFetch takeWay; dsimp only; cases chooseWay (s.cacheSet (setOf card)) <;> rfl
@[simp] theorem startFetch_promotions (s : State) (card : Nat) : (startFetch s card).promotions = s.promotions := by
  unfold startFetch takeWay; dsimp only; cases chooseWay (s.cacheSet (setOf card)) <;> rfl
@[simp] theorem startFetch_slots (s : State) (card : Nat) : (startFetch s card).slots = s.slots := by
  unfold startFetch takeWay; dsimp only; cases chooseWay (s.cacheSet (setOf card)) <;> rfl
@[simp] theorem startFetch_freeList (s : State) (card : Nat) : (startFetch s card).freeList = s.freeList := by
  unfold startFetch takeWay; dsimp only; cases chooseWay (s.cacheSet (setOf card)) <;> rfl
@[simp] theorem startFetch_expiryList (s : State) (card : Nat) : (startFetch s card).expiryList = s.expiryList := by
  unfold startFetch takeWay; dsimp only; cases chooseWay (s.cacheSet (setOf card)) <;> rfl
@[simp] theorem startFetch_time (s : State) (card : Nat) : (startFetch s card).time = s.time := by
  unfold startFetch takeWay; dsimp only; cases chooseWay (s.cacheSet (setOf card)) <;> rfl
@[simp] theorem startFetch_cards (s : State) (card : Nat) : (startFetch s card).cards = s.cards := by
  unfold startFetch takeWay; dsimp only; cases chooseWay (s.cacheSet (setOf card)) <;> rfl
@[simp] theorem startFetch_ring (s : State) (card : Nat) : (startFetch s card).ring = s.ring := by
  unfold startFetch takeWay; dsimp only; cases chooseWay (s.cacheSet (setOf card)) <;> rfl
@[simp] theorem startFetch_journal (s : State) (card : Nat) : (startFetch s card).journal = s.journal := by
  unfold startFetch takeWay; dsimp only; cases chooseWay (s.cacheSet (setOf card)) <;> rfl
@[simp] theorem startFetch_watch (s : State) (card : Nat) : (startFetch s card).watch = s.watch := by
  unfold startFetch takeWay; dsimp only; cases chooseWay (s.cacheSet (setOf card)) <;> rfl
@[simp] theorem startFetch_mgmt (s : State) (card : Nat) : (startFetch s card).mgmt = s.mgmt := by
  unfold startFetch takeWay; dsimp only; cases chooseWay (s.cacheSet (setOf card)) <;> rfl
@[simp] theorem startFetch_powerOns (s : State) (card : Nat) : (startFetch s card).powerOns = s.powerOns := by
  unfold startFetch takeWay; dsimp only; cases chooseWay (s.cacheSet (setOf card)) <;> rfl

/-! ## startWaiting: changes cache, busy, tmc -/

@[simp] theorem startWaiting_pending (set : Nat) (s : State) : (startWaiting set s).pending = s.pending := by
  unfold startWaiting
  generalize ((s.busy.filter fun e => decide (e.state = .fetchWait) && setOf e.card == set).map (·.card)) = l
  induction l generalizing s with
  | nil => rfl
  | cons c l ih => simp [ih]
@[simp] theorem startWaiting_resetN (set : Nat) (s : State) : (startWaiting set s).resetN = s.resetN := by
  unfold startWaiting
  generalize ((s.busy.filter fun e => decide (e.state = .fetchWait) && setOf e.card == set).map (·.card)) = l
  induction l generalizing s with
  | nil => rfl
  | cons c l ih => simp [ih]
@[simp] theorem startWaiting_tblen (set : Nat) (s : State) : (startWaiting set s).tblen = s.tblen := by
  unfold startWaiting
  generalize ((s.busy.filter fun e => decide (e.state = .fetchWait) && setOf e.card == set).map (·.card)) = l
  induction l generalizing s with
  | nil => rfl
  | cons c l ih => simp [ih]
@[simp] theorem startWaiting_resetPending (set : Nat) (s : State) : (startWaiting set s).resetPending = s.resetPending := by
  unfold startWaiting
  generalize ((s.busy.filter fun e => decide (e.state = .fetchWait) && setOf e.card == set).map (·.card)) = l
  induction l generalizing s with
  | nil => rfl
  | cons c l ih => simp [ih]
@[simp] theorem startWaiting_stores (set : Nat) (s : State) : (startWaiting set s).stores = s.stores := by
  unfold startWaiting
  generalize ((s.busy.filter fun e => decide (e.state = .fetchWait) && setOf e.card == set).map (·.card)) = l
  induction l generalizing s with
  | nil => rfl
  | cons c l ih => simp [ih]
@[simp] theorem startWaiting_central (set : Nat) (s : State) : (startWaiting set s).central = s.central := by
  unfold startWaiting
  generalize ((s.busy.filter fun e => decide (e.state = .fetchWait) && setOf e.card == set).map (·.card)) = l
  induction l generalizing s with
  | nil => rfl
  | cons c l ih => simp [ih]
@[simp] theorem startWaiting_dispatcher (set : Nat) (s : State) : (startWaiting set s).dispatcher = s.dispatcher := by
  unfold startWaiting
  generalize ((s.busy.filter fun e => decide (e.state = .fetchWait) && setOf e.card == set).map (·.card)) = l
  induction l generalizing s with
  | nil => rfl
  | cons c l ih => simp [ih]
@[simp] theorem startWaiting_programs (set : Nat) (s : State) : (startWaiting set s).programs = s.programs := by
  unfold startWaiting
  generalize ((s.busy.filter fun e => decide (e.state = .fetchWait) && setOf e.card == set).map (·.card)) = l
  induction l generalizing s with
  | nil => rfl
  | cons c l ih => simp [ih]
@[simp] theorem startWaiting_promotions (set : Nat) (s : State) : (startWaiting set s).promotions = s.promotions := by
  unfold startWaiting
  generalize ((s.busy.filter fun e => decide (e.state = .fetchWait) && setOf e.card == set).map (·.card)) = l
  induction l generalizing s with
  | nil => rfl
  | cons c l ih => simp [ih]
@[simp] theorem startWaiting_slots (set : Nat) (s : State) : (startWaiting set s).slots = s.slots := by
  unfold startWaiting
  generalize ((s.busy.filter fun e => decide (e.state = .fetchWait) && setOf e.card == set).map (·.card)) = l
  induction l generalizing s with
  | nil => rfl
  | cons c l ih => simp [ih]
@[simp] theorem startWaiting_freeList (set : Nat) (s : State) : (startWaiting set s).freeList = s.freeList := by
  unfold startWaiting
  generalize ((s.busy.filter fun e => decide (e.state = .fetchWait) && setOf e.card == set).map (·.card)) = l
  induction l generalizing s with
  | nil => rfl
  | cons c l ih => simp [ih]
@[simp] theorem startWaiting_expiryList (set : Nat) (s : State) : (startWaiting set s).expiryList = s.expiryList := by
  unfold startWaiting
  generalize ((s.busy.filter fun e => decide (e.state = .fetchWait) && setOf e.card == set).map (·.card)) = l
  induction l generalizing s with
  | nil => rfl
  | cons c l ih => simp [ih]
@[simp] theorem startWaiting_time (set : Nat) (s : State) : (startWaiting set s).time = s.time := by
  unfold startWaiting
  generalize ((s.busy.filter fun e => decide (e.state = .fetchWait) && setOf e.card == set).map (·.card)) = l
  induction l generalizing s with
  | nil => rfl
  | cons c l ih => simp [ih]
@[simp] theorem startWaiting_cards (set : Nat) (s : State) : (startWaiting set s).cards = s.cards := by
  unfold startWaiting
  generalize ((s.busy.filter fun e => decide (e.state = .fetchWait) && setOf e.card == set).map (·.card)) = l
  induction l generalizing s with
  | nil => rfl
  | cons c l ih => simp [ih]
@[simp] theorem startWaiting_ring (set : Nat) (s : State) : (startWaiting set s).ring = s.ring := by
  unfold startWaiting
  generalize ((s.busy.filter fun e => decide (e.state = .fetchWait) && setOf e.card == set).map (·.card)) = l
  induction l generalizing s with
  | nil => rfl
  | cons c l ih => simp [ih]
@[simp] theorem startWaiting_journal (set : Nat) (s : State) : (startWaiting set s).journal = s.journal := by
  unfold startWaiting
  generalize ((s.busy.filter fun e => decide (e.state = .fetchWait) && setOf e.card == set).map (·.card)) = l
  induction l generalizing s with
  | nil => rfl
  | cons c l ih => simp [ih]
@[simp] theorem startWaiting_watch (set : Nat) (s : State) : (startWaiting set s).watch = s.watch := by
  unfold startWaiting
  generalize ((s.busy.filter fun e => decide (e.state = .fetchWait) && setOf e.card == set).map (·.card)) = l
  induction l generalizing s with
  | nil => rfl
  | cons c l ih => simp [ih]
@[simp] theorem startWaiting_mgmt (set : Nat) (s : State) : (startWaiting set s).mgmt = s.mgmt := by
  unfold startWaiting
  generalize ((s.busy.filter fun e => decide (e.state = .fetchWait) && setOf e.card == set).map (·.card)) = l
  induction l generalizing s with
  | nil => rfl
  | cons c l ih => simp [ih]
@[simp] theorem startWaiting_powerOns (set : Nat) (s : State) : (startWaiting set s).powerOns = s.powerOns := by
  unfold startWaiting
  generalize ((s.busy.filter fun e => decide (e.state = .fetchWait) && setOf e.card == set).map (·.card)) = l
  induction l generalizing s with
  | nil => rfl
  | cons c l ih => simp [ih]

/-! ## freeEntry: changes busy, cache, dispatcher, tmc -/

@[simp] theorem freeEntry_pending (card : Nat) (s : State) : (freeEntry card s).pending = s.pending := by
  unfold freeEntry; split
  · rfl
  · simp only [startWaiting_pending]
    split <;> rfl
@[simp] theorem freeEntry_resetN (card : Nat) (s : State) : (freeEntry card s).resetN = s.resetN := by
  unfold freeEntry; split
  · rfl
  · simp only [startWaiting_resetN]
    split <;> rfl
@[simp] theorem freeEntry_tblen (card : Nat) (s : State) : (freeEntry card s).tblen = s.tblen := by
  unfold freeEntry; split
  · rfl
  · simp only [startWaiting_tblen]
    split <;> rfl
@[simp] theorem freeEntry_resetPending (card : Nat) (s : State) : (freeEntry card s).resetPending = s.resetPending := by
  unfold freeEntry; split
  · rfl
  · simp only [startWaiting_resetPending]
    split <;> rfl
@[simp] theorem freeEntry_stores (card : Nat) (s : State) : (freeEntry card s).stores = s.stores := by
  unfold freeEntry; split
  · rfl
  · simp only [startWaiting_stores]
    split <;> rfl
@[simp] theorem freeEntry_central (card : Nat) (s : State) : (freeEntry card s).central = s.central := by
  unfold freeEntry; split
  · rfl
  · simp only [startWaiting_central]
    split <;> rfl
@[simp] theorem freeEntry_programs (card : Nat) (s : State) : (freeEntry card s).programs = s.programs := by
  unfold freeEntry; split
  · rfl
  · simp only [startWaiting_programs]
    split <;> rfl
@[simp] theorem freeEntry_promotions (card : Nat) (s : State) : (freeEntry card s).promotions = s.promotions := by
  unfold freeEntry; split
  · rfl
  · simp only [startWaiting_promotions]
    split <;> rfl
@[simp] theorem freeEntry_slots (card : Nat) (s : State) : (freeEntry card s).slots = s.slots := by
  unfold freeEntry; split
  · rfl
  · simp only [startWaiting_slots]
    split <;> rfl
@[simp] theorem freeEntry_freeList (card : Nat) (s : State) : (freeEntry card s).freeList = s.freeList := by
  unfold freeEntry; split
  · rfl
  · simp only [startWaiting_freeList]
    split <;> rfl
@[simp] theorem freeEntry_expiryList (card : Nat) (s : State) : (freeEntry card s).expiryList = s.expiryList := by
  unfold freeEntry; split
  · rfl
  · simp only [startWaiting_expiryList]
    split <;> rfl
@[simp] theorem freeEntry_time (card : Nat) (s : State) : (freeEntry card s).time = s.time := by
  unfold freeEntry; split
  · rfl
  · simp only [startWaiting_time]
    split <;> rfl
@[simp] theorem freeEntry_cards (card : Nat) (s : State) : (freeEntry card s).cards = s.cards := by
  unfold freeEntry; split
  · rfl
  · simp only [startWaiting_cards]
    split <;> rfl
@[simp] theorem freeEntry_ring (card : Nat) (s : State) : (freeEntry card s).ring = s.ring := by
  unfold freeEntry; split
  · rfl
  · simp only [startWaiting_ring]
    split <;> rfl
@[simp] theorem freeEntry_journal (card : Nat) (s : State) : (freeEntry card s).journal = s.journal := by
  unfold freeEntry; split
  · rfl
  · simp only [startWaiting_journal]
    split <;> rfl
@[simp] theorem freeEntry_watch (card : Nat) (s : State) : (freeEntry card s).watch = s.watch := by
  unfold freeEntry; split
  · rfl
  · simp only [startWaiting_watch]
    split <;> rfl
@[simp] theorem freeEntry_mgmt (card : Nat) (s : State) : (freeEntry card s).mgmt = s.mgmt := by
  unfold freeEntry; split
  · rfl
  · simp only [startWaiting_mgmt]
    split <;> rfl
@[simp] theorem freeEntry_powerOns (card : Nat) (s : State) : (freeEntry card s).powerOns = s.powerOns := by
  unfold freeEntry; split
  · rfl
  · simp only [startWaiting_powerOns]
    split <;> rfl

/-! ## freeIfDone: changes busy, cache, dispatcher, tmc -/

@[simp] theorem freeIfDone_pending (card : Nat) (s : State) : (freeIfDone card s).pending = s.pending := by
  unfold freeIfDone; split
  · rfl
  · split <;> simp
@[simp] theorem freeIfDone_resetN (card : Nat) (s : State) : (freeIfDone card s).resetN = s.resetN := by
  unfold freeIfDone; split
  · rfl
  · split <;> simp
@[simp] theorem freeIfDone_tblen (card : Nat) (s : State) : (freeIfDone card s).tblen = s.tblen := by
  unfold freeIfDone; split
  · rfl
  · split <;> simp
@[simp] theorem freeIfDone_resetPending (card : Nat) (s : State) : (freeIfDone card s).resetPending = s.resetPending := by
  unfold freeIfDone; split
  · rfl
  · split <;> simp
@[simp] theorem freeIfDone_stores (card : Nat) (s : State) : (freeIfDone card s).stores = s.stores := by
  unfold freeIfDone; split
  · rfl
  · split <;> simp
@[simp] theorem freeIfDone_central (card : Nat) (s : State) : (freeIfDone card s).central = s.central := by
  unfold freeIfDone; split
  · rfl
  · split <;> simp
@[simp] theorem freeIfDone_programs (card : Nat) (s : State) : (freeIfDone card s).programs = s.programs := by
  unfold freeIfDone; split
  · rfl
  · split <;> simp
@[simp] theorem freeIfDone_promotions (card : Nat) (s : State) : (freeIfDone card s).promotions = s.promotions := by
  unfold freeIfDone; split
  · rfl
  · split <;> simp
@[simp] theorem freeIfDone_slots (card : Nat) (s : State) : (freeIfDone card s).slots = s.slots := by
  unfold freeIfDone; split
  · rfl
  · split <;> simp
@[simp] theorem freeIfDone_freeList (card : Nat) (s : State) : (freeIfDone card s).freeList = s.freeList := by
  unfold freeIfDone; split
  · rfl
  · split <;> simp
@[simp] theorem freeIfDone_expiryList (card : Nat) (s : State) : (freeIfDone card s).expiryList = s.expiryList := by
  unfold freeIfDone; split
  · rfl
  · split <;> simp
@[simp] theorem freeIfDone_time (card : Nat) (s : State) : (freeIfDone card s).time = s.time := by
  unfold freeIfDone; split
  · rfl
  · split <;> simp
@[simp] theorem freeIfDone_cards (card : Nat) (s : State) : (freeIfDone card s).cards = s.cards := by
  unfold freeIfDone; split
  · rfl
  · split <;> simp
@[simp] theorem freeIfDone_ring (card : Nat) (s : State) : (freeIfDone card s).ring = s.ring := by
  unfold freeIfDone; split
  · rfl
  · split <;> simp
@[simp] theorem freeIfDone_journal (card : Nat) (s : State) : (freeIfDone card s).journal = s.journal := by
  unfold freeIfDone; split
  · rfl
  · split <;> simp
@[simp] theorem freeIfDone_watch (card : Nat) (s : State) : (freeIfDone card s).watch = s.watch := by
  unfold freeIfDone; split
  · rfl
  · split <;> simp
@[simp] theorem freeIfDone_mgmt (card : Nat) (s : State) : (freeIfDone card s).mgmt = s.mgmt := by
  unfold freeIfDone; split
  · rfl
  · split <;> simp
@[simp] theorem freeIfDone_powerOns (card : Nat) (s : State) : (freeIfDone card s).powerOns = s.powerOns := by
  unfold freeIfDone; split
  · rfl
  · split <;> simp

/-! ## newEntry: changes cache, busy, tmc -/

@[simp] theorem newEntry_pending (it : Item) (s : State) : (newEntry it s).pending = s.pending := by
  unfold newEntry takeWay; dsimp only; split
  · rfl
  · cases chooseWay (s.cacheSet (setOf it.card)) <;> rfl
@[simp] theorem newEntry_resetN (it : Item) (s : State) : (newEntry it s).resetN = s.resetN := by
  unfold newEntry takeWay; dsimp only; split
  · rfl
  · cases chooseWay (s.cacheSet (setOf it.card)) <;> rfl
@[simp] theorem newEntry_tblen (it : Item) (s : State) : (newEntry it s).tblen = s.tblen := by
  unfold newEntry takeWay; dsimp only; split
  · rfl
  · cases chooseWay (s.cacheSet (setOf it.card)) <;> rfl
@[simp] theorem newEntry_resetPending (it : Item) (s : State) : (newEntry it s).resetPending = s.resetPending := by
  unfold newEntry takeWay; dsimp only; split
  · rfl
  · cases chooseWay (s.cacheSet (setOf it.card)) <;> rfl
@[simp] theorem newEntry_stores (it : Item) (s : State) : (newEntry it s).stores = s.stores := by
  unfold newEntry takeWay; dsimp only; split
  · rfl
  · cases chooseWay (s.cacheSet (setOf it.card)) <;> rfl
@[simp] theorem newEntry_central (it : Item) (s : State) : (newEntry it s).central = s.central := by
  unfold newEntry takeWay; dsimp only; split
  · rfl
  · cases chooseWay (s.cacheSet (setOf it.card)) <;> rfl
@[simp] theorem newEntry_dispatcher (it : Item) (s : State) : (newEntry it s).dispatcher = s.dispatcher := by
  unfold newEntry takeWay; dsimp only; split
  · rfl
  · cases chooseWay (s.cacheSet (setOf it.card)) <;> rfl
@[simp] theorem newEntry_programs (it : Item) (s : State) : (newEntry it s).programs = s.programs := by
  unfold newEntry takeWay; dsimp only; split
  · rfl
  · cases chooseWay (s.cacheSet (setOf it.card)) <;> rfl
@[simp] theorem newEntry_promotions (it : Item) (s : State) : (newEntry it s).promotions = s.promotions := by
  unfold newEntry takeWay; dsimp only; split
  · rfl
  · cases chooseWay (s.cacheSet (setOf it.card)) <;> rfl
@[simp] theorem newEntry_slots (it : Item) (s : State) : (newEntry it s).slots = s.slots := by
  unfold newEntry takeWay; dsimp only; split
  · rfl
  · cases chooseWay (s.cacheSet (setOf it.card)) <;> rfl
@[simp] theorem newEntry_freeList (it : Item) (s : State) : (newEntry it s).freeList = s.freeList := by
  unfold newEntry takeWay; dsimp only; split
  · rfl
  · cases chooseWay (s.cacheSet (setOf it.card)) <;> rfl
@[simp] theorem newEntry_expiryList (it : Item) (s : State) : (newEntry it s).expiryList = s.expiryList := by
  unfold newEntry takeWay; dsimp only; split
  · rfl
  · cases chooseWay (s.cacheSet (setOf it.card)) <;> rfl
@[simp] theorem newEntry_time (it : Item) (s : State) : (newEntry it s).time = s.time := by
  unfold newEntry takeWay; dsimp only; split
  · rfl
  · cases chooseWay (s.cacheSet (setOf it.card)) <;> rfl
@[simp] theorem newEntry_cards (it : Item) (s : State) : (newEntry it s).cards = s.cards := by
  unfold newEntry takeWay; dsimp only; split
  · rfl
  · cases chooseWay (s.cacheSet (setOf it.card)) <;> rfl
@[simp] theorem newEntry_ring (it : Item) (s : State) : (newEntry it s).ring = s.ring := by
  unfold newEntry takeWay; dsimp only; split
  · rfl
  · cases chooseWay (s.cacheSet (setOf it.card)) <;> rfl
@[simp] theorem newEntry_journal (it : Item) (s : State) : (newEntry it s).journal = s.journal := by
  unfold newEntry takeWay; dsimp only; split
  · rfl
  · cases chooseWay (s.cacheSet (setOf it.card)) <;> rfl
@[simp] theorem newEntry_watch (it : Item) (s : State) : (newEntry it s).watch = s.watch := by
  unfold newEntry takeWay; dsimp only; split
  · rfl
  · cases chooseWay (s.cacheSet (setOf it.card)) <;> rfl
@[simp] theorem newEntry_mgmt (it : Item) (s : State) : (newEntry it s).mgmt = s.mgmt := by
  unfold newEntry takeWay; dsimp only; split
  · rfl
  · cases chooseWay (s.cacheSet (setOf it.card)) <;> rfl
@[simp] theorem newEntry_powerOns (it : Item) (s : State) : (newEntry it s).powerOns = s.powerOns := by
  unfold newEntry takeWay; dsimp only; split
  · rfl
  · cases chooseWay (s.cacheSet (setOf it.card)) <;> rfl

/-! ## handOver: changes programs, busy, cache, tmc -/

@[simp] theorem handOver_pending (it : Item) (s : State) : (handOver it s).2.pending = s.pending := by
  unfold handOver; split
  · rfl
  · split
    · split <;> simp
    · split <;> simp
@[simp] theorem handOver_resetN (it : Item) (s : State) : (handOver it s).2.resetN = s.resetN := by
  unfold handOver; split
  · rfl
  · split
    · split <;> simp
    · split <;> simp
@[simp] theorem handOver_tblen (it : Item) (s : State) : (handOver it s).2.tblen = s.tblen := by
  unfold handOver; split
  · rfl
  · split
    · split <;> simp
    · split <;> simp
@[simp] theorem handOver_resetPending (it : Item) (s : State) : (handOver it s).2.resetPending = s.resetPending := by
  unfold handOver; split
  · rfl
  · split
    · split <;> simp
    · split <;> simp
@[simp] theorem handOver_stores (it : Item) (s : State) : (handOver it s).2.stores = s.stores := by
  unfold handOver; split
  · rfl
  · split
    · split <;> simp
    · split <;> simp
@[simp] theorem handOver_central (it : Item) (s : State) : (handOver it s).2.central = s.central := by
  unfold handOver; split
  · rfl
  · split
    · split <;> simp
    · split <;> simp
@[simp] theorem handOver_dispatcher (it : Item) (s : State) : (handOver it s).2.dispatcher = s.dispatcher := by
  unfold handOver; split
  · rfl
  · split
    · split <;> simp
    · split <;> simp
@[simp] theorem handOver_promotions (it : Item) (s : State) : (handOver it s).2.promotions = s.promotions := by
  unfold handOver; split
  · rfl
  · split
    · split <;> simp
    · split <;> simp
@[simp] theorem handOver_slots (it : Item) (s : State) : (handOver it s).2.slots = s.slots := by
  unfold handOver; split
  · rfl
  · split
    · split <;> simp
    · split <;> simp
@[simp] theorem handOver_freeList (it : Item) (s : State) : (handOver it s).2.freeList = s.freeList := by
  unfold handOver; split
  · rfl
  · split
    · split <;> simp
    · split <;> simp
@[simp] theorem handOver_expiryList (it : Item) (s : State) : (handOver it s).2.expiryList = s.expiryList := by
  unfold handOver; split
  · rfl
  · split
    · split <;> simp
    · split <;> simp
@[simp] theorem handOver_time (it : Item) (s : State) : (handOver it s).2.time = s.time := by
  unfold handOver; split
  · rfl
  · split
    · split <;> simp
    · split <;> simp
@[simp] theorem handOver_cards (it : Item) (s : State) : (handOver it s).2.cards = s.cards := by
  unfold handOver; split
  · rfl
  · split
    · split <;> simp
    · split <;> simp
@[simp] theorem handOver_ring (it : Item) (s : State) : (handOver it s).2.ring = s.ring := by
  unfold handOver; split
  · rfl
  · split
    · split <;> simp
    · split <;> simp
@[simp] theorem handOver_journal (it : Item) (s : State) : (handOver it s).2.journal = s.journal := by
  unfold handOver; split
  · rfl
  · split
    · split <;> simp
    · split <;> simp
@[simp] theorem handOver_watch (it : Item) (s : State) : (handOver it s).2.watch = s.watch := by
  unfold handOver; split
  · rfl
  · split
    · split <;> simp
    · split <;> simp
@[simp] theorem handOver_mgmt (it : Item) (s : State) : (handOver it s).2.mgmt = s.mgmt := by
  unfold handOver; split
  · rfl
  · split
    · split <;> simp
    · split <;> simp
@[simp] theorem handOver_powerOns (it : Item) (s : State) : (handOver it s).2.powerOns = s.powerOns := by
  unfold handOver; split
  · rfl
  · split
    · split <;> simp
    · split <;> simp

/-! ## setSlot: changes slots -/

@[simp] theorem State.setSlot_pending (s : State) (n : Nat) (h : HoldSlot) : (s.setSlot n h).pending = s.pending := rfl
@[simp] theorem State.setSlot_resetN (s : State) (n : Nat) (h : HoldSlot) : (s.setSlot n h).resetN = s.resetN := rfl
@[simp] theorem State.setSlot_tblen (s : State) (n : Nat) (h : HoldSlot) : (s.setSlot n h).tblen = s.tblen := rfl
@[simp] theorem State.setSlot_resetPending (s : State) (n : Nat) (h : HoldSlot) : (s.setSlot n h).resetPending = s.resetPending := rfl
@[simp] theorem State.setSlot_stores (s : State) (n : Nat) (h : HoldSlot) : (s.setSlot n h).stores = s.stores := rfl
@[simp] theorem State.setSlot_central (s : State) (n : Nat) (h : HoldSlot) : (s.setSlot n h).central = s.central := rfl
@[simp] theorem State.setSlot_dispatcher (s : State) (n : Nat) (h : HoldSlot) : (s.setSlot n h).dispatcher = s.dispatcher := rfl
@[simp] theorem State.setSlot_busy (s : State) (n : Nat) (h : HoldSlot) : (s.setSlot n h).busy = s.busy := rfl
@[simp] theorem State.setSlot_programs (s : State) (n : Nat) (h : HoldSlot) : (s.setSlot n h).programs = s.programs := rfl
@[simp] theorem State.setSlot_promotions (s : State) (n : Nat) (h : HoldSlot) : (s.setSlot n h).promotions = s.promotions := rfl
@[simp] theorem State.setSlot_freeList (s : State) (n : Nat) (h : HoldSlot) : (s.setSlot n h).freeList = s.freeList := rfl
@[simp] theorem State.setSlot_expiryList (s : State) (n : Nat) (h : HoldSlot) : (s.setSlot n h).expiryList = s.expiryList := rfl
@[simp] theorem State.setSlot_time (s : State) (n : Nat) (h : HoldSlot) : (s.setSlot n h).time = s.time := rfl
@[simp] theorem State.setSlot_cache (s : State) (n : Nat) (h : HoldSlot) : (s.setSlot n h).cache = s.cache := rfl
@[simp] theorem State.setSlot_tmc (s : State) (n : Nat) (h : HoldSlot) : (s.setSlot n h).tmc = s.tmc := rfl
@[simp] theorem State.setSlot_cards (s : State) (n : Nat) (h : HoldSlot) : (s.setSlot n h).cards = s.cards := rfl
@[simp] theorem State.setSlot_ring (s : State) (n : Nat) (h : HoldSlot) : (s.setSlot n h).ring = s.ring := rfl
@[simp] theorem State.setSlot_journal (s : State) (n : Nat) (h : HoldSlot) : (s.setSlot n h).journal = s.journal := rfl
@[simp] theorem State.setSlot_watch (s : State) (n : Nat) (h : HoldSlot) : (s.setSlot n h).watch = s.watch := rfl
@[simp] theorem State.setSlot_mgmt (s : State) (n : Nat) (h : HoldSlot) : (s.setSlot n h).mgmt = s.mgmt := rfl
@[simp] theorem State.setSlot_powerOns (s : State) (n : Nat) (h : HoldSlot) : (s.setSlot n h).powerOns = s.powerOns := rfl

/-! ## unissue: changes slots -/

@[simp] theorem unissue_pending (card : Nat) (ref : HoldRef) (s : State) : (unissue card ref s).pending = s.pending := by
  unfold unissue; simp only; split <;> rfl
@[simp] theorem unissue_resetN (card : Nat) (ref : HoldRef) (s : State) : (unissue card ref s).resetN = s.resetN := by
  unfold unissue; simp only; split <;> rfl
@[simp] theorem unissue_tblen (card : Nat) (ref : HoldRef) (s : State) : (unissue card ref s).tblen = s.tblen := by
  unfold unissue; simp only; split <;> rfl
@[simp] theorem unissue_resetPending (card : Nat) (ref : HoldRef) (s : State) : (unissue card ref s).resetPending = s.resetPending := by
  unfold unissue; simp only; split <;> rfl
@[simp] theorem unissue_stores (card : Nat) (ref : HoldRef) (s : State) : (unissue card ref s).stores = s.stores := by
  unfold unissue; simp only; split <;> rfl
@[simp] theorem unissue_central (card : Nat) (ref : HoldRef) (s : State) : (unissue card ref s).central = s.central := by
  unfold unissue; simp only; split <;> rfl
@[simp] theorem unissue_dispatcher (card : Nat) (ref : HoldRef) (s : State) : (unissue card ref s).dispatcher = s.dispatcher := by
  unfold unissue; simp only; split <;> rfl
@[simp] theorem unissue_busy (card : Nat) (ref : HoldRef) (s : State) : (unissue card ref s).busy = s.busy := by
  unfold unissue; simp only; split <;> rfl
@[simp] theorem unissue_programs (card : Nat) (ref : HoldRef) (s : State) : (unissue card ref s).programs = s.programs := by
  unfold unissue; simp only; split <;> rfl
@[simp] theorem unissue_promotions (card : Nat) (ref : HoldRef) (s : State) : (unissue card ref s).promotions = s.promotions := by
  unfold unissue; simp only; split <;> rfl
@[simp] theorem unissue_freeList (card : Nat) (ref : HoldRef) (s : State) : (unissue card ref s).freeList = s.freeList := by
  unfold unissue; simp only; split <;> rfl
@[simp] theorem unissue_expiryList (card : Nat) (ref : HoldRef) (s : State) : (unissue card ref s).expiryList = s.expiryList := by
  unfold unissue; simp only; split <;> rfl
@[simp] theorem unissue_time (card : Nat) (ref : HoldRef) (s : State) : (unissue card ref s).time = s.time := by
  unfold unissue; simp only; split <;> rfl
@[simp] theorem unissue_cache (card : Nat) (ref : HoldRef) (s : State) : (unissue card ref s).cache = s.cache := by
  unfold unissue; simp only; split <;> rfl
@[simp] theorem unissue_tmc (card : Nat) (ref : HoldRef) (s : State) : (unissue card ref s).tmc = s.tmc := by
  unfold unissue; simp only; split <;> rfl
@[simp] theorem unissue_cards (card : Nat) (ref : HoldRef) (s : State) : (unissue card ref s).cards = s.cards := by
  unfold unissue; simp only; split <;> rfl
@[simp] theorem unissue_ring (card : Nat) (ref : HoldRef) (s : State) : (unissue card ref s).ring = s.ring := by
  unfold unissue; simp only; split <;> rfl
@[simp] theorem unissue_journal (card : Nat) (ref : HoldRef) (s : State) : (unissue card ref s).journal = s.journal := by
  unfold unissue; simp only; split <;> rfl
@[simp] theorem unissue_watch (card : Nat) (ref : HoldRef) (s : State) : (unissue card ref s).watch = s.watch := by
  unfold unissue; simp only; split <;> rfl
@[simp] theorem unissue_mgmt (card : Nat) (ref : HoldRef) (s : State) : (unissue card ref s).mgmt = s.mgmt := by
  unfold unissue; simp only; split <;> rfl
@[simp] theorem unissue_powerOns (card : Nat) (ref : HoldRef) (s : State) : (unissue card ref s).powerOns = s.powerOns := by
  unfold unissue; simp only; split <;> rfl

/-! ## The outstanding writes -/

/-- Below 65,535 the outstanding writes rise by 1 (R25, R29). -/
theorem raisedWrites_below {n : Nat} (s : State) (h : n < 65535) : raisedWrites s n = n + 1 := if_pos h

/-- The outstanding writes stay within their range (R25). -/
theorem raisedWrites_le (s : State) (n : Nat) : raisedWrites s n ≤ 65535 := by
  unfold raisedWrites
  split
  · exact ‹n < 65535›
  · exact Nat.le_of_lt_succ (BitVec.isLt _)

/-! ## settleRecord: changes cache, busy, tmc -/

@[simp] theorem settleRecord_pending (card : Nat) (b a : CardRecord) (s : State) : (settleRecord card b a s).pending = s.pending := by
  unfold settleRecord; split
  · rfl
  · split
    · rfl
    · simp only; split <;> rfl
@[simp] theorem settleRecord_resetN (card : Nat) (b a : CardRecord) (s : State) : (settleRecord card b a s).resetN = s.resetN := by
  unfold settleRecord; split
  · rfl
  · split
    · rfl
    · simp only; split <;> rfl
@[simp] theorem settleRecord_tblen (card : Nat) (b a : CardRecord) (s : State) : (settleRecord card b a s).tblen = s.tblen := by
  unfold settleRecord; split
  · rfl
  · split
    · rfl
    · simp only; split <;> rfl
@[simp] theorem settleRecord_resetPending (card : Nat) (b a : CardRecord) (s : State) : (settleRecord card b a s).resetPending = s.resetPending := by
  unfold settleRecord; split
  · rfl
  · split
    · rfl
    · simp only; split <;> rfl
@[simp] theorem settleRecord_stores (card : Nat) (b a : CardRecord) (s : State) : (settleRecord card b a s).stores = s.stores := by
  unfold settleRecord; split
  · rfl
  · split
    · rfl
    · simp only; split <;> rfl
@[simp] theorem settleRecord_central (card : Nat) (b a : CardRecord) (s : State) : (settleRecord card b a s).central = s.central := by
  unfold settleRecord; split
  · rfl
  · split
    · rfl
    · simp only; split <;> rfl
@[simp] theorem settleRecord_dispatcher (card : Nat) (b a : CardRecord) (s : State) : (settleRecord card b a s).dispatcher = s.dispatcher := by
  unfold settleRecord; split
  · rfl
  · split
    · rfl
    · simp only; split <;> rfl
@[simp] theorem settleRecord_programs (card : Nat) (b a : CardRecord) (s : State) : (settleRecord card b a s).programs = s.programs := by
  unfold settleRecord; split
  · rfl
  · split
    · rfl
    · simp only; split <;> rfl
@[simp] theorem settleRecord_promotions (card : Nat) (b a : CardRecord) (s : State) : (settleRecord card b a s).promotions = s.promotions := by
  unfold settleRecord; split
  · rfl
  · split
    · rfl
    · simp only; split <;> rfl
@[simp] theorem settleRecord_slots (card : Nat) (b a : CardRecord) (s : State) : (settleRecord card b a s).slots = s.slots := by
  unfold settleRecord; split
  · rfl
  · split
    · rfl
    · simp only; split <;> rfl
@[simp] theorem settleRecord_freeList (card : Nat) (b a : CardRecord) (s : State) : (settleRecord card b a s).freeList = s.freeList := by
  unfold settleRecord; split
  · rfl
  · split
    · rfl
    · simp only; split <;> rfl
@[simp] theorem settleRecord_expiryList (card : Nat) (b a : CardRecord) (s : State) : (settleRecord card b a s).expiryList = s.expiryList := by
  unfold settleRecord; split
  · rfl
  · split
    · rfl
    · simp only; split <;> rfl
@[simp] theorem settleRecord_time (card : Nat) (b a : CardRecord) (s : State) : (settleRecord card b a s).time = s.time := by
  unfold settleRecord; split
  · rfl
  · split
    · rfl
    · simp only; split <;> rfl
@[simp] theorem settleRecord_cards (card : Nat) (b a : CardRecord) (s : State) : (settleRecord card b a s).cards = s.cards := by
  unfold settleRecord; split
  · rfl
  · split
    · rfl
    · simp only; split <;> rfl
@[simp] theorem settleRecord_ring (card : Nat) (b a : CardRecord) (s : State) : (settleRecord card b a s).ring = s.ring := by
  unfold settleRecord; split
  · rfl
  · split
    · rfl
    · simp only; split <;> rfl
@[simp] theorem settleRecord_journal (card : Nat) (b a : CardRecord) (s : State) : (settleRecord card b a s).journal = s.journal := by
  unfold settleRecord; split
  · rfl
  · split
    · rfl
    · simp only; split <;> rfl
@[simp] theorem settleRecord_watch (card : Nat) (b a : CardRecord) (s : State) : (settleRecord card b a s).watch = s.watch := by
  unfold settleRecord; split
  · rfl
  · split
    · rfl
    · simp only; split <;> rfl
@[simp] theorem settleRecord_mgmt (card : Nat) (b a : CardRecord) (s : State) : (settleRecord card b a s).mgmt = s.mgmt := by
  unfold settleRecord; split
  · rfl
  · split
    · rfl
    · simp only; split <;> rfl
@[simp] theorem settleRecord_powerOns (card : Nat) (b a : CardRecord) (s : State) : (settleRecord card b a s).powerOns = s.powerOns := by
  unfold settleRecord; split
  · rfl
  · split
    · rfl
    · simp only; split <;> rfl

/-! ## leaveCard: changes programs, busy, cache, dispatcher, tmc -/

@[simp] theorem leaveCard_pending (it : Item) (s : State) : (leaveCard it s).pending = s.pending := by
  simp [leaveCard]
@[simp] theorem leaveCard_resetN (it : Item) (s : State) : (leaveCard it s).resetN = s.resetN := by
  simp [leaveCard]
@[simp] theorem leaveCard_tblen (it : Item) (s : State) : (leaveCard it s).tblen = s.tblen := by
  simp [leaveCard]
@[simp] theorem leaveCard_resetPending (it : Item) (s : State) : (leaveCard it s).resetPending = s.resetPending := by
  simp [leaveCard]
@[simp] theorem leaveCard_stores (it : Item) (s : State) : (leaveCard it s).stores = s.stores := by
  simp [leaveCard]
@[simp] theorem leaveCard_central (it : Item) (s : State) : (leaveCard it s).central = s.central := by
  simp [leaveCard]
@[simp] theorem leaveCard_promotions (it : Item) (s : State) : (leaveCard it s).promotions = s.promotions := by
  simp [leaveCard]
@[simp] theorem leaveCard_slots (it : Item) (s : State) : (leaveCard it s).slots = s.slots := by
  simp [leaveCard]
@[simp] theorem leaveCard_freeList (it : Item) (s : State) : (leaveCard it s).freeList = s.freeList := by
  simp [leaveCard]
@[simp] theorem leaveCard_expiryList (it : Item) (s : State) : (leaveCard it s).expiryList = s.expiryList := by
  simp [leaveCard]
@[simp] theorem leaveCard_time (it : Item) (s : State) : (leaveCard it s).time = s.time := by
  simp [leaveCard]
@[simp] theorem leaveCard_cards (it : Item) (s : State) : (leaveCard it s).cards = s.cards := by
  simp [leaveCard]
@[simp] theorem leaveCard_ring (it : Item) (s : State) : (leaveCard it s).ring = s.ring := by
  simp [leaveCard]
@[simp] theorem leaveCard_journal (it : Item) (s : State) : (leaveCard it s).journal = s.journal := by
  simp [leaveCard]
@[simp] theorem leaveCard_watch (it : Item) (s : State) : (leaveCard it s).watch = s.watch := by
  simp [leaveCard]
@[simp] theorem leaveCard_mgmt (it : Item) (s : State) : (leaveCard it s).mgmt = s.mgmt := by
  simp [leaveCard]
@[simp] theorem leaveCard_powerOns (it : Item) (s : State) : (leaveCard it s).powerOns = s.powerOns := by
  simp [leaveCard]

/-! ## finishItem: changes programs, busy, cache, dispatcher, tmc -/

@[simp] theorem finishItem_pending (it : Item) (b a : CardRecord) (s : State) : (finishItem it b a s).pending = s.pending := by
  simp [finishItem]
@[simp] theorem finishItem_resetN (it : Item) (b a : CardRecord) (s : State) : (finishItem it b a s).resetN = s.resetN := by
  simp [finishItem]
@[simp] theorem finishItem_tblen (it : Item) (b a : CardRecord) (s : State) : (finishItem it b a s).tblen = s.tblen := by
  simp [finishItem]
@[simp] theorem finishItem_resetPending (it : Item) (b a : CardRecord) (s : State) : (finishItem it b a s).resetPending = s.resetPending := by
  simp [finishItem]
@[simp] theorem finishItem_stores (it : Item) (b a : CardRecord) (s : State) : (finishItem it b a s).stores = s.stores := by
  simp [finishItem]
@[simp] theorem finishItem_central (it : Item) (b a : CardRecord) (s : State) : (finishItem it b a s).central = s.central := by
  simp [finishItem]
@[simp] theorem finishItem_promotions (it : Item) (b a : CardRecord) (s : State) : (finishItem it b a s).promotions = s.promotions := by
  simp [finishItem]
@[simp] theorem finishItem_slots (it : Item) (b a : CardRecord) (s : State) : (finishItem it b a s).slots = s.slots := by
  simp [finishItem]
@[simp] theorem finishItem_freeList (it : Item) (b a : CardRecord) (s : State) : (finishItem it b a s).freeList = s.freeList := by
  simp [finishItem]
@[simp] theorem finishItem_expiryList (it : Item) (b a : CardRecord) (s : State) : (finishItem it b a s).expiryList = s.expiryList := by
  simp [finishItem]
@[simp] theorem finishItem_time (it : Item) (b a : CardRecord) (s : State) : (finishItem it b a s).time = s.time := by
  simp [finishItem]
@[simp] theorem finishItem_cards (it : Item) (b a : CardRecord) (s : State) : (finishItem it b a s).cards = s.cards := by
  simp [finishItem]
@[simp] theorem finishItem_ring (it : Item) (b a : CardRecord) (s : State) : (finishItem it b a s).ring = s.ring := by
  simp [finishItem]
@[simp] theorem finishItem_journal (it : Item) (b a : CardRecord) (s : State) : (finishItem it b a s).journal = s.journal := by
  simp [finishItem]
@[simp] theorem finishItem_watch (it : Item) (b a : CardRecord) (s : State) : (finishItem it b a s).watch = s.watch := by
  simp [finishItem]
@[simp] theorem finishItem_mgmt (it : Item) (b a : CardRecord) (s : State) : (finishItem it b a s).mgmt = s.mgmt := by
  simp [finishItem]
@[simp] theorem finishItem_powerOns (it : Item) (b a : CardRecord) (s : State) : (finishItem it b a s).powerOns = s.powerOns := by
  simp [finishItem]

/-! ## answerBare: changes stores -/

@[simp] theorem answerBare_pending (t : TillRequest) (o : TillOutcome) (s : State) : (answerBare t o s).pending = s.pending := rfl
@[simp] theorem answerBare_resetN (t : TillRequest) (o : TillOutcome) (s : State) : (answerBare t o s).resetN = s.resetN := rfl
@[simp] theorem answerBare_tblen (t : TillRequest) (o : TillOutcome) (s : State) : (answerBare t o s).tblen = s.tblen := rfl
@[simp] theorem answerBare_resetPending (t : TillRequest) (o : TillOutcome) (s : State) : (answerBare t o s).resetPending = s.resetPending := rfl
@[simp] theorem answerBare_central (t : TillRequest) (o : TillOutcome) (s : State) : (answerBare t o s).central = s.central := rfl
@[simp] theorem answerBare_dispatcher (t : TillRequest) (o : TillOutcome) (s : State) : (answerBare t o s).dispatcher = s.dispatcher := rfl
@[simp] theorem answerBare_busy (t : TillRequest) (o : TillOutcome) (s : State) : (answerBare t o s).busy = s.busy := rfl
@[simp] theorem answerBare_programs (t : TillRequest) (o : TillOutcome) (s : State) : (answerBare t o s).programs = s.programs := rfl
@[simp] theorem answerBare_promotions (t : TillRequest) (o : TillOutcome) (s : State) : (answerBare t o s).promotions = s.promotions := rfl
@[simp] theorem answerBare_slots (t : TillRequest) (o : TillOutcome) (s : State) : (answerBare t o s).slots = s.slots := rfl
@[simp] theorem answerBare_freeList (t : TillRequest) (o : TillOutcome) (s : State) : (answerBare t o s).freeList = s.freeList := rfl
@[simp] theorem answerBare_expiryList (t : TillRequest) (o : TillOutcome) (s : State) : (answerBare t o s).expiryList = s.expiryList := rfl
@[simp] theorem answerBare_time (t : TillRequest) (o : TillOutcome) (s : State) : (answerBare t o s).time = s.time := rfl
@[simp] theorem answerBare_cache (t : TillRequest) (o : TillOutcome) (s : State) : (answerBare t o s).cache = s.cache := rfl
@[simp] theorem answerBare_tmc (t : TillRequest) (o : TillOutcome) (s : State) : (answerBare t o s).tmc = s.tmc := rfl
@[simp] theorem answerBare_cards (t : TillRequest) (o : TillOutcome) (s : State) : (answerBare t o s).cards = s.cards := rfl
@[simp] theorem answerBare_ring (t : TillRequest) (o : TillOutcome) (s : State) : (answerBare t o s).ring = s.ring := rfl
@[simp] theorem answerBare_journal (t : TillRequest) (o : TillOutcome) (s : State) : (answerBare t o s).journal = s.journal := rfl
@[simp] theorem answerBare_watch (t : TillRequest) (o : TillOutcome) (s : State) : (answerBare t o s).watch = s.watch := rfl
@[simp] theorem answerBare_mgmt (t : TillRequest) (o : TillOutcome) (s : State) : (answerBare t o s).mgmt = s.mgmt := rfl
@[simp] theorem answerBare_powerOns (t : TillRequest) (o : TillOutcome) (s : State) : (answerBare t o s).powerOns = s.powerOns := rfl

/-! ## answerTaken: changes stores -/

@[simp] theorem answerTaken_pending (t : TillRequest) (o : TillOutcome) (rep : Bool) (x : Option Nat) (ref : Option HoldRef) (n : Option Nat) (r : CardRecord) (s : State) : (answerTaken t o rep x ref n r s).pending = s.pending := rfl
@[simp] theorem answerTaken_resetN (t : TillRequest) (o : TillOutcome) (rep : Bool) (x : Option Nat) (ref : Option HoldRef) (n : Option Nat) (r : CardRecord) (s : State) : (answerTaken t o rep x ref n r s).resetN = s.resetN := rfl
@[simp] theorem answerTaken_tblen (t : TillRequest) (o : TillOutcome) (rep : Bool) (x : Option Nat) (ref : Option HoldRef) (n : Option Nat) (r : CardRecord) (s : State) : (answerTaken t o rep x ref n r s).tblen = s.tblen := rfl
@[simp] theorem answerTaken_resetPending (t : TillRequest) (o : TillOutcome) (rep : Bool) (x : Option Nat) (ref : Option HoldRef) (n : Option Nat) (r : CardRecord) (s : State) : (answerTaken t o rep x ref n r s).resetPending = s.resetPending := rfl
@[simp] theorem answerTaken_central (t : TillRequest) (o : TillOutcome) (rep : Bool) (x : Option Nat) (ref : Option HoldRef) (n : Option Nat) (r : CardRecord) (s : State) : (answerTaken t o rep x ref n r s).central = s.central := rfl
@[simp] theorem answerTaken_dispatcher (t : TillRequest) (o : TillOutcome) (rep : Bool) (x : Option Nat) (ref : Option HoldRef) (n : Option Nat) (r : CardRecord) (s : State) : (answerTaken t o rep x ref n r s).dispatcher = s.dispatcher := rfl
@[simp] theorem answerTaken_busy (t : TillRequest) (o : TillOutcome) (rep : Bool) (x : Option Nat) (ref : Option HoldRef) (n : Option Nat) (r : CardRecord) (s : State) : (answerTaken t o rep x ref n r s).busy = s.busy := rfl
@[simp] theorem answerTaken_programs (t : TillRequest) (o : TillOutcome) (rep : Bool) (x : Option Nat) (ref : Option HoldRef) (n : Option Nat) (r : CardRecord) (s : State) : (answerTaken t o rep x ref n r s).programs = s.programs := rfl
@[simp] theorem answerTaken_promotions (t : TillRequest) (o : TillOutcome) (rep : Bool) (x : Option Nat) (ref : Option HoldRef) (n : Option Nat) (r : CardRecord) (s : State) : (answerTaken t o rep x ref n r s).promotions = s.promotions := rfl
@[simp] theorem answerTaken_slots (t : TillRequest) (o : TillOutcome) (rep : Bool) (x : Option Nat) (ref : Option HoldRef) (n : Option Nat) (r : CardRecord) (s : State) : (answerTaken t o rep x ref n r s).slots = s.slots := rfl
@[simp] theorem answerTaken_freeList (t : TillRequest) (o : TillOutcome) (rep : Bool) (x : Option Nat) (ref : Option HoldRef) (n : Option Nat) (r : CardRecord) (s : State) : (answerTaken t o rep x ref n r s).freeList = s.freeList := rfl
@[simp] theorem answerTaken_expiryList (t : TillRequest) (o : TillOutcome) (rep : Bool) (x : Option Nat) (ref : Option HoldRef) (n : Option Nat) (r : CardRecord) (s : State) : (answerTaken t o rep x ref n r s).expiryList = s.expiryList := rfl
@[simp] theorem answerTaken_time (t : TillRequest) (o : TillOutcome) (rep : Bool) (x : Option Nat) (ref : Option HoldRef) (n : Option Nat) (r : CardRecord) (s : State) : (answerTaken t o rep x ref n r s).time = s.time := rfl
@[simp] theorem answerTaken_cache (t : TillRequest) (o : TillOutcome) (rep : Bool) (x : Option Nat) (ref : Option HoldRef) (n : Option Nat) (r : CardRecord) (s : State) : (answerTaken t o rep x ref n r s).cache = s.cache := rfl
@[simp] theorem answerTaken_tmc (t : TillRequest) (o : TillOutcome) (rep : Bool) (x : Option Nat) (ref : Option HoldRef) (n : Option Nat) (r : CardRecord) (s : State) : (answerTaken t o rep x ref n r s).tmc = s.tmc := rfl
@[simp] theorem answerTaken_cards (t : TillRequest) (o : TillOutcome) (rep : Bool) (x : Option Nat) (ref : Option HoldRef) (n : Option Nat) (r : CardRecord) (s : State) : (answerTaken t o rep x ref n r s).cards = s.cards := rfl
@[simp] theorem answerTaken_ring (t : TillRequest) (o : TillOutcome) (rep : Bool) (x : Option Nat) (ref : Option HoldRef) (n : Option Nat) (r : CardRecord) (s : State) : (answerTaken t o rep x ref n r s).ring = s.ring := rfl
@[simp] theorem answerTaken_journal (t : TillRequest) (o : TillOutcome) (rep : Bool) (x : Option Nat) (ref : Option HoldRef) (n : Option Nat) (r : CardRecord) (s : State) : (answerTaken t o rep x ref n r s).journal = s.journal := rfl
@[simp] theorem answerTaken_watch (t : TillRequest) (o : TillOutcome) (rep : Bool) (x : Option Nat) (ref : Option HoldRef) (n : Option Nat) (r : CardRecord) (s : State) : (answerTaken t o rep x ref n r s).watch = s.watch := rfl
@[simp] theorem answerTaken_mgmt (t : TillRequest) (o : TillOutcome) (rep : Bool) (x : Option Nat) (ref : Option HoldRef) (n : Option Nat) (r : CardRecord) (s : State) : (answerTaken t o rep x ref n r s).mgmt = s.mgmt := rfl
@[simp] theorem answerTaken_powerOns (t : TillRequest) (o : TillOutcome) (rep : Bool) (x : Option Nat) (ref : Option HoldRef) (n : Option Nat) (r : CardRecord) (s : State) : (answerTaken t o rep x ref n r s).powerOns = s.powerOns := rfl

/-! ## answerDrop: changes central, mgmt -/

@[simp] theorem answerDrop_pending (d : Option Nat) (r : MgmtResult) (s : State) : (answerDrop d r s).pending = s.pending := by
  cases d <;> rfl
@[simp] theorem answerDrop_resetN (d : Option Nat) (r : MgmtResult) (s : State) : (answerDrop d r s).resetN = s.resetN := by
  cases d <;> rfl
@[simp] theorem answerDrop_tblen (d : Option Nat) (r : MgmtResult) (s : State) : (answerDrop d r s).tblen = s.tblen := by
  cases d <;> rfl
@[simp] theorem answerDrop_resetPending (d : Option Nat) (r : MgmtResult) (s : State) : (answerDrop d r s).resetPending = s.resetPending := by
  cases d <;> rfl
@[simp] theorem answerDrop_stores (d : Option Nat) (r : MgmtResult) (s : State) : (answerDrop d r s).stores = s.stores := by
  cases d <;> rfl
@[simp] theorem answerDrop_dispatcher (d : Option Nat) (r : MgmtResult) (s : State) : (answerDrop d r s).dispatcher = s.dispatcher := by
  cases d <;> rfl
@[simp] theorem answerDrop_busy (d : Option Nat) (r : MgmtResult) (s : State) : (answerDrop d r s).busy = s.busy := by
  cases d <;> rfl
@[simp] theorem answerDrop_programs (d : Option Nat) (r : MgmtResult) (s : State) : (answerDrop d r s).programs = s.programs := by
  cases d <;> rfl
@[simp] theorem answerDrop_promotions (d : Option Nat) (r : MgmtResult) (s : State) : (answerDrop d r s).promotions = s.promotions := by
  cases d <;> rfl
@[simp] theorem answerDrop_slots (d : Option Nat) (r : MgmtResult) (s : State) : (answerDrop d r s).slots = s.slots := by
  cases d <;> rfl
@[simp] theorem answerDrop_freeList (d : Option Nat) (r : MgmtResult) (s : State) : (answerDrop d r s).freeList = s.freeList := by
  cases d <;> rfl
@[simp] theorem answerDrop_expiryList (d : Option Nat) (r : MgmtResult) (s : State) : (answerDrop d r s).expiryList = s.expiryList := by
  cases d <;> rfl
@[simp] theorem answerDrop_time (d : Option Nat) (r : MgmtResult) (s : State) : (answerDrop d r s).time = s.time := by
  cases d <;> rfl
@[simp] theorem answerDrop_cache (d : Option Nat) (r : MgmtResult) (s : State) : (answerDrop d r s).cache = s.cache := by
  cases d <;> rfl
@[simp] theorem answerDrop_tmc (d : Option Nat) (r : MgmtResult) (s : State) : (answerDrop d r s).tmc = s.tmc := by
  cases d <;> rfl
@[simp] theorem answerDrop_cards (d : Option Nat) (r : MgmtResult) (s : State) : (answerDrop d r s).cards = s.cards := by
  cases d <;> rfl
@[simp] theorem answerDrop_ring (d : Option Nat) (r : MgmtResult) (s : State) : (answerDrop d r s).ring = s.ring := by
  cases d <;> rfl
@[simp] theorem answerDrop_journal (d : Option Nat) (r : MgmtResult) (s : State) : (answerDrop d r s).journal = s.journal := by
  cases d <;> rfl
@[simp] theorem answerDrop_watch (d : Option Nat) (r : MgmtResult) (s : State) : (answerDrop d r s).watch = s.watch := by
  cases d <;> rfl
@[simp] theorem answerDrop_powerOns (d : Option Nat) (r : MgmtResult) (s : State) : (answerDrop d r s).powerOns = s.powerOns := by
  cases d <;> rfl

/-! ## makeDue: changes slots -/

@[simp] theorem makeDue_pending (s : State) (n : Nat) : (makeDue s n).pending = s.pending := rfl
@[simp] theorem makeDue_resetN (s : State) (n : Nat) : (makeDue s n).resetN = s.resetN := rfl
@[simp] theorem makeDue_tblen (s : State) (n : Nat) : (makeDue s n).tblen = s.tblen := rfl
@[simp] theorem makeDue_resetPending (s : State) (n : Nat) : (makeDue s n).resetPending = s.resetPending := rfl
@[simp] theorem makeDue_stores (s : State) (n : Nat) : (makeDue s n).stores = s.stores := rfl
@[simp] theorem makeDue_central (s : State) (n : Nat) : (makeDue s n).central = s.central := rfl
@[simp] theorem makeDue_dispatcher (s : State) (n : Nat) : (makeDue s n).dispatcher = s.dispatcher := rfl
@[simp] theorem makeDue_busy (s : State) (n : Nat) : (makeDue s n).busy = s.busy := rfl
@[simp] theorem makeDue_programs (s : State) (n : Nat) : (makeDue s n).programs = s.programs := rfl
@[simp] theorem makeDue_promotions (s : State) (n : Nat) : (makeDue s n).promotions = s.promotions := rfl
@[simp] theorem makeDue_freeList (s : State) (n : Nat) : (makeDue s n).freeList = s.freeList := rfl
@[simp] theorem makeDue_expiryList (s : State) (n : Nat) : (makeDue s n).expiryList = s.expiryList := rfl
@[simp] theorem makeDue_time (s : State) (n : Nat) : (makeDue s n).time = s.time := rfl
@[simp] theorem makeDue_cache (s : State) (n : Nat) : (makeDue s n).cache = s.cache := rfl
@[simp] theorem makeDue_tmc (s : State) (n : Nat) : (makeDue s n).tmc = s.tmc := rfl
@[simp] theorem makeDue_cards (s : State) (n : Nat) : (makeDue s n).cards = s.cards := rfl
@[simp] theorem makeDue_ring (s : State) (n : Nat) : (makeDue s n).ring = s.ring := rfl
@[simp] theorem makeDue_journal (s : State) (n : Nat) : (makeDue s n).journal = s.journal := rfl
@[simp] theorem makeDue_watch (s : State) (n : Nat) : (makeDue s n).watch = s.watch := rfl
@[simp] theorem makeDue_mgmt (s : State) (n : Nat) : (makeDue s n).mgmt = s.mgmt := rfl
@[simp] theorem makeDue_powerOns (s : State) (n : Nat) : (makeDue s n).powerOns = s.powerOns := rfl

/-! ## countCorrected: changes tmc -/

@[simp] theorem countCorrected_pending (n : Nat) (s : State) : (countCorrected n s).pending = s.pending := rfl
@[simp] theorem countCorrected_resetN (n : Nat) (s : State) : (countCorrected n s).resetN = s.resetN := rfl
@[simp] theorem countCorrected_tblen (n : Nat) (s : State) : (countCorrected n s).tblen = s.tblen := rfl
@[simp] theorem countCorrected_resetPending (n : Nat) (s : State) : (countCorrected n s).resetPending = s.resetPending := rfl
@[simp] theorem countCorrected_stores (n : Nat) (s : State) : (countCorrected n s).stores = s.stores := rfl
@[simp] theorem countCorrected_central (n : Nat) (s : State) : (countCorrected n s).central = s.central := rfl
@[simp] theorem countCorrected_dispatcher (n : Nat) (s : State) : (countCorrected n s).dispatcher = s.dispatcher := rfl
@[simp] theorem countCorrected_busy (n : Nat) (s : State) : (countCorrected n s).busy = s.busy := rfl
@[simp] theorem countCorrected_programs (n : Nat) (s : State) : (countCorrected n s).programs = s.programs := rfl
@[simp] theorem countCorrected_promotions (n : Nat) (s : State) : (countCorrected n s).promotions = s.promotions := rfl
@[simp] theorem countCorrected_slots (n : Nat) (s : State) : (countCorrected n s).slots = s.slots := rfl
@[simp] theorem countCorrected_freeList (n : Nat) (s : State) : (countCorrected n s).freeList = s.freeList := rfl
@[simp] theorem countCorrected_expiryList (n : Nat) (s : State) : (countCorrected n s).expiryList = s.expiryList := rfl
@[simp] theorem countCorrected_time (n : Nat) (s : State) : (countCorrected n s).time = s.time := rfl
@[simp] theorem countCorrected_cache (n : Nat) (s : State) : (countCorrected n s).cache = s.cache := rfl
@[simp] theorem countCorrected_cards (n : Nat) (s : State) : (countCorrected n s).cards = s.cards := rfl
@[simp] theorem countCorrected_ring (n : Nat) (s : State) : (countCorrected n s).ring = s.ring := rfl
@[simp] theorem countCorrected_journal (n : Nat) (s : State) : (countCorrected n s).journal = s.journal := rfl
@[simp] theorem countCorrected_watch (n : Nat) (s : State) : (countCorrected n s).watch = s.watch := rfl
@[simp] theorem countCorrected_mgmt (n : Nat) (s : State) : (countCorrected n s).mgmt = s.mgmt := rfl
@[simp] theorem countCorrected_powerOns (n : Nat) (s : State) : (countCorrected n s).powerOns = s.powerOns := rfl

/-! ## storeCard: changes cards, tmc -/

@[simp] theorem storeCard_pending (card : Nat) (r : CardRecord) (s : State) : (storeCard card r s).pending = s.pending := rfl
@[simp] theorem storeCard_resetN (card : Nat) (r : CardRecord) (s : State) : (storeCard card r s).resetN = s.resetN := rfl
@[simp] theorem storeCard_tblen (card : Nat) (r : CardRecord) (s : State) : (storeCard card r s).tblen = s.tblen := rfl
@[simp] theorem storeCard_resetPending (card : Nat) (r : CardRecord) (s : State) : (storeCard card r s).resetPending = s.resetPending := rfl
@[simp] theorem storeCard_stores (card : Nat) (r : CardRecord) (s : State) : (storeCard card r s).stores = s.stores := rfl
@[simp] theorem storeCard_central (card : Nat) (r : CardRecord) (s : State) : (storeCard card r s).central = s.central := rfl
@[simp] theorem storeCard_dispatcher (card : Nat) (r : CardRecord) (s : State) : (storeCard card r s).dispatcher = s.dispatcher := rfl
@[simp] theorem storeCard_busy (card : Nat) (r : CardRecord) (s : State) : (storeCard card r s).busy = s.busy := rfl
@[simp] theorem storeCard_programs (card : Nat) (r : CardRecord) (s : State) : (storeCard card r s).programs = s.programs := rfl
@[simp] theorem storeCard_promotions (card : Nat) (r : CardRecord) (s : State) : (storeCard card r s).promotions = s.promotions := rfl
@[simp] theorem storeCard_slots (card : Nat) (r : CardRecord) (s : State) : (storeCard card r s).slots = s.slots := rfl
@[simp] theorem storeCard_freeList (card : Nat) (r : CardRecord) (s : State) : (storeCard card r s).freeList = s.freeList := rfl
@[simp] theorem storeCard_expiryList (card : Nat) (r : CardRecord) (s : State) : (storeCard card r s).expiryList = s.expiryList := rfl
@[simp] theorem storeCard_time (card : Nat) (r : CardRecord) (s : State) : (storeCard card r s).time = s.time := rfl
@[simp] theorem storeCard_cache (card : Nat) (r : CardRecord) (s : State) : (storeCard card r s).cache = s.cache := rfl
@[simp] theorem storeCard_ring (card : Nat) (r : CardRecord) (s : State) : (storeCard card r s).ring = s.ring := rfl
@[simp] theorem storeCard_journal (card : Nat) (r : CardRecord) (s : State) : (storeCard card r s).journal = s.journal := rfl
@[simp] theorem storeCard_watch (card : Nat) (r : CardRecord) (s : State) : (storeCard card r s).watch = s.watch := rfl
@[simp] theorem storeCard_mgmt (card : Nat) (r : CardRecord) (s : State) : (storeCard card r s).mgmt = s.mgmt := rfl
@[simp] theorem storeCard_powerOns (card : Nat) (r : CardRecord) (s : State) : (storeCard card r s).powerOns = s.powerOns := rfl

/-! ## replyEnded: changes central, mgmt -/

@[simp] theorem replyEnded_pending (code tag : Nat) (r : MgmtResult) (s : State) : (replyEnded code tag r s).pending = s.pending := by
  unfold replyEnded; split <;> rfl
@[simp] theorem replyEnded_resetN (code tag : Nat) (r : MgmtResult) (s : State) : (replyEnded code tag r s).resetN = s.resetN := by
  unfold replyEnded; split <;> rfl
@[simp] theorem replyEnded_tblen (code tag : Nat) (r : MgmtResult) (s : State) : (replyEnded code tag r s).tblen = s.tblen := by
  unfold replyEnded; split <;> rfl
@[simp] theorem replyEnded_resetPending (code tag : Nat) (r : MgmtResult) (s : State) : (replyEnded code tag r s).resetPending = s.resetPending := by
  unfold replyEnded; split <;> rfl
@[simp] theorem replyEnded_stores (code tag : Nat) (r : MgmtResult) (s : State) : (replyEnded code tag r s).stores = s.stores := by
  unfold replyEnded; split <;> rfl
@[simp] theorem replyEnded_dispatcher (code tag : Nat) (r : MgmtResult) (s : State) : (replyEnded code tag r s).dispatcher = s.dispatcher := by
  unfold replyEnded; split <;> rfl
@[simp] theorem replyEnded_busy (code tag : Nat) (r : MgmtResult) (s : State) : (replyEnded code tag r s).busy = s.busy := by
  unfold replyEnded; split <;> rfl
@[simp] theorem replyEnded_programs (code tag : Nat) (r : MgmtResult) (s : State) : (replyEnded code tag r s).programs = s.programs := by
  unfold replyEnded; split <;> rfl
@[simp] theorem replyEnded_promotions (code tag : Nat) (r : MgmtResult) (s : State) : (replyEnded code tag r s).promotions = s.promotions := by
  unfold replyEnded; split <;> rfl
@[simp] theorem replyEnded_slots (code tag : Nat) (r : MgmtResult) (s : State) : (replyEnded code tag r s).slots = s.slots := by
  unfold replyEnded; split <;> rfl
@[simp] theorem replyEnded_freeList (code tag : Nat) (r : MgmtResult) (s : State) : (replyEnded code tag r s).freeList = s.freeList := by
  unfold replyEnded; split <;> rfl
@[simp] theorem replyEnded_expiryList (code tag : Nat) (r : MgmtResult) (s : State) : (replyEnded code tag r s).expiryList = s.expiryList := by
  unfold replyEnded; split <;> rfl
@[simp] theorem replyEnded_time (code tag : Nat) (r : MgmtResult) (s : State) : (replyEnded code tag r s).time = s.time := by
  unfold replyEnded; split <;> rfl
@[simp] theorem replyEnded_cache (code tag : Nat) (r : MgmtResult) (s : State) : (replyEnded code tag r s).cache = s.cache := by
  unfold replyEnded; split <;> rfl
@[simp] theorem replyEnded_tmc (code tag : Nat) (r : MgmtResult) (s : State) : (replyEnded code tag r s).tmc = s.tmc := by
  unfold replyEnded; split <;> rfl
@[simp] theorem replyEnded_cards (code tag : Nat) (r : MgmtResult) (s : State) : (replyEnded code tag r s).cards = s.cards := by
  unfold replyEnded; split <;> rfl
@[simp] theorem replyEnded_ring (code tag : Nat) (r : MgmtResult) (s : State) : (replyEnded code tag r s).ring = s.ring := by
  unfold replyEnded; split <;> rfl
@[simp] theorem replyEnded_journal (code tag : Nat) (r : MgmtResult) (s : State) : (replyEnded code tag r s).journal = s.journal := by
  unfold replyEnded; split <;> rfl
@[simp] theorem replyEnded_watch (code tag : Nat) (r : MgmtResult) (s : State) : (replyEnded code tag r s).watch = s.watch := by
  unfold replyEnded; split <;> rfl
@[simp] theorem replyEnded_powerOns (code tag : Nat) (r : MgmtResult) (s : State) : (replyEnded code tag r s).powerOns = s.powerOns := by
  unfold replyEnded; split <;> rfl

/-! ## recordError: changes stores, central, mgmt -/

@[simp] theorem recordError_pending (l : Link) (k : LinkError) (s : State) : (recordError l k s).pending = s.pending := by
  unfold recordError; simp only; split
  · rfl
  · cases l <;> simp [State.setLinkUnit, State.setStoreUnit]
@[simp] theorem recordError_resetN (l : Link) (k : LinkError) (s : State) : (recordError l k s).resetN = s.resetN := by
  unfold recordError; simp only; split
  · rfl
  · cases l <;> simp [State.setLinkUnit, State.setStoreUnit]
@[simp] theorem recordError_tblen (l : Link) (k : LinkError) (s : State) : (recordError l k s).tblen = s.tblen := by
  unfold recordError; simp only; split
  · rfl
  · cases l <;> simp [State.setLinkUnit, State.setStoreUnit]
@[simp] theorem recordError_resetPending (l : Link) (k : LinkError) (s : State) : (recordError l k s).resetPending = s.resetPending := by
  unfold recordError; simp only; split
  · rfl
  · cases l <;> simp [State.setLinkUnit, State.setStoreUnit]
@[simp] theorem recordError_dispatcher (l : Link) (k : LinkError) (s : State) : (recordError l k s).dispatcher = s.dispatcher := by
  unfold recordError; simp only; split
  · rfl
  · cases l <;> simp [State.setLinkUnit, State.setStoreUnit]
@[simp] theorem recordError_busy (l : Link) (k : LinkError) (s : State) : (recordError l k s).busy = s.busy := by
  unfold recordError; simp only; split
  · rfl
  · cases l <;> simp [State.setLinkUnit, State.setStoreUnit]
@[simp] theorem recordError_programs (l : Link) (k : LinkError) (s : State) : (recordError l k s).programs = s.programs := by
  unfold recordError; simp only; split
  · rfl
  · cases l <;> simp [State.setLinkUnit, State.setStoreUnit]
@[simp] theorem recordError_promotions (l : Link) (k : LinkError) (s : State) : (recordError l k s).promotions = s.promotions := by
  unfold recordError; simp only; split
  · rfl
  · cases l <;> simp [State.setLinkUnit, State.setStoreUnit]
@[simp] theorem recordError_slots (l : Link) (k : LinkError) (s : State) : (recordError l k s).slots = s.slots := by
  unfold recordError; simp only; split
  · rfl
  · cases l <;> simp [State.setLinkUnit, State.setStoreUnit]
@[simp] theorem recordError_freeList (l : Link) (k : LinkError) (s : State) : (recordError l k s).freeList = s.freeList := by
  unfold recordError; simp only; split
  · rfl
  · cases l <;> simp [State.setLinkUnit, State.setStoreUnit]
@[simp] theorem recordError_expiryList (l : Link) (k : LinkError) (s : State) : (recordError l k s).expiryList = s.expiryList := by
  unfold recordError; simp only; split
  · rfl
  · cases l <;> simp [State.setLinkUnit, State.setStoreUnit]
@[simp] theorem recordError_time (l : Link) (k : LinkError) (s : State) : (recordError l k s).time = s.time := by
  unfold recordError; simp only; split
  · rfl
  · cases l <;> simp [State.setLinkUnit, State.setStoreUnit]
@[simp] theorem recordError_cache (l : Link) (k : LinkError) (s : State) : (recordError l k s).cache = s.cache := by
  unfold recordError; simp only; split
  · rfl
  · cases l <;> simp [State.setLinkUnit, State.setStoreUnit]
@[simp] theorem recordError_tmc (l : Link) (k : LinkError) (s : State) : (recordError l k s).tmc = s.tmc := by
  unfold recordError; simp only; split
  · rfl
  · cases l <;> simp [State.setLinkUnit, State.setStoreUnit]
@[simp] theorem recordError_cards (l : Link) (k : LinkError) (s : State) : (recordError l k s).cards = s.cards := by
  unfold recordError; simp only; split
  · rfl
  · cases l <;> simp [State.setLinkUnit, State.setStoreUnit]
@[simp] theorem recordError_ring (l : Link) (k : LinkError) (s : State) : (recordError l k s).ring = s.ring := by
  unfold recordError; simp only; split
  · rfl
  · cases l <;> simp [State.setLinkUnit, State.setStoreUnit]
@[simp] theorem recordError_journal (l : Link) (k : LinkError) (s : State) : (recordError l k s).journal = s.journal := by
  unfold recordError; simp only; split
  · rfl
  · cases l <;> simp [State.setLinkUnit, State.setStoreUnit]
@[simp] theorem recordError_watch (l : Link) (k : LinkError) (s : State) : (recordError l k s).watch = s.watch := by
  unfold recordError; simp only; split
  · rfl
  · cases l <;> simp [State.setLinkUnit, State.setStoreUnit]
@[simp] theorem recordError_powerOns (l : Link) (k : LinkError) (s : State) : (recordError l k s).powerOns = s.powerOns := by
  unfold recordError; simp only; split
  · rfl
  · cases l <;> simp [State.setLinkUnit, State.setStoreUnit]

/-! ## recordCorrected: changes stores, central, mgmt -/

@[simp] theorem recordCorrected_pending (l : Link) (c : Bool) (s : State) : (recordCorrected l c s).pending = s.pending := by
  unfold recordCorrected; split <;> simp
@[simp] theorem recordCorrected_resetN (l : Link) (c : Bool) (s : State) : (recordCorrected l c s).resetN = s.resetN := by
  unfold recordCorrected; split <;> simp
@[simp] theorem recordCorrected_tblen (l : Link) (c : Bool) (s : State) : (recordCorrected l c s).tblen = s.tblen := by
  unfold recordCorrected; split <;> simp
@[simp] theorem recordCorrected_resetPending (l : Link) (c : Bool) (s : State) : (recordCorrected l c s).resetPending = s.resetPending := by
  unfold recordCorrected; split <;> simp
@[simp] theorem recordCorrected_dispatcher (l : Link) (c : Bool) (s : State) : (recordCorrected l c s).dispatcher = s.dispatcher := by
  unfold recordCorrected; split <;> simp
@[simp] theorem recordCorrected_busy (l : Link) (c : Bool) (s : State) : (recordCorrected l c s).busy = s.busy := by
  unfold recordCorrected; split <;> simp
@[simp] theorem recordCorrected_programs (l : Link) (c : Bool) (s : State) : (recordCorrected l c s).programs = s.programs := by
  unfold recordCorrected; split <;> simp
@[simp] theorem recordCorrected_promotions (l : Link) (c : Bool) (s : State) : (recordCorrected l c s).promotions = s.promotions := by
  unfold recordCorrected; split <;> simp
@[simp] theorem recordCorrected_slots (l : Link) (c : Bool) (s : State) : (recordCorrected l c s).slots = s.slots := by
  unfold recordCorrected; split <;> simp
@[simp] theorem recordCorrected_freeList (l : Link) (c : Bool) (s : State) : (recordCorrected l c s).freeList = s.freeList := by
  unfold recordCorrected; split <;> simp
@[simp] theorem recordCorrected_expiryList (l : Link) (c : Bool) (s : State) : (recordCorrected l c s).expiryList = s.expiryList := by
  unfold recordCorrected; split <;> simp
@[simp] theorem recordCorrected_time (l : Link) (c : Bool) (s : State) : (recordCorrected l c s).time = s.time := by
  unfold recordCorrected; split <;> simp
@[simp] theorem recordCorrected_cache (l : Link) (c : Bool) (s : State) : (recordCorrected l c s).cache = s.cache := by
  unfold recordCorrected; split <;> simp
@[simp] theorem recordCorrected_tmc (l : Link) (c : Bool) (s : State) : (recordCorrected l c s).tmc = s.tmc := by
  unfold recordCorrected; split <;> simp
@[simp] theorem recordCorrected_cards (l : Link) (c : Bool) (s : State) : (recordCorrected l c s).cards = s.cards := by
  unfold recordCorrected; split <;> simp
@[simp] theorem recordCorrected_ring (l : Link) (c : Bool) (s : State) : (recordCorrected l c s).ring = s.ring := by
  unfold recordCorrected; split <;> simp
@[simp] theorem recordCorrected_journal (l : Link) (c : Bool) (s : State) : (recordCorrected l c s).journal = s.journal := by
  unfold recordCorrected; split <;> simp
@[simp] theorem recordCorrected_watch (l : Link) (c : Bool) (s : State) : (recordCorrected l c s).watch = s.watch := by
  unfold recordCorrected; split <;> simp
@[simp] theorem recordCorrected_powerOns (l : Link) (c : Bool) (s : State) : (recordCorrected l c s).powerOns = s.powerOns := by
  unfold recordCorrected; split <;> simp

/-! ## uninitialiseOthers: changes programs -/

@[simp] theorem uninitialiseOthers_pending (p card : Nat) (s : State) : (uninitialiseOthers p card s).pending = s.pending := rfl
@[simp] theorem uninitialiseOthers_resetN (p card : Nat) (s : State) : (uninitialiseOthers p card s).resetN = s.resetN := rfl
@[simp] theorem uninitialiseOthers_tblen (p card : Nat) (s : State) : (uninitialiseOthers p card s).tblen = s.tblen := rfl
@[simp] theorem uninitialiseOthers_resetPending (p card : Nat) (s : State) : (uninitialiseOthers p card s).resetPending = s.resetPending := rfl
@[simp] theorem uninitialiseOthers_stores (p card : Nat) (s : State) : (uninitialiseOthers p card s).stores = s.stores := rfl
@[simp] theorem uninitialiseOthers_central (p card : Nat) (s : State) : (uninitialiseOthers p card s).central = s.central := rfl
@[simp] theorem uninitialiseOthers_dispatcher (p card : Nat) (s : State) : (uninitialiseOthers p card s).dispatcher = s.dispatcher := rfl
@[simp] theorem uninitialiseOthers_busy (p card : Nat) (s : State) : (uninitialiseOthers p card s).busy = s.busy := rfl
@[simp] theorem uninitialiseOthers_promotions (p card : Nat) (s : State) : (uninitialiseOthers p card s).promotions = s.promotions := rfl
@[simp] theorem uninitialiseOthers_slots (p card : Nat) (s : State) : (uninitialiseOthers p card s).slots = s.slots := rfl
@[simp] theorem uninitialiseOthers_freeList (p card : Nat) (s : State) : (uninitialiseOthers p card s).freeList = s.freeList := rfl
@[simp] theorem uninitialiseOthers_expiryList (p card : Nat) (s : State) : (uninitialiseOthers p card s).expiryList = s.expiryList := rfl
@[simp] theorem uninitialiseOthers_time (p card : Nat) (s : State) : (uninitialiseOthers p card s).time = s.time := rfl
@[simp] theorem uninitialiseOthers_cache (p card : Nat) (s : State) : (uninitialiseOthers p card s).cache = s.cache := rfl
@[simp] theorem uninitialiseOthers_tmc (p card : Nat) (s : State) : (uninitialiseOthers p card s).tmc = s.tmc := rfl
@[simp] theorem uninitialiseOthers_cards (p card : Nat) (s : State) : (uninitialiseOthers p card s).cards = s.cards := rfl
@[simp] theorem uninitialiseOthers_ring (p card : Nat) (s : State) : (uninitialiseOthers p card s).ring = s.ring := rfl
@[simp] theorem uninitialiseOthers_journal (p card : Nat) (s : State) : (uninitialiseOthers p card s).journal = s.journal := rfl
@[simp] theorem uninitialiseOthers_watch (p card : Nat) (s : State) : (uninitialiseOthers p card s).watch = s.watch := rfl
@[simp] theorem uninitialiseOthers_mgmt (p card : Nat) (s : State) : (uninitialiseOthers p card s).mgmt = s.mgmt := rfl
@[simp] theorem uninitialiseOthers_powerOns (p card : Nat) (s : State) : (uninitialiseOthers p card s).powerOns = s.powerOns := rfl

/-! ## queueLoadWrite: changes programs, cache, tmc -/

@[simp] theorem queueLoadWrite_pending (p card : Nat) (r : CardRecord) (w : CardWriter) (s : State) : (queueLoadWrite p card r w s).pending = s.pending := by
  simp [queueLoadWrite]
@[simp] theorem queueLoadWrite_resetN (p card : Nat) (r : CardRecord) (w : CardWriter) (s : State) : (queueLoadWrite p card r w s).resetN = s.resetN := by
  simp [queueLoadWrite]
@[simp] theorem queueLoadWrite_tblen (p card : Nat) (r : CardRecord) (w : CardWriter) (s : State) : (queueLoadWrite p card r w s).tblen = s.tblen := by
  simp [queueLoadWrite]
@[simp] theorem queueLoadWrite_resetPending (p card : Nat) (r : CardRecord) (w : CardWriter) (s : State) : (queueLoadWrite p card r w s).resetPending = s.resetPending := by
  simp [queueLoadWrite]
@[simp] theorem queueLoadWrite_stores (p card : Nat) (r : CardRecord) (w : CardWriter) (s : State) : (queueLoadWrite p card r w s).stores = s.stores := by
  simp [queueLoadWrite]
@[simp] theorem queueLoadWrite_central (p card : Nat) (r : CardRecord) (w : CardWriter) (s : State) : (queueLoadWrite p card r w s).central = s.central := by
  simp [queueLoadWrite]
@[simp] theorem queueLoadWrite_dispatcher (p card : Nat) (r : CardRecord) (w : CardWriter) (s : State) : (queueLoadWrite p card r w s).dispatcher = s.dispatcher := by
  simp [queueLoadWrite]
@[simp] theorem queueLoadWrite_busy (p card : Nat) (r : CardRecord) (w : CardWriter) (s : State) : (queueLoadWrite p card r w s).busy = s.busy := by
  simp [queueLoadWrite]
@[simp] theorem queueLoadWrite_promotions (p card : Nat) (r : CardRecord) (w : CardWriter) (s : State) : (queueLoadWrite p card r w s).promotions = s.promotions := by
  simp [queueLoadWrite]
@[simp] theorem queueLoadWrite_slots (p card : Nat) (r : CardRecord) (w : CardWriter) (s : State) : (queueLoadWrite p card r w s).slots = s.slots := by
  simp [queueLoadWrite]
@[simp] theorem queueLoadWrite_freeList (p card : Nat) (r : CardRecord) (w : CardWriter) (s : State) : (queueLoadWrite p card r w s).freeList = s.freeList := by
  simp [queueLoadWrite]
@[simp] theorem queueLoadWrite_expiryList (p card : Nat) (r : CardRecord) (w : CardWriter) (s : State) : (queueLoadWrite p card r w s).expiryList = s.expiryList := by
  simp [queueLoadWrite]
@[simp] theorem queueLoadWrite_time (p card : Nat) (r : CardRecord) (w : CardWriter) (s : State) : (queueLoadWrite p card r w s).time = s.time := by
  simp [queueLoadWrite]
@[simp] theorem queueLoadWrite_cards (p card : Nat) (r : CardRecord) (w : CardWriter) (s : State) : (queueLoadWrite p card r w s).cards = s.cards := by
  simp [queueLoadWrite]
@[simp] theorem queueLoadWrite_ring (p card : Nat) (r : CardRecord) (w : CardWriter) (s : State) : (queueLoadWrite p card r w s).ring = s.ring := by
  simp [queueLoadWrite]
@[simp] theorem queueLoadWrite_journal (p card : Nat) (r : CardRecord) (w : CardWriter) (s : State) : (queueLoadWrite p card r w s).journal = s.journal := by
  simp [queueLoadWrite]
@[simp] theorem queueLoadWrite_watch (p card : Nat) (r : CardRecord) (w : CardWriter) (s : State) : (queueLoadWrite p card r w s).watch = s.watch := by
  simp [queueLoadWrite]
@[simp] theorem queueLoadWrite_mgmt (p card : Nat) (r : CardRecord) (w : CardWriter) (s : State) : (queueLoadWrite p card r w s).mgmt = s.mgmt := by
  simp [queueLoadWrite]
@[simp] theorem queueLoadWrite_powerOns (p card : Nat) (r : CardRecord) (w : CardWriter) (s : State) : (queueLoadWrite p card r w s).powerOns = s.powerOns := by
  simp [queueLoadWrite]

/-! ## quarantineRule: changes central, mgmt, cache, tmc -/

@[simp] theorem quarantineRule_pending (card : Nat) (m : Bool) (s : State) : (quarantineRule card m s).pending = s.pending := by
  unfold quarantineRule; split
  · simp
  · split <;> simp
@[simp] theorem quarantineRule_resetN (card : Nat) (m : Bool) (s : State) : (quarantineRule card m s).resetN = s.resetN := by
  unfold quarantineRule; split
  · simp
  · split <;> simp
@[simp] theorem quarantineRule_tblen (card : Nat) (m : Bool) (s : State) : (quarantineRule card m s).tblen = s.tblen := by
  unfold quarantineRule; split
  · simp
  · split <;> simp
@[simp] theorem quarantineRule_resetPending (card : Nat) (m : Bool) (s : State) : (quarantineRule card m s).resetPending = s.resetPending := by
  unfold quarantineRule; split
  · simp
  · split <;> simp
@[simp] theorem quarantineRule_stores (card : Nat) (m : Bool) (s : State) : (quarantineRule card m s).stores = s.stores := by
  unfold quarantineRule; split
  · simp
  · split <;> simp
@[simp] theorem quarantineRule_dispatcher (card : Nat) (m : Bool) (s : State) : (quarantineRule card m s).dispatcher = s.dispatcher := by
  unfold quarantineRule; split
  · simp
  · split <;> simp
@[simp] theorem quarantineRule_busy (card : Nat) (m : Bool) (s : State) : (quarantineRule card m s).busy = s.busy := by
  unfold quarantineRule; split
  · simp
  · split <;> simp
@[simp] theorem quarantineRule_programs (card : Nat) (m : Bool) (s : State) : (quarantineRule card m s).programs = s.programs := by
  unfold quarantineRule; split
  · simp
  · split <;> simp
@[simp] theorem quarantineRule_promotions (card : Nat) (m : Bool) (s : State) : (quarantineRule card m s).promotions = s.promotions := by
  unfold quarantineRule; split
  · simp
  · split <;> simp
@[simp] theorem quarantineRule_slots (card : Nat) (m : Bool) (s : State) : (quarantineRule card m s).slots = s.slots := by
  unfold quarantineRule; split
  · simp
  · split <;> simp
@[simp] theorem quarantineRule_freeList (card : Nat) (m : Bool) (s : State) : (quarantineRule card m s).freeList = s.freeList := by
  unfold quarantineRule; split
  · simp
  · split <;> simp
@[simp] theorem quarantineRule_expiryList (card : Nat) (m : Bool) (s : State) : (quarantineRule card m s).expiryList = s.expiryList := by
  unfold quarantineRule; split
  · simp
  · split <;> simp
@[simp] theorem quarantineRule_time (card : Nat) (m : Bool) (s : State) : (quarantineRule card m s).time = s.time := by
  unfold quarantineRule; split
  · simp
  · split <;> simp
@[simp] theorem quarantineRule_cards (card : Nat) (m : Bool) (s : State) : (quarantineRule card m s).cards = s.cards := by
  unfold quarantineRule; split
  · simp
  · split <;> simp
@[simp] theorem quarantineRule_ring (card : Nat) (m : Bool) (s : State) : (quarantineRule card m s).ring = s.ring := by
  unfold quarantineRule; split
  · simp
  · split <;> simp
@[simp] theorem quarantineRule_journal (card : Nat) (m : Bool) (s : State) : (quarantineRule card m s).journal = s.journal := by
  unfold quarantineRule; split
  · simp
  · split <;> simp
@[simp] theorem quarantineRule_watch (card : Nat) (m : Bool) (s : State) : (quarantineRule card m s).watch = s.watch := by
  unfold quarantineRule; split
  · simp
  · split <;> simp
@[simp] theorem quarantineRule_powerOns (card : Nat) (m : Bool) (s : State) : (quarantineRule card m s).powerOns = s.powerOns := by
  unfold quarantineRule; split
  · simp
  · split <;> simp

/-! ## popCommand: changes central -/

@[simp] theorem popCommand_pending (s : State) : (popCommand s).pending = s.pending := rfl
@[simp] theorem popCommand_resetN (s : State) : (popCommand s).resetN = s.resetN := rfl
@[simp] theorem popCommand_tblen (s : State) : (popCommand s).tblen = s.tblen := rfl
@[simp] theorem popCommand_resetPending (s : State) : (popCommand s).resetPending = s.resetPending := rfl
@[simp] theorem popCommand_stores (s : State) : (popCommand s).stores = s.stores := rfl
@[simp] theorem popCommand_dispatcher (s : State) : (popCommand s).dispatcher = s.dispatcher := rfl
@[simp] theorem popCommand_busy (s : State) : (popCommand s).busy = s.busy := rfl
@[simp] theorem popCommand_programs (s : State) : (popCommand s).programs = s.programs := rfl
@[simp] theorem popCommand_promotions (s : State) : (popCommand s).promotions = s.promotions := rfl
@[simp] theorem popCommand_slots (s : State) : (popCommand s).slots = s.slots := rfl
@[simp] theorem popCommand_freeList (s : State) : (popCommand s).freeList = s.freeList := rfl
@[simp] theorem popCommand_expiryList (s : State) : (popCommand s).expiryList = s.expiryList := rfl
@[simp] theorem popCommand_time (s : State) : (popCommand s).time = s.time := rfl
@[simp] theorem popCommand_cache (s : State) : (popCommand s).cache = s.cache := rfl
@[simp] theorem popCommand_tmc (s : State) : (popCommand s).tmc = s.tmc := rfl
@[simp] theorem popCommand_cards (s : State) : (popCommand s).cards = s.cards := rfl
@[simp] theorem popCommand_ring (s : State) : (popCommand s).ring = s.ring := rfl
@[simp] theorem popCommand_journal (s : State) : (popCommand s).journal = s.journal := rfl
@[simp] theorem popCommand_watch (s : State) : (popCommand s).watch = s.watch := rfl
@[simp] theorem popCommand_mgmt (s : State) : (popCommand s).mgmt = s.mgmt := rfl
@[simp] theorem popCommand_powerOns (s : State) : (popCommand s).powerOns = s.powerOns := rfl

/-! ## setStoreUnit: changes stores -/

@[simp] theorem State.setStoreUnit_pending (s : State) (l : StoreLink) (u : StoreUnit) : (s.setStoreUnit l u).pending = s.pending := rfl
@[simp] theorem State.setStoreUnit_resetN (s : State) (l : StoreLink) (u : StoreUnit) : (s.setStoreUnit l u).resetN = s.resetN := rfl
@[simp] theorem State.setStoreUnit_tblen (s : State) (l : StoreLink) (u : StoreUnit) : (s.setStoreUnit l u).tblen = s.tblen := rfl
@[simp] theorem State.setStoreUnit_resetPending (s : State) (l : StoreLink) (u : StoreUnit) : (s.setStoreUnit l u).resetPending = s.resetPending := rfl
@[simp] theorem State.setStoreUnit_central (s : State) (l : StoreLink) (u : StoreUnit) : (s.setStoreUnit l u).central = s.central := rfl
@[simp] theorem State.setStoreUnit_dispatcher (s : State) (l : StoreLink) (u : StoreUnit) : (s.setStoreUnit l u).dispatcher = s.dispatcher := rfl
@[simp] theorem State.setStoreUnit_busy (s : State) (l : StoreLink) (u : StoreUnit) : (s.setStoreUnit l u).busy = s.busy := rfl
@[simp] theorem State.setStoreUnit_programs (s : State) (l : StoreLink) (u : StoreUnit) : (s.setStoreUnit l u).programs = s.programs := rfl
@[simp] theorem State.setStoreUnit_promotions (s : State) (l : StoreLink) (u : StoreUnit) : (s.setStoreUnit l u).promotions = s.promotions := rfl
@[simp] theorem State.setStoreUnit_slots (s : State) (l : StoreLink) (u : StoreUnit) : (s.setStoreUnit l u).slots = s.slots := rfl
@[simp] theorem State.setStoreUnit_freeList (s : State) (l : StoreLink) (u : StoreUnit) : (s.setStoreUnit l u).freeList = s.freeList := rfl
@[simp] theorem State.setStoreUnit_expiryList (s : State) (l : StoreLink) (u : StoreUnit) : (s.setStoreUnit l u).expiryList = s.expiryList := rfl
@[simp] theorem State.setStoreUnit_time (s : State) (l : StoreLink) (u : StoreUnit) : (s.setStoreUnit l u).time = s.time := rfl
@[simp] theorem State.setStoreUnit_cache (s : State) (l : StoreLink) (u : StoreUnit) : (s.setStoreUnit l u).cache = s.cache := rfl
@[simp] theorem State.setStoreUnit_tmc (s : State) (l : StoreLink) (u : StoreUnit) : (s.setStoreUnit l u).tmc = s.tmc := rfl
@[simp] theorem State.setStoreUnit_cards (s : State) (l : StoreLink) (u : StoreUnit) : (s.setStoreUnit l u).cards = s.cards := rfl
@[simp] theorem State.setStoreUnit_ring (s : State) (l : StoreLink) (u : StoreUnit) : (s.setStoreUnit l u).ring = s.ring := rfl
@[simp] theorem State.setStoreUnit_journal (s : State) (l : StoreLink) (u : StoreUnit) : (s.setStoreUnit l u).journal = s.journal := rfl
@[simp] theorem State.setStoreUnit_watch (s : State) (l : StoreLink) (u : StoreUnit) : (s.setStoreUnit l u).watch = s.watch := rfl
@[simp] theorem State.setStoreUnit_mgmt (s : State) (l : StoreLink) (u : StoreUnit) : (s.setStoreUnit l u).mgmt = s.mgmt := rfl
@[simp] theorem State.setStoreUnit_powerOns (s : State) (l : StoreLink) (u : StoreUnit) : (s.setStoreUnit l u).powerOns = s.powerOns := rfl

/-! ## setPacer: changes stores -/

@[simp] theorem State.setPacer_pending (s : State) (l : StoreLink) (p : Pacer) : (s.setPacer l p).pending = s.pending := rfl
@[simp] theorem State.setPacer_resetN (s : State) (l : StoreLink) (p : Pacer) : (s.setPacer l p).resetN = s.resetN := rfl
@[simp] theorem State.setPacer_tblen (s : State) (l : StoreLink) (p : Pacer) : (s.setPacer l p).tblen = s.tblen := rfl
@[simp] theorem State.setPacer_resetPending (s : State) (l : StoreLink) (p : Pacer) : (s.setPacer l p).resetPending = s.resetPending := rfl
@[simp] theorem State.setPacer_central (s : State) (l : StoreLink) (p : Pacer) : (s.setPacer l p).central = s.central := rfl
@[simp] theorem State.setPacer_dispatcher (s : State) (l : StoreLink) (p : Pacer) : (s.setPacer l p).dispatcher = s.dispatcher := rfl
@[simp] theorem State.setPacer_busy (s : State) (l : StoreLink) (p : Pacer) : (s.setPacer l p).busy = s.busy := rfl
@[simp] theorem State.setPacer_programs (s : State) (l : StoreLink) (p : Pacer) : (s.setPacer l p).programs = s.programs := rfl
@[simp] theorem State.setPacer_promotions (s : State) (l : StoreLink) (p : Pacer) : (s.setPacer l p).promotions = s.promotions := rfl
@[simp] theorem State.setPacer_slots (s : State) (l : StoreLink) (p : Pacer) : (s.setPacer l p).slots = s.slots := rfl
@[simp] theorem State.setPacer_freeList (s : State) (l : StoreLink) (p : Pacer) : (s.setPacer l p).freeList = s.freeList := rfl
@[simp] theorem State.setPacer_expiryList (s : State) (l : StoreLink) (p : Pacer) : (s.setPacer l p).expiryList = s.expiryList := rfl
@[simp] theorem State.setPacer_time (s : State) (l : StoreLink) (p : Pacer) : (s.setPacer l p).time = s.time := rfl
@[simp] theorem State.setPacer_cache (s : State) (l : StoreLink) (p : Pacer) : (s.setPacer l p).cache = s.cache := rfl
@[simp] theorem State.setPacer_tmc (s : State) (l : StoreLink) (p : Pacer) : (s.setPacer l p).tmc = s.tmc := rfl
@[simp] theorem State.setPacer_cards (s : State) (l : StoreLink) (p : Pacer) : (s.setPacer l p).cards = s.cards := rfl
@[simp] theorem State.setPacer_ring (s : State) (l : StoreLink) (p : Pacer) : (s.setPacer l p).ring = s.ring := rfl
@[simp] theorem State.setPacer_journal (s : State) (l : StoreLink) (p : Pacer) : (s.setPacer l p).journal = s.journal := rfl
@[simp] theorem State.setPacer_watch (s : State) (l : StoreLink) (p : Pacer) : (s.setPacer l p).watch = s.watch := rfl
@[simp] theorem State.setPacer_mgmt (s : State) (l : StoreLink) (p : Pacer) : (s.setPacer l p).mgmt = s.mgmt := rfl
@[simp] theorem State.setPacer_powerOns (s : State) (l : StoreLink) (p : Pacer) : (s.setPacer l p).powerOns = s.powerOns := rfl

/-! ## popIntake: changes stores -/

@[simp] theorem popIntake_pending (l : StoreLink) (s : State) : (popIntake l s).pending = s.pending := rfl
@[simp] theorem popIntake_resetN (l : StoreLink) (s : State) : (popIntake l s).resetN = s.resetN := rfl
@[simp] theorem popIntake_tblen (l : StoreLink) (s : State) : (popIntake l s).tblen = s.tblen := rfl
@[simp] theorem popIntake_resetPending (l : StoreLink) (s : State) : (popIntake l s).resetPending = s.resetPending := rfl
@[simp] theorem popIntake_central (l : StoreLink) (s : State) : (popIntake l s).central = s.central := rfl
@[simp] theorem popIntake_dispatcher (l : StoreLink) (s : State) : (popIntake l s).dispatcher = s.dispatcher := rfl
@[simp] theorem popIntake_busy (l : StoreLink) (s : State) : (popIntake l s).busy = s.busy := rfl
@[simp] theorem popIntake_programs (l : StoreLink) (s : State) : (popIntake l s).programs = s.programs := rfl
@[simp] theorem popIntake_promotions (l : StoreLink) (s : State) : (popIntake l s).promotions = s.promotions := rfl
@[simp] theorem popIntake_slots (l : StoreLink) (s : State) : (popIntake l s).slots = s.slots := rfl
@[simp] theorem popIntake_freeList (l : StoreLink) (s : State) : (popIntake l s).freeList = s.freeList := rfl
@[simp] theorem popIntake_expiryList (l : StoreLink) (s : State) : (popIntake l s).expiryList = s.expiryList := rfl
@[simp] theorem popIntake_time (l : StoreLink) (s : State) : (popIntake l s).time = s.time := rfl
@[simp] theorem popIntake_cache (l : StoreLink) (s : State) : (popIntake l s).cache = s.cache := rfl
@[simp] theorem popIntake_tmc (l : StoreLink) (s : State) : (popIntake l s).tmc = s.tmc := rfl
@[simp] theorem popIntake_cards (l : StoreLink) (s : State) : (popIntake l s).cards = s.cards := rfl
@[simp] theorem popIntake_ring (l : StoreLink) (s : State) : (popIntake l s).ring = s.ring := rfl
@[simp] theorem popIntake_journal (l : StoreLink) (s : State) : (popIntake l s).journal = s.journal := rfl
@[simp] theorem popIntake_watch (l : StoreLink) (s : State) : (popIntake l s).watch = s.watch := rfl
@[simp] theorem popIntake_mgmt (l : StoreLink) (s : State) : (popIntake l s).mgmt = s.mgmt := rfl
@[simp] theorem popIntake_powerOns (l : StoreLink) (s : State) : (popIntake l s).powerOns = s.powerOns := rfl

/-! ## blockLink: changes dispatcher -/

@[simp] theorem blockLink_pending (l : StoreLink) (s : State) : (blockLink l s).pending = s.pending := by
  unfold blockLink; split <;> rfl
@[simp] theorem blockLink_resetN (l : StoreLink) (s : State) : (blockLink l s).resetN = s.resetN := by
  unfold blockLink; split <;> rfl
@[simp] theorem blockLink_tblen (l : StoreLink) (s : State) : (blockLink l s).tblen = s.tblen := by
  unfold blockLink; split <;> rfl
@[simp] theorem blockLink_resetPending (l : StoreLink) (s : State) : (blockLink l s).resetPending = s.resetPending := by
  unfold blockLink; split <;> rfl
@[simp] theorem blockLink_stores (l : StoreLink) (s : State) : (blockLink l s).stores = s.stores := by
  unfold blockLink; split <;> rfl
@[simp] theorem blockLink_central (l : StoreLink) (s : State) : (blockLink l s).central = s.central := by
  unfold blockLink; split <;> rfl
@[simp] theorem blockLink_busy (l : StoreLink) (s : State) : (blockLink l s).busy = s.busy := by
  unfold blockLink; split <;> rfl
@[simp] theorem blockLink_programs (l : StoreLink) (s : State) : (blockLink l s).programs = s.programs := by
  unfold blockLink; split <;> rfl
@[simp] theorem blockLink_promotions (l : StoreLink) (s : State) : (blockLink l s).promotions = s.promotions := by
  unfold blockLink; split <;> rfl
@[simp] theorem blockLink_slots (l : StoreLink) (s : State) : (blockLink l s).slots = s.slots := by
  unfold blockLink; split <;> rfl
@[simp] theorem blockLink_freeList (l : StoreLink) (s : State) : (blockLink l s).freeList = s.freeList := by
  unfold blockLink; split <;> rfl
@[simp] theorem blockLink_expiryList (l : StoreLink) (s : State) : (blockLink l s).expiryList = s.expiryList := by
  unfold blockLink; split <;> rfl
@[simp] theorem blockLink_time (l : StoreLink) (s : State) : (blockLink l s).time = s.time := by
  unfold blockLink; split <;> rfl
@[simp] theorem blockLink_cache (l : StoreLink) (s : State) : (blockLink l s).cache = s.cache := by
  unfold blockLink; split <;> rfl
@[simp] theorem blockLink_tmc (l : StoreLink) (s : State) : (blockLink l s).tmc = s.tmc := by
  unfold blockLink; split <;> rfl
@[simp] theorem blockLink_cards (l : StoreLink) (s : State) : (blockLink l s).cards = s.cards := by
  unfold blockLink; split <;> rfl
@[simp] theorem blockLink_ring (l : StoreLink) (s : State) : (blockLink l s).ring = s.ring := by
  unfold blockLink; split <;> rfl
@[simp] theorem blockLink_journal (l : StoreLink) (s : State) : (blockLink l s).journal = s.journal := by
  unfold blockLink; split <;> rfl
@[simp] theorem blockLink_watch (l : StoreLink) (s : State) : (blockLink l s).watch = s.watch := by
  unfold blockLink; split <;> rfl
@[simp] theorem blockLink_mgmt (l : StoreLink) (s : State) : (blockLink l s).mgmt = s.mgmt := by
  unfold blockLink; split <;> rfl
@[simp] theorem blockLink_powerOns (l : StoreLink) (s : State) : (blockLink l s).powerOns = s.powerOns := by
  unfold blockLink; split <;> rfl

/-! ## pacerArrival: changes stores -/

@[simp] theorem pacerArrival_pending (l : StoreLink) (s : State) : (pacerArrival l s).pending = s.pending := by
  unfold pacerArrival; simp only; split <;> rfl
@[simp] theorem pacerArrival_resetN (l : StoreLink) (s : State) : (pacerArrival l s).resetN = s.resetN := by
  unfold pacerArrival; simp only; split <;> rfl
@[simp] theorem pacerArrival_tblen (l : StoreLink) (s : State) : (pacerArrival l s).tblen = s.tblen := by
  unfold pacerArrival; simp only; split <;> rfl
@[simp] theorem pacerArrival_resetPending (l : StoreLink) (s : State) : (pacerArrival l s).resetPending = s.resetPending := by
  unfold pacerArrival; simp only; split <;> rfl
@[simp] theorem pacerArrival_central (l : StoreLink) (s : State) : (pacerArrival l s).central = s.central := by
  unfold pacerArrival; simp only; split <;> rfl
@[simp] theorem pacerArrival_dispatcher (l : StoreLink) (s : State) : (pacerArrival l s).dispatcher = s.dispatcher := by
  unfold pacerArrival; simp only; split <;> rfl
@[simp] theorem pacerArrival_busy (l : StoreLink) (s : State) : (pacerArrival l s).busy = s.busy := by
  unfold pacerArrival; simp only; split <;> rfl
@[simp] theorem pacerArrival_programs (l : StoreLink) (s : State) : (pacerArrival l s).programs = s.programs := by
  unfold pacerArrival; simp only; split <;> rfl
@[simp] theorem pacerArrival_promotions (l : StoreLink) (s : State) : (pacerArrival l s).promotions = s.promotions := by
  unfold pacerArrival; simp only; split <;> rfl
@[simp] theorem pacerArrival_slots (l : StoreLink) (s : State) : (pacerArrival l s).slots = s.slots := by
  unfold pacerArrival; simp only; split <;> rfl
@[simp] theorem pacerArrival_freeList (l : StoreLink) (s : State) : (pacerArrival l s).freeList = s.freeList := by
  unfold pacerArrival; simp only; split <;> rfl
@[simp] theorem pacerArrival_expiryList (l : StoreLink) (s : State) : (pacerArrival l s).expiryList = s.expiryList := by
  unfold pacerArrival; simp only; split <;> rfl
@[simp] theorem pacerArrival_time (l : StoreLink) (s : State) : (pacerArrival l s).time = s.time := by
  unfold pacerArrival; simp only; split <;> rfl
@[simp] theorem pacerArrival_cache (l : StoreLink) (s : State) : (pacerArrival l s).cache = s.cache := by
  unfold pacerArrival; simp only; split <;> rfl
@[simp] theorem pacerArrival_tmc (l : StoreLink) (s : State) : (pacerArrival l s).tmc = s.tmc := by
  unfold pacerArrival; simp only; split <;> rfl
@[simp] theorem pacerArrival_cards (l : StoreLink) (s : State) : (pacerArrival l s).cards = s.cards := by
  unfold pacerArrival; simp only; split <;> rfl
@[simp] theorem pacerArrival_ring (l : StoreLink) (s : State) : (pacerArrival l s).ring = s.ring := by
  unfold pacerArrival; simp only; split <;> rfl
@[simp] theorem pacerArrival_journal (l : StoreLink) (s : State) : (pacerArrival l s).journal = s.journal := by
  unfold pacerArrival; simp only; split <;> rfl
@[simp] theorem pacerArrival_watch (l : StoreLink) (s : State) : (pacerArrival l s).watch = s.watch := by
  unfold pacerArrival; simp only; split <;> rfl
@[simp] theorem pacerArrival_mgmt (l : StoreLink) (s : State) : (pacerArrival l s).mgmt = s.mgmt := by
  unfold pacerArrival; simp only; split <;> rfl
@[simp] theorem pacerArrival_powerOns (l : StoreLink) (s : State) : (pacerArrival l s).powerOns = s.powerOns := by
  unfold pacerArrival; simp only; split <;> rfl

/-! ## pacerExpire: changes stores -/

@[simp] theorem pacerExpire_pending (l : StoreLink) (s : State) : (pacerExpire l s).pending = s.pending := by
  unfold pacerExpire; simp only; split
  · rfl
  · rfl
  · split <;> rfl
@[simp] theorem pacerExpire_resetN (l : StoreLink) (s : State) : (pacerExpire l s).resetN = s.resetN := by
  unfold pacerExpire; simp only; split
  · rfl
  · rfl
  · split <;> rfl
@[simp] theorem pacerExpire_tblen (l : StoreLink) (s : State) : (pacerExpire l s).tblen = s.tblen := by
  unfold pacerExpire; simp only; split
  · rfl
  · rfl
  · split <;> rfl
@[simp] theorem pacerExpire_resetPending (l : StoreLink) (s : State) : (pacerExpire l s).resetPending = s.resetPending := by
  unfold pacerExpire; simp only; split
  · rfl
  · rfl
  · split <;> rfl
@[simp] theorem pacerExpire_central (l : StoreLink) (s : State) : (pacerExpire l s).central = s.central := by
  unfold pacerExpire; simp only; split
  · rfl
  · rfl
  · split <;> rfl
@[simp] theorem pacerExpire_dispatcher (l : StoreLink) (s : State) : (pacerExpire l s).dispatcher = s.dispatcher := by
  unfold pacerExpire; simp only; split
  · rfl
  · rfl
  · split <;> rfl
@[simp] theorem pacerExpire_busy (l : StoreLink) (s : State) : (pacerExpire l s).busy = s.busy := by
  unfold pacerExpire; simp only; split
  · rfl
  · rfl
  · split <;> rfl
@[simp] theorem pacerExpire_programs (l : StoreLink) (s : State) : (pacerExpire l s).programs = s.programs := by
  unfold pacerExpire; simp only; split
  · rfl
  · rfl
  · split <;> rfl
@[simp] theorem pacerExpire_promotions (l : StoreLink) (s : State) : (pacerExpire l s).promotions = s.promotions := by
  unfold pacerExpire; simp only; split
  · rfl
  · rfl
  · split <;> rfl
@[simp] theorem pacerExpire_slots (l : StoreLink) (s : State) : (pacerExpire l s).slots = s.slots := by
  unfold pacerExpire; simp only; split
  · rfl
  · rfl
  · split <;> rfl
@[simp] theorem pacerExpire_freeList (l : StoreLink) (s : State) : (pacerExpire l s).freeList = s.freeList := by
  unfold pacerExpire; simp only; split
  · rfl
  · rfl
  · split <;> rfl
@[simp] theorem pacerExpire_expiryList (l : StoreLink) (s : State) : (pacerExpire l s).expiryList = s.expiryList := by
  unfold pacerExpire; simp only; split
  · rfl
  · rfl
  · split <;> rfl
@[simp] theorem pacerExpire_time (l : StoreLink) (s : State) : (pacerExpire l s).time = s.time := by
  unfold pacerExpire; simp only; split
  · rfl
  · rfl
  · split <;> rfl
@[simp] theorem pacerExpire_cache (l : StoreLink) (s : State) : (pacerExpire l s).cache = s.cache := by
  unfold pacerExpire; simp only; split
  · rfl
  · rfl
  · split <;> rfl
@[simp] theorem pacerExpire_tmc (l : StoreLink) (s : State) : (pacerExpire l s).tmc = s.tmc := by
  unfold pacerExpire; simp only; split
  · rfl
  · rfl
  · split <;> rfl
@[simp] theorem pacerExpire_cards (l : StoreLink) (s : State) : (pacerExpire l s).cards = s.cards := by
  unfold pacerExpire; simp only; split
  · rfl
  · rfl
  · split <;> rfl
@[simp] theorem pacerExpire_ring (l : StoreLink) (s : State) : (pacerExpire l s).ring = s.ring := by
  unfold pacerExpire; simp only; split
  · rfl
  · rfl
  · split <;> rfl
@[simp] theorem pacerExpire_journal (l : StoreLink) (s : State) : (pacerExpire l s).journal = s.journal := by
  unfold pacerExpire; simp only; split
  · rfl
  · rfl
  · split <;> rfl
@[simp] theorem pacerExpire_watch (l : StoreLink) (s : State) : (pacerExpire l s).watch = s.watch := by
  unfold pacerExpire; simp only; split
  · rfl
  · rfl
  · split <;> rfl
@[simp] theorem pacerExpire_mgmt (l : StoreLink) (s : State) : (pacerExpire l s).mgmt = s.mgmt := by
  unfold pacerExpire; simp only; split
  · rfl
  · rfl
  · split <;> rfl
@[simp] theorem pacerExpire_powerOns (l : StoreLink) (s : State) : (pacerExpire l s).powerOns = s.powerOns := by
  unfold pacerExpire; simp only; split
  · rfl
  · rfl
  · split <;> rfl

/-! ## pacerTick: changes stores -/

@[simp] theorem pacerTick_pending (l : StoreLink) (s : State) : (pacerTick l s).pending = s.pending := by
  unfold pacerTick; simp only; split
  · rfl
  · split <;> simp
@[simp] theorem pacerTick_resetN (l : StoreLink) (s : State) : (pacerTick l s).resetN = s.resetN := by
  unfold pacerTick; simp only; split
  · rfl
  · split <;> simp
@[simp] theorem pacerTick_tblen (l : StoreLink) (s : State) : (pacerTick l s).tblen = s.tblen := by
  unfold pacerTick; simp only; split
  · rfl
  · split <;> simp
@[simp] theorem pacerTick_resetPending (l : StoreLink) (s : State) : (pacerTick l s).resetPending = s.resetPending := by
  unfold pacerTick; simp only; split
  · rfl
  · split <;> simp
@[simp] theorem pacerTick_central (l : StoreLink) (s : State) : (pacerTick l s).central = s.central := by
  unfold pacerTick; simp only; split
  · rfl
  · split <;> simp
@[simp] theorem pacerTick_dispatcher (l : StoreLink) (s : State) : (pacerTick l s).dispatcher = s.dispatcher := by
  unfold pacerTick; simp only; split
  · rfl
  · split <;> simp
@[simp] theorem pacerTick_busy (l : StoreLink) (s : State) : (pacerTick l s).busy = s.busy := by
  unfold pacerTick; simp only; split
  · rfl
  · split <;> simp
@[simp] theorem pacerTick_programs (l : StoreLink) (s : State) : (pacerTick l s).programs = s.programs := by
  unfold pacerTick; simp only; split
  · rfl
  · split <;> simp
@[simp] theorem pacerTick_promotions (l : StoreLink) (s : State) : (pacerTick l s).promotions = s.promotions := by
  unfold pacerTick; simp only; split
  · rfl
  · split <;> simp
@[simp] theorem pacerTick_slots (l : StoreLink) (s : State) : (pacerTick l s).slots = s.slots := by
  unfold pacerTick; simp only; split
  · rfl
  · split <;> simp
@[simp] theorem pacerTick_freeList (l : StoreLink) (s : State) : (pacerTick l s).freeList = s.freeList := by
  unfold pacerTick; simp only; split
  · rfl
  · split <;> simp
@[simp] theorem pacerTick_expiryList (l : StoreLink) (s : State) : (pacerTick l s).expiryList = s.expiryList := by
  unfold pacerTick; simp only; split
  · rfl
  · split <;> simp
@[simp] theorem pacerTick_time (l : StoreLink) (s : State) : (pacerTick l s).time = s.time := by
  unfold pacerTick; simp only; split
  · rfl
  · split <;> simp
@[simp] theorem pacerTick_cache (l : StoreLink) (s : State) : (pacerTick l s).cache = s.cache := by
  unfold pacerTick; simp only; split
  · rfl
  · split <;> simp
@[simp] theorem pacerTick_tmc (l : StoreLink) (s : State) : (pacerTick l s).tmc = s.tmc := by
  unfold pacerTick; simp only; split
  · rfl
  · split <;> simp
@[simp] theorem pacerTick_cards (l : StoreLink) (s : State) : (pacerTick l s).cards = s.cards := by
  unfold pacerTick; simp only; split
  · rfl
  · split <;> simp
@[simp] theorem pacerTick_ring (l : StoreLink) (s : State) : (pacerTick l s).ring = s.ring := by
  unfold pacerTick; simp only; split
  · rfl
  · split <;> simp
@[simp] theorem pacerTick_journal (l : StoreLink) (s : State) : (pacerTick l s).journal = s.journal := by
  unfold pacerTick; simp only; split
  · rfl
  · split <;> simp
@[simp] theorem pacerTick_watch (l : StoreLink) (s : State) : (pacerTick l s).watch = s.watch := by
  unfold pacerTick; simp only; split
  · rfl
  · split <;> simp
@[simp] theorem pacerTick_mgmt (l : StoreLink) (s : State) : (pacerTick l s).mgmt = s.mgmt := by
  unfold pacerTick; simp only; split
  · rfl
  · split <;> simp
@[simp] theorem pacerTick_powerOns (l : StoreLink) (s : State) : (pacerTick l s).powerOns = s.powerOns := by
  unfold pacerTick; simp only; split
  · rfl
  · split <;> simp

end Sys2Proof.Machine
end

