-- ==== Sys2Proof/Laws/Numbers.lean ====
section
/-!
SUPPORT. The laws of numbers and fields: a number read from the bytes it was written in is that number, and each reader of
fields takes exactly its own bytes.
-/

namespace Sys2Proof.Machine

/-! ## Numbers in bytes -/

@[simp] theorem leBytes_length (n v : Nat) : (leBytes n v).length = n := by
  induction n generalizing v with
  | zero => rfl
  | succ n ih => simp [leBytes, ih]

theorem leNat_leBytes (n v : Nat) : leNat (leBytes n v) = v % 256 ^ n := by
  induction n generalizing v with
  | zero => simp [leBytes, leNat, Nat.mod_one]
  | succ n ih =>
    simp only [leBytes, leNat, ih, BitVec.toNat_ofNat]
    have h : (256 : Nat) ^ (n + 1) = 256 * 256 ^ n := by rw [Nat.pow_succ, Nat.mul_comm]
    rw [h, Nat.mod_mul]

theorem leNat_leBytes_of_lt {n v : Nat} (h : v < 256 ^ n) : leNat (leBytes n v) = v := by
  rw [leNat_leBytes, Nat.mod_eq_of_lt h]

theorem leNat_lt (bs : List Byte) : leNat bs < 256 ^ bs.length := by
  induction bs with
  | nil => simp [leNat]
  | cons b bs ih =>
    have hb : b.toNat < 256 := b.isLt
    simp only [leNat, List.length_cons, Nat.pow_succ]
    omega

/-- A number within its stated range fits the bytes it takes (R181), for every range of 5 bytes or fewer. -/
theorem lt_byteWidth {max v : Nat} (h : v ≤ max) (hm : max < 1099511627776) : v < 256 ^ byteWidth max := by
  unfold byteWidth
  split
  · omega
  · split
    · simp only [Nat.reducePow]; omega
    · split
      · simp only [Nat.reducePow]; omega
      · split
        · simp only [Nat.reducePow]; omega
        · simp only [Nat.reducePow]; omega

/-! ## Readers -/

theorem takeNumber_leBytes {n v : Nat} (rest : List Byte) (h : v < 256 ^ n) :
    takeNumber n (leBytes n v ++ rest) = some (v, rest) := by
  unfold takeNumber
  rw [if_neg (by simp), List.take_left' (by simp), List.drop_left' (by simp), leNat_leBytes_of_lt h]

/-- A number sent within its stated range is read back, with the bytes after it (R181). -/
theorem takeNum_num {max v : Nat} (rest : List Byte) (h : v ≤ max) (hm : max < 1099511627776) :
    takeNum max (num max v ++ rest) = some (v, rest) :=
  takeNumber_leBytes rest (lt_byteWidth h hm)

theorem takeBytes_append {n : Nat} {bs : List Byte} (rest : List Byte) (h : bs.length = n) :
    takeBytes n (bs ++ rest) = some (bs, rest) := by
  unfold takeBytes
  rw [if_neg (by simp [h]), List.take_left' h, List.drop_left' h]

/-- An optional field that is sent is read back (R181). -/
theorem takeOptional_optional {α : Type} {f : α → List Byte} {g : List Byte → Option (α × List Byte)} (o : Option α)
    (rest : List Byte) (h : ∀ v, o = some v → g (f v ++ rest) = some (v, rest)) :
    takeOptional g (optional f o ++ rest) = some (o, rest) := by
  cases o with
  | none => simp [optional, takeOptional]
  | some v => simp [optional, takeOptional, h v rfl]

theorem takeCardName_index {n : Nat} (rest : List Byte) (h : n ≤ 16777215) :
    takeCardName (1#8 :: num 16777215 n ++ rest) = some (.index n, rest) := by
  simp [takeCardName, takeNum_num rest h (by decide)]

theorem takeCardName_number {ds : List Byte} (rest : List Byte) (h : ds.length = 16) :
    takeCardName (0#8 :: ds ++ rest) = some (.number ds, rest) := by
  simp [takeCardName, takeBytes_append rest h]

theorem takeTill_tillBytes {t : TillId} (rest : List Byte) (hs : t.store ≤ 65535) (hl : t.lane ≤ 255) :
    takeTill (tillBytes t ++ rest) = some (t, rest) := by
  simp [takeTill, tillBytes, List.append_assoc, takeNum_num _ hs (by decide), takeNum_num _ hl (by decide)]

/-- A command of one number (R181): bytes after it are ignored. -/
theorem oneNumber_num {max v : Nat} (rest : List Byte) (h : v ≤ max) (hm : max < 1099511627776) :
    oneNumber max (num max v ++ rest) = some v := by
  simp [oneNumber, takeNum_num rest h hm]

theorem yesNoOf_yesNoCode (b : Bool) : yesNoOf (yesNoCode b) = some b := by cases b <;> rfl

/-- A hold reference names its slot and reuse count (R72). -/
theorem holdRefOf_holdRefNat {r : HoldRef} (h : r.reuse ≤ 255) : holdRefOf (holdRefNat r) = r := by
  obtain ⟨slot, reuse⟩ := r
  simp only [holdRefOf, holdRefNat, HoldRef.mk.injEq] at h ⊢
  omega

end Sys2Proof.Machine
end

