-- ==== Sys2Proof/Laws/Tables.lean ====
section
/-!
SUPPORT. The laws of the sparse tables: a read after a write gives the value written, a write leaves every other key alone,
and every write keeps the canonical form.
-/

namespace Sys2Proof.Machine

variable {α : Type}

/-! ## Lookup after insert and erase -/

@[simp] theorem Tab.find_nil (key : Nat) : Tab.find ([] : Tab α) key = none := rfl

@[simp] theorem Tab.find_insert_same (t : Tab α) (key : Nat) (v : α) : Tab.find (Tab.insert t key v) key = some v := by
  induction t with
  | nil => simp [Tab.insert, Tab.find]
  | cons e t ih =>
    obtain ⟨k, w⟩ := e
    simp only [Tab.insert]
    split
    · simp [Tab.find]
    · split
      · simp [Tab.find]
      · simp [Tab.find, *]

theorem Tab.find_insert_other (t : Tab α) {key other : Nat} (v : α) (h : other ≠ key) :
    Tab.find (Tab.insert t key v) other = Tab.find t other := by
  induction t with
  | nil => simp [Tab.insert, Tab.find, h]
  | cons e t ih =>
    obtain ⟨k, w⟩ := e
    simp only [Tab.insert]
    split
    · simp [Tab.find, h]
    · split
      · subst k; simp [Tab.find, h]
      · simp [Tab.find, ih]

theorem Tab.find_erase_other (t : Tab α) {key other : Nat} (h : other ≠ key) :
    Tab.find (Tab.erase t key) other = Tab.find t other := by
  induction t with
  | nil => rfl
  | cons e t ih =>
    obtain ⟨k, w⟩ := e
    simp only [Tab.erase]
    split
    · subst k; simp [Tab.find, h]
    · simp [Tab.find, ih]

/-! ## Rising keys -/

theorem Tab.rising_cons {k : Nat} {v : α} {t : Tab α} :
    Tab.rising ((k, v) :: t) = true ↔ (∀ e ∈ t, k < e.1) ∧ Tab.rising t = true := by
  induction t generalizing k v with
  | nil => simp [Tab.rising]
  | cons e t ih =>
    obtain ⟨k', v'⟩ := e
    simp only [Tab.rising, Bool.and_eq_true, decide_eq_true_eq, List.mem_cons, forall_eq_or_imp]
    constructor
    · rintro ⟨h, r⟩
      exact ⟨⟨h, fun e he => Nat.lt_trans h ((ih.1 r).1 e he)⟩, r⟩
    · rintro ⟨⟨h, -⟩, r⟩
      exact ⟨h, r⟩

theorem Tab.find_none_of_below {t : Tab α} {key : Nat} (h : ∀ e ∈ t, key < e.1) : Tab.find t key = none := by
  induction t with
  | nil => rfl
  | cons e t ih =>
    obtain ⟨k, v⟩ := e
    have hk : key < k := h (k, v) (by simp)
    simp [Tab.find, Nat.ne_of_lt hk, ih fun e he => h e (by simp [he])]

theorem Tab.find_erase_same {t : Tab α} {key : Nat} (h : Tab.rising t = true) : Tab.find (Tab.erase t key) key = none := by
  induction t with
  | nil => rfl
  | cons e t ih =>
    obtain ⟨k, v⟩ := e
    obtain ⟨hb, hr⟩ := Tab.rising_cons.1 h
    simp only [Tab.erase]
    split
    · subst k; exact Tab.find_none_of_below hb
    · simp [Tab.find, *]

/-- The entries of a table after an insert: the new one, and old ones. -/
theorem Tab.mem_insert {t : Tab α} {key : Nat} {v : α} {e : Nat × α} (h : e ∈ Tab.insert t key v) :
    e = (key, v) ∨ e ∈ t := by
  induction t with
  | nil => simpa [Tab.insert] using h
  | cons x t ih =>
    obtain ⟨k, w⟩ := x
    simp only [Tab.insert] at h
    split at h
    · simpa using h
    · split at h
      · simp only [List.mem_cons] at h ⊢; tauto
      · simp only [List.mem_cons] at h ⊢
        rcases h with h | h
        · exact .inr (.inl h)
        · rcases ih h with h | h
          · exact .inl h
          · exact .inr (.inr h)

theorem Tab.mem_erase {t : Tab α} {key : Nat} {e : Nat × α} (h : e ∈ Tab.erase t key) : e ∈ t := by
  induction t with
  | nil => simp [Tab.erase] at h
  | cons x t ih =>
    obtain ⟨k, w⟩ := x
    simp only [Tab.erase] at h
    split at h
    · simp [h]
    · simp only [List.mem_cons] at h ⊢
      exact h.imp_right ih

theorem Tab.rising_insert {t : Tab α} (key : Nat) (v : α) (h : Tab.rising t = true) :
    Tab.rising (Tab.insert t key v) = true := by
  induction t with
  | nil => rfl
  | cons e t ih =>
    obtain ⟨k, w⟩ := e
    obtain ⟨hb, hr⟩ := Tab.rising_cons.1 h
    simp only [Tab.insert]
    split
    · rename_i hk
      refine Tab.rising_cons.2 ⟨?_, h⟩
      intro e he
      simp only [List.mem_cons] at he
      rcases he with rfl | he
      · exact hk
      · exact Nat.lt_trans hk (hb e he)
    · split
      · subst k; exact Tab.rising_cons.2 ⟨hb, hr⟩
      · refine Tab.rising_cons.2 ⟨?_, ih hr⟩
        intro e he
        rcases Tab.mem_insert he with rfl | he
        · show k < key
          omega
        · exact hb e he

theorem Tab.rising_erase {t : Tab α} (key : Nat) (h : Tab.rising t = true) : Tab.rising (Tab.erase t key) = true := by
  induction t with
  | nil => rfl
  | cons e t ih =>
    obtain ⟨k, w⟩ := e
    obtain ⟨hb, hr⟩ := Tab.rising_cons.1 h
    simp only [Tab.erase]
    split
    · exact hr
    · exact Tab.rising_cons.2 ⟨fun e he => hb e (Tab.mem_erase he), ih hr⟩

theorem Tab.rising_filter {t : Tab α} (p : Nat × α → Bool) (h : Tab.rising t = true) : Tab.rising (t.filter p) = true := by
  induction t with
  | nil => rfl
  | cons e t ih =>
    obtain ⟨k, w⟩ := e
    obtain ⟨hb, hr⟩ := Tab.rising_cons.1 h
    rw [List.filter_cons]
    split
    · exact Tab.rising_cons.2 ⟨fun e he => hb e (List.mem_of_mem_filter he), ih hr⟩
    · exact ih hr

/-! ## Tables with a power-on value -/

section
variable [DecidableEq α]

theorem Tab.wfWith_iff {initial : α} {t : Tab α} :
    Tab.wfWith initial t = true ↔ Tab.rising t = true ∧ ∀ e ∈ t, e.2 ≠ initial := by
  simp [Tab.wfWith]

@[simp] theorem Tab.wfWith_nil (initial : α) : Tab.wfWith initial ([] : Tab α) = true := rfl

/-- A read after a write of the same key gives the value written. -/
theorem Tab.get_set_same {initial : α} {t : Tab α} (key : Nat) (v : α) (h : Tab.wfWith initial t = true) :
    Tab.get initial (Tab.set initial t key v) key = v := by
  unfold Tab.get Tab.set
  split
  · simp [Tab.find_erase_same (Tab.wfWith_iff.1 h).1, *]
  · simp

/-- A write leaves every other key alone. -/
theorem Tab.get_set_other (initial : α) (t : Tab α) {key other : Nat} (v : α) (h : other ≠ key) :
    Tab.get initial (Tab.set initial t key v) other = Tab.get initial t other := by
  unfold Tab.get Tab.set
  split
  · rw [Tab.find_erase_other t h]
  · rw [Tab.find_insert_other t v h]

/-- A write keeps the canonical form. -/
theorem Tab.wfWith_set {initial : α} {t : Tab α} (key : Nat) (v : α) (h : Tab.wfWith initial t = true) :
    Tab.wfWith initial (Tab.set initial t key v) = true := by
  obtain ⟨hr, hn⟩ := Tab.wfWith_iff.1 h
  unfold Tab.set
  split
  · exact Tab.wfWith_iff.2 ⟨Tab.rising_erase key hr, fun e he => hn e (Tab.mem_erase he)⟩
  · rename_i hv
    refine Tab.wfWith_iff.2 ⟨Tab.rising_insert key v hr, fun e he => ?_⟩
    rcases Tab.mem_insert he with rfl | he
    · exact hv
    · exact hn e he

theorem Tab.mem_update {initial : α} {f : Nat → α → α} {t : Tab α} {e : Nat × α} (h : e ∈ Tab.update initial f t) :
    e.2 ≠ initial ∧ ∃ v, (e.1, v) ∈ t ∧ e.2 = f e.1 v := by
  induction t with
  | nil => simp [Tab.update] at h
  | cons x t ih =>
    obtain ⟨k, w⟩ := x
    simp only [Tab.update] at h
    split at h
    · obtain ⟨hn, v, hv, he⟩ := ih h
      exact ⟨hn, v, by simp [hv], he⟩
    · simp only [List.mem_cons] at h
      rcases h with rfl | h
      · exact ⟨by assumption, w, by simp, rfl⟩
      · obtain ⟨hn, v, hv, he⟩ := ih h
        exact ⟨hn, v, by simp [hv], he⟩

/-- A change of every listed value keeps the canonical form. -/
theorem Tab.wfWith_update {initial : α} (f : Nat → α → α) {t : Tab α} (h : Tab.wfWith initial t = true) :
    Tab.wfWith initial (Tab.update initial f t) = true := by
  refine Tab.wfWith_iff.2 ⟨?_, fun e he => (Tab.mem_update he).1⟩
  have hr := (Tab.wfWith_iff.1 h).1
  clear h
  induction t with
  | nil => rfl
  | cons x t ih =>
    obtain ⟨k, w⟩ := x
    obtain ⟨hb, hr⟩ := Tab.rising_cons.1 hr
    simp only [Tab.update]
    split
    · exact ih hr
    · refine Tab.rising_cons.2 ⟨fun e he => ?_, ih hr⟩
      obtain ⟨-, v, hv, -⟩ := Tab.mem_update he
      exact hb (e.1, v) hv

/-- What a key holds after a change of every listed value that keeps the power-on value. -/
theorem Tab.get_update {initial : α} {f : Nat → α → α} {t : Tab α} (key : Nat) (hf : ∀ k, f k initial = initial)
    (h : Tab.wfWith initial t = true) : Tab.get initial (Tab.update initial f t) key = f key (Tab.get initial t key) := by
  have hr := (Tab.wfWith_iff.1 h).1
  clear h
  induction t with
  | nil => simp [Tab.update, Tab.get, hf]
  | cons x t ih =>
    obtain ⟨k, w⟩ := x
    obtain ⟨hb, hr⟩ := Tab.rising_cons.1 hr
    have ih := ih hr
    simp only [Tab.get, Tab.update, Tab.find] at ih ⊢
    by_cases hk : k = key
    · subst k
      have hnone : Tab.find (Tab.update initial f t) key = none := by
        refine Tab.find_none_of_below fun e he => ?_
        obtain ⟨-, v, hv, -⟩ := Tab.mem_update he
        exact hb (e.1, v) hv
      by_cases hi : f key w = initial
      · simp [hi, hnone]
      · simp [hi, Tab.find]
    · by_cases hi : f k w = initial
      · simp [hi, Ne.symm hk, ih]
      · simp [hi, Ne.symm hk, ih, Tab.find]

/-- A filter keeps the canonical form. -/
theorem Tab.wfWith_filter {initial : α} (p : Nat × α → Bool) {t : Tab α} (h : Tab.wfWith initial t = true) :
    Tab.wfWith initial (t.filter p) = true := by
  obtain ⟨hr, hn⟩ := Tab.wfWith_iff.1 h
  exact Tab.wfWith_iff.2 ⟨Tab.rising_filter p hr, fun e he => hn e (List.mem_of_mem_filter he)⟩

end

/-! ## Lookup and membership -/

/-- In a table with rising keys, a key is looked up where it is listed. -/
theorem Tab.find_eq_some_iff {t : Tab α} (h : Tab.rising t = true) {key : Nat} {v : α} :
    Tab.find t key = some v ↔ (key, v) ∈ t := by
  induction t with
  | nil => simp
  | cons x t ih =>
    obtain ⟨k, w⟩ := x
    obtain ⟨hb, hr⟩ := Tab.rising_cons.1 h
    simp only [Tab.find, List.mem_cons, Prod.mk.injEq]
    by_cases hk : k = key
    · subst k
      have : (key, v) ∉ t := fun he => Nat.lt_irrefl _ (hb _ he)
      simp [this, eq_comm]
    · simp [Ne.symm hk, ih hr]

end Sys2Proof.Machine
end

