-- ==== Sys2Proof/Tests/Slice0.lean ====
section
/-!
SUPPORT. Small tests: the well-formedness checks, the worked examples of the spec, and for each statement with hypotheses a
state and operands that meet them together.
-/

namespace Sys2Proof.Tests

open Sys2Proof Sys2Proof.Machine

/-! ## Well-formedness: an ill-formed term for each check -/

theorem test_wf_card : (Instr.redeem 16777215).wf = true ∧ (Instr.redeem 16777216).wf = false := by decide
theorem test_wf_write_card : (Instr.cardRecordWriteComplete 16777216).wf = false := by decide
theorem test_wf_clear_card : (Instr.loadClearWriteComplete 16777216).wf = false := by decide
theorem test_wf_fetch_card : (Instr.fetchComplete 16777216 true).wf = false := by decide
theorem test_wf_program : (Instr.loadClearWriteQueue 31).wf = true ∧ (Instr.loadClearWriteQueue 32).wf = false := by decide
theorem test_wf_sequence_zero : (Instr.journalWriteComplete 0).wf = false := by decide
theorem test_wf_sequence : (Instr.journalWriteComplete 4294967295).wf = true ∧
    (Instr.journalWriteComplete 4294967296).wf = false := by decide

/-! ## Worked examples of the spec -/

/-- 1.1: the card number of prefix 604218 and serial 000031457 ends in 2. -/
theorem test_check_digit : checkDigit [6, 0, 4, 2, 1, 8, 0, 0, 0, 0, 3, 1, 4, 5, 7] = 2 := by decide
/-- 10.3: header bits 0, 6 and 13 give byte 3 the value 3Bh. -/
theorem test_header_byte : headerCheckByte (2 ^ 0 + 2 ^ 6 + 2 ^ 13) = 0x3B := by decide
/-- 10.3: header bit 6 flipped is corrected; check bit 1 flipped is corrected; bits 6 and 13 flipped are not. -/
theorem test_header_checks :
    checkHeader (2 ^ 0 + 2 ^ 13) 0x3B = .corrected (2 ^ 0 + 2 ^ 6 + 2 ^ 13) ∧
    checkHeader (2 ^ 0 + 2 ^ 6 + 2 ^ 13) 0x39 = .corrected (2 ^ 0 + 2 ^ 6 + 2 ^ 13) ∧
    checkHeader (2 ^ 0) 0x3B = .uncorrectable := by decide
/-- 8.1: card index 2,128,609 lies in set 737 with tag 2,078. -/
theorem test_cache_place : setOf 2128609 = 737 ∧ tagOf 2128609 = 2078 := by decide
/-- R58: a hold of 4,237 with a tolerance of 2,000 has the limit 5,084. -/
theorem test_completion_limit :
    completionLimit { Settings.initial with tipTolerance := 2000 } 4237 = 5084 := by decide

/-! ## States for the witnesses -/

/-- The card of the witnesses: cache set 737, tag 2,078. -/
def card : Nat := 2128609

/-- Settings within every range: prefix 604218, four cards from `card` on. -/
def settings : Settings :=
  { issuer := 604218, firstSerial := 0, serialCount := 4, tableBase := 2128609, maxBalance := 50000, minLoad := 500,
    bonusCeiling := 20000, tipTolerance := 2000, holdLifetime := 720, holdsPerCard := 4, dayCountLimit := 10,
    dayAmountLimit := 30000, partialAllowed := true, verifyRemote := false }

/-- A Program Table entry of those settings in a state. -/
def entryIn (status : ProgramStatus) : ProgramEntry :=
  { status := status, drainTarget := none, settings := settings, initialised := true, openHolds := 0, inFlight := 1 }

/-- A store link unit that is UP. -/
def storeUp : StoreUnit := { StoreUnit.initial with link := { LinkUnit.initial with up := true } }

/-- Every link UP, level 2, day 400, three free slots, and program 3 in a state. -/
def partWith (status : ProgramStatus) : State :=
  { State.reset with
    stores := { u0 := storeUp, u1 := storeUp, u2 := storeUp, u3 := storeUp }
    central := { link := { LinkUnit.initial with up := true }, fifo := [] }
    tblen := true
    freeList := [0, 1, 2]
    programs := [(3, entryIn status)]
    mgmt := { State.reset.mgmt with level := 2, day := 400 } }

/-- The part with program 3 LIVE. -/
def part : State := partWith .live

/-- An ACTIVE card of program 3 that holds 5,000 and a bonus of 500. -/
def holder : CardRecord :=
  { CardRecord.blank with program := 3, state := .active, paid := 5000, bonus := 500, bonusExpiry := some 450, lastDay := 400 }

/-- An item for the card. -/
def itemOf (body : ItemBody) : Item := { card := card, program := some 3, skip := false, body := body }

/-- The card's busy entry, ACTIVE on way 0, with items waiting. -/
def entryOf (waiting : List Item) : BusyEntry :=
  { card := card, state := .active, current := none, waiting := waiting, writes := 0, way := some 0 }

/-- The card's cache set: way 0 holds a record, pinned. -/
def setWith (r : CardRecord) : CacheSet :=
  { CacheSet.empty with way0 := { valid := true, tag := 2078, record := r, pinned := true } }

/-- A part in which the item waits at the card, which holds the record. -/
def waitsAt (b : State) (body : ItemBody) (r : CardRecord) : State :=
  { b with busy := [entryOf [itemOf body]], cache := [(737, setWith r)] }

/-- A till request on S1. -/
def request (kind : TillKind) (amount : Option Nat) : TillRequest :=
  { kind := kind, channel := .till, till := { store := 118, lane := 2 }, seq := 501, amount := amount, verify := none,
    holdRef := none, original := none, origin := .s1 }

/-- Way 0 of the card's set in such a part. -/
theorem way0_of (b : State) (body : ItemBody) (r : CardRecord) :
    (waitsAt b body r).wayAt (itemOf body).card 0 = { valid := true, tag := 2078, record := r, pinned := true } := by
  show wayOf (Tab.get CacheSet.empty [(737, setWith r)] (setOf 2128609)) 0 = _
  rw [show setOf 2128609 = 737 from by decide]
  rfl

/-- The item of `waitsAt` can be taken. -/
abbrev Takes (b : State) (body : ItemBody) (r : CardRecord) : Prop :=
  Taking (waitsAt b body r) (entryOf [itemOf body]) (itemOf body) [] 0 r

/-- The item of `waitsAt` comes to its decision with its record unrolled. -/
abbrev Decides (b : State) (q₀ : TillRequest) (r : CardRecord) : Prop :=
  AtDecision (waitsAt b (.till q₀) r) (itemOf (.till q₀)) q₀ 3 r ((waitsAt b (.till q₀) r).taken card) r

/-- The item of `waitsAt` is rolled with nothing due. -/
abbrev Rolls (b : State) (body : ItemBody) (r : CardRecord) : Prop :=
  PastRoll (waitsAt b body r) (itemOf body) r ((waitsAt b body r).taken card) r

/-- No slot watches the card. -/
theorem quiet (k : TillKind) : matchMask State.reset.watch card k = 0#4 := by cases k <;> decide

/-- The item can be taken wherever the part takes work. -/
theorem taking (b : State) (body : ItemBody) (r : CardRecord) (hr : b.resetN = true ∧ b.resetPending = false) :
    Takes b body r :=
  { card := (by decide : 2128609 < 16777216)
    working := hr, entry := rfl, active := rfl, waiting := rfl, way := ⟨rfl, by decide⟩
    valid := by simp [way0_of], record := by simp [way0_of] }

/-- The item of `waitsAt` is rolled where the card's day is current. -/
theorem pastRoll (b : State) (body : ItemBody) (r : CardRecord) (hr : b.resetN = true ∧ b.resetPending = false)
    (hd : b.mgmt.day ≤ r.lastDay) :
    Rolls b body r :=
  ⟨⟨_, _, _, taking b body r hr⟩, .inl ⟨hd, rfl, rfl⟩⟩

/-- The till request of `waitsAt` comes to its decision where nothing watches the card and its record is of the day. -/
theorem decides (b : State) (q₀ : TillRequest) (r : CardRecord) (hr : b.resetN = true ∧ b.resetPending = false)
    (hd : b.mgmt.day ≤ r.lastDay) (hw : matchMask b.watch card q₀.kind = 0#4) (hf : r.frozen = false)
    (hx : ∀ x ∈ r.recents, ¬(x.till = q₀.till ∧ x.seq = q₀.seq)) :
    Decides b q₀ r :=
  { taking := ⟨_, _, _, taking b _ r hr⟩, request := rfl, program := rfl, notFrozen := hf, notRecorded := hx
    steps := ⟨_, .inl ⟨hd, rfl, rfl⟩, .inl ⟨.inr hw, rfl⟩⟩ }

/-! ## Witnesses: the decision event -/

/-- The part takes work. -/
theorem works : part.resetN = true ∧ part.resetPending = false := by decide

/-- A recent reference of the witnesses' till. -/
def recent (kind : TillKind) (seq : Nat) : RecentRef :=
  { till := { store := 118, lane := 2 }, seq := seq, kind := kind, isPartial := false, approved := 1000, bonusPart := 300,
    paidPart := 700, day := 400, holdRef := none, promotion := none, bonusGranted := 0, reversed := false }

/-- The part with a journal of an occupancy. -/
def filled (occupancy : Nat) : State := { part with journal := { part.journal with occupancy := occupancy } }

/-- A hold of 4,237 of the card in slot 1, of which 237 is bonus. -/
def openHold : HoldSlot :=
  { HoldSlot.initial with
    state := .openHold, reuse := 7, card := card, program := 3, till := { store := 118, lane := 2 }, seq := 490,
    amount := 4237, bonusPart := 237, paidPart := 4000, openDay := 400, expiryMinute := 720 }

/-- The part with a hold in slot 1. -/
def holding (h : HoldSlot) : State :=
  { part with slots := [(1, h)], freeList := [0, 2], expiryList := if h.state = .openHold then [1] else [] }

/-- The holder's card while slot 1 holds for it. -/
def holdsOne : CardRecord := { holder with held := 4237, openHolds := 1 }

/-- A request that names the hold of slot 1. -/
def naming (kind : TillKind) (amount : Option Nat) : TillRequest :=
  { request kind amount with holdRef := some { slot := 1, reuse := 7 } }

/-- A request that names an original. -/
def about (kind : TillKind) (original : Nat) : TillRequest := { request kind none with original := some original }

theorem witness_turned_away :
    Takes part (.till (request .redeem (some 500))) { holder with frozen := true } ∧
    Takes part (.till (request .redeem (some 500))) { holder with recents := [recent .redeem 501] } ∧
    Takes part (.till (request .load (some 500))) { holder with recents := [recent .redeem 501] } ∧
    (recent .redeem 501).till = (request .redeem (some 500)).till ∧ (recent .redeem 501).seq = 501 ∧
    (recent .redeem 501).kind ≠ (request .load (some 500)).kind :=
  ⟨taking _ _ _ works, taking _ _ _ works, taking _ _ _ works, by decide⟩

/-- A card whose bonus expired the day before. -/
def stale : CardRecord := { holder with bonusExpiry := some 399, lastDay := 399 }

/-- The roll of the stale card cannot be applied at a full journal. -/
theorem stale_blocked (body : ItemBody) : RollBlocked ((waitsAt (filled 1048576) body stale).taken card) stale :=
  ⟨(by decide : 399 < 400), ⟨by decide, 399, rfl, (by decide : 399 < 400)⟩, (by decide : 1048576 - 1048576 = 0)⟩

theorem witness_roll_blocked :
    Takes (filled 1048576) (.till (request .inquire none)) stale ∧
    RollBlocked ((waitsAt (filled 1048576) (.till (request .inquire none)) stale).taken card) stale ∧
    WatchPasses (itemOf (.till (request .inquire none))) .inquire
      ((waitsAt (filled 1048576) (.till (request .inquire none)) stale).taken card)
      ((waitsAt (filled 1048576) (.till (request .inquire none)) stale).taken card) ∧
    Takes (filled 1048576) (.till (request .redeem (some 1))) stale :=
  ⟨taking _ _ _ (by decide), stale_blocked _, .inl ⟨.inr (by decide), rfl⟩, taking _ _ _ (by decide)⟩

/-- The stale card is rolled where the journal has an entry left, and comes to its decision without its bonus. -/
theorem witness_roll_expires :
    AtDecision (waitsAt (filled 1048575) (.till (request .inquire none)) stale) (itemOf (.till (request .inquire none)))
      (request .inquire none) 3 stale
      (appendJournal (expireEntry card ((waitsAt (filled 1048575) (.till (request .inquire none)) stale).taken card) stale)
        ((waitsAt (filled 1048575) (.till (request .inquire none)) stale).taken card))
      (rolledRecord card ((waitsAt (filled 1048575) (.till (request .inquire none)) stale).taken card) stale true) :=
  { taking := ⟨_, _, _, taking _ _ _ (by decide)⟩, request := rfl, program := rfl, notFrozen := rfl, notRecorded := by decide
    steps :=
      ⟨_, .inr (.inr ⟨(by decide : 399 < 400), ⟨by decide, 399, rfl, (by decide : 399 < 400)⟩,
        (by decide : 0 < 1048576 - 1048575), rfl, rfl⟩), .inl ⟨.inr (by decide), rfl⟩⟩ }

theorem witness_inquire_and_withdraw (q₀ : TillRequest) (h : q₀ ∈ [request .inquire none, about .withdraw 490]) :
    Decides part q₀ { holder with recents := [recent .redeem 490] } := by
  simp only [List.mem_cons, List.not_mem_nil, or_false] at h
  obtain rfl | rfl := h <;> exact decides _ _ _ works (by decide) (quiet _) rfl (by decide)

/-- The records of the gates and checks of a spending request: each state, a wrong verify value for the first and the third time,
the day count at its limit, and the holds at theirs. -/
def spendingCards : List CardRecord :=
  [{ holder with state := .inactive }, { holder with state := .suspended }, { holder with state := .closed }, holder,
   { holder with verify := some 123 }, { holder with verify := some 123, verifyFailures := 2 },
   { holder with dayCount := 10 }, { holder with openHolds := 4 }, { holder with dayCount := 9, openHolds := 3 }]

theorem witness_spending_checks (kind : TillKind) (verify : Option Nat) (r : CardRecord) (hr : r ∈ spendingCards) :
    Decides part { request kind (some 500) with verify := verify } r := by
  have hf : r.frozen = false ∧ r.lastDay = 400 ∧ r.recents = [] := by
    revert r; decide
  exact decides _ _ _ works (le_of_eq hf.2.1.symm) (quiet _) hf.1 (by simp [hf.2.2])

theorem witness_verification :
    VerifyFails { request .redeem (some 500) with verify := some 124 } settings { holder with verify := some 123 }
      { holder with verify := some 123, verifyFailures := 1 } false ∧
    VerifyFails { request .redeem (some 500) with verify := some 124 } settings
      { holder with verify := some 123, verifyFailures := 2 }
      { holder with verify := some 123, verifyFailures := 3, state := .suspended } true ∧
    Verified { request .redeem (some 500) with verify := some 123 } settings { holder with verify := some 123 }
      { holder with verify := some 123 } ∧
    Verified (request .redeem (some 500)) settings holder holder :=
  ⟨.inr ⟨124, 123, by decide⟩, .inr ⟨124, 123, by decide⟩, .inr ⟨123, by decide⟩, .inl (by decide)⟩

/-- A full approval, and a part of 5,500 where more is asked. -/
theorem witness_redeem (amount : Nat) :
    Decides part (request .redeem (some amount)) holder ∧ Verified (request .redeem (some amount)) settings holder holder ∧
    holder.dayCount < settings.dayCountLimit ∧ 32768 < journalFree part ∧
    min (holder.paid + holder.bonus) settings.dayAmountLimit = 5500 ∧ settings.partialAllowed = true :=
  ⟨decides _ _ _ works (by decide) (quiet _) rfl (by intro x hx; cases hx), .inl ⟨rfl, .inl rfl, rfl⟩, by decide⟩

theorem witness_hold (amount : Nat) :
    Decides part (request .hold (some amount)) holder ∧ Verified (request .hold (some amount)) settings holder holder ∧
    holder.openHolds < settings.holdsPerCard ∧ part.freeList = 0 :: [1, 2] :=
  ⟨decides _ _ _ works (by decide) (quiet _) rfl (by intro x hx; cases hx), .inl ⟨rfl, .inl rfl, rfl⟩, by decide, rfl⟩

theorem witness_hold_slots :
    Tab.wfWith .initial (holding openHold).slots = true ∧ Tab.wfWith .initial part.programs = true ∧
    (holding openHold).freeList = 0 :: [2] ∧ 0 ∉ (holding openHold).expiryList ∧
    (holding openHold).expiryList.Pairwise (fun a b =>
      ((holding openHold).slot a).expiryMinute ≤ ((holding openHold).slot b).expiryMinute) := by decide

/-- A COMPLETE or RELEASE of the hold of slot 1, on an ACTIVE and on a SUSPENDED card, up to the completion limit 5,084. -/
theorem witness_settling (kind : TillKind) (amount : Option Nat) (h : HoldSlot) (st : CardState) :
    Decides (holding h) (naming kind amount) { holdsOne with state := st } :=
  decides _ _ _ works (by show (400 : Nat) ≤ 400; decide) (quiet _) rfl (by intro x hx; cases hx)

theorem witness_settling_hold :
    ((holding openHold).slot 1).reuse = 7 ∧ ((holding openHold).slot 1).card = card ∧
    ((holding openHold).slot 1).state ≠ .free ∧ 5084 ≤ openHold.amount * (10000 + settings.tipTolerance) / 10000 ∧
    openHold.amount * (10000 + settings.tipTolerance) / 10000 < 5085 ∧ 0 < journalFree (holding openHold) ∧
    ((holding { openHold with state := .free, lastClose := some .lapse }).slot 1).lastClose = some .lapse := by decide

/-- A promotion of 10 % up to 1,000 for program 3 on the days 380 to 420. -/
def tenPercent : Promotion :=
  { enabled := true, mask := 8#32, trigger := 2500, rate := 1000, cap := 1000, startDay := 380, endDay := 420, lifetime := 90 }

theorem witness_promotion :
    Tab.wfWith .initial [(7, tenPercent), (9, { tenPercent with rate := 2000 })] = true ∧
    selectPromotion 3 400 2500 [(7, tenPercent), (9, { tenPercent with rate := 2000 })]
      = some (9, { tenPercent with rate := 2000 }) ∧
    selectPromotion 3 400 10000 [(7, tenPercent), (9, { tenPercent with rate := 2000 })] = some (7, tenPercent) ∧
    selectPromotion 3 421 2500 [(7, tenPercent)] = none ∧ selectPromotion 3 420 2499 [(7, tenPercent)] = none := by decide

/-- An ACTIVATE of an INACTIVE card and a LOAD of an ACTIVE one, with and without a promotion. -/
theorem witness_loads (kind : TillKind) (amount : Nat) (promotions : Tab Promotion) (st : CardState) :
    Decides { part with promotions := promotions } (request kind (some amount)) { holder with state := st } :=
  decides _ _ _ works (by show (400 : Nat) ≤ 400; decide) (quiet _) rfl (by intro x hx; cases hx)

/-- A REVERSE of what the card's one recent reference records. -/
theorem witness_reverse (h : HoldSlot) (x : RecentRef) (st : CardState) (hx : x.seq ≠ 501) :
    Decides (holding h) (about .reverse 490) { holdsOne with state := st, recents := [x] } := by
  refine decides _ _ _ works (by show (400 : Nat) ≤ 400; decide) (quiet _) rfl ?_
  intro y hy
  simp only [List.mem_cons, List.not_mem_nil, or_false] at hy
  subst hy
  exact fun h => hx h.2

/-- The original of a reversed HOLD. -/
def heldRef : RecentRef := { recent .hold 490 with holdRef := some { slot := 1, reuse := 7 } }

theorem witness_reversible :
    (recent .redeem 490).reversed = false ∧ (recent .redeem 490).day = part.mgmt.day ∧ (recent .redeem 490).seq = 490 ∧
    0 < journalFree part ∧ ((holding openHold).slot 1).state ≠ .free ∧ ((holding openHold).slot 1).reuse = 7 ∧
    ((holding openHold).slot 1).card = card ∧ heldRef.holdRef = some { slot := 1, reuse := 7 } ∧
    (recent .load 490).approved ≤ holder.paid ∧ (recent .load 490).bonusGranted ≤ holder.bonus ∧
    ({ recent .load 490 with day := 399 }).day ≠ part.mgmt.day ∧ holder.paid < { recent .load 490 with approved := 5001 }.approved := by
  decide

/-- A lapse item and a drop item of the hold of slot 1. -/
theorem witness_lapse (drop : Option Nat) (h : HoldSlot) :
    Rolls (holding h) (.lapse { slot := 1, reuse := 7 } drop) holdsOne :=
  pastRoll _ _ _ works (by show (400 : Nat) ≤ 400; decide)

theorem witness_lapse_due :
    ((holding { openHold with state := .lapseDue }).slot 1).state = .lapseDue ∧
    ((holding { openHold with state := .lapseDue }).slot 1).reuse = 7 ∧ ((holding openHold).slot 1).state ≠ .lapseDue ∧
    ((holding { openHold with state := .lapseDue }).slot 1).card = card ∧
    ((holding { openHold with state := .lapseDue, card := 5 }).slot 1).card ≠ card := by
  decide

/-- A lapse or drop item whose roll is blocked, whatever stands in slot 1. -/
theorem witness_lapse_blocked (drop : Option Nat) (h : HoldSlot) :
    Takes { holding h with journal := (filled 1048576).journal } (.lapse { slot := 1, reuse := 7 } drop) stale ∧
    RollBlocked
      ((waitsAt { holding h with journal := (filled 1048576).journal } (.lapse { slot := 1, reuse := 7 } drop) stale).taken card)
      stale :=
  ⟨taking _ _ _ works, (by decide : 399 < 400), ⟨by decide, 399, rfl, (by decide : 399 < 400)⟩,
    (by decide : 1048576 - 1048576 = 0)⟩

/-- A management item at the card: its record is of the day, or its roll is blocked. -/
theorem witness_management_item (body : ItemBody) (r : CardRecord) (h : r.lastDay = 400) :
    Rolls part body r ∧ Takes (filled 1048576) body stale ∧
    RollBlocked ((waitsAt (filled 1048576) body stale).taken card) stale :=
  ⟨pastRoll _ _ _ works (le_of_eq (by rw [h]; rfl)), taking _ _ _ works, stale_blocked _⟩

/-- The part with watch slot 2 on the card, parking. -/
def watching (park : Tab ParkEntry) : State :=
  { part with
    watch :=
      { part.watch with
        slot2 := { localEnable := false, globalEnable := true, base := 2128608, span := 16,
                   kinds := { outgoing := true, incoming := false, look := false }, action := .park }
        park := park } }

theorem witness_watch :
    Takes (watching []) (.till (request .redeem (some 500))) holder ∧
    RollsTo card ((waitsAt (watching []) (.till (request .redeem (some 500))) holder).taken card) holder
      ((waitsAt (watching []) (.till (request .redeem (some 500))) holder).taken card) holder ∧
    parkMask (watching []).watch card .redeem = 4#4 ∧ parkMask (watching []).watch card .load = 0#4 ∧
    Tab.find (watching []).watch.park 0 = none :=
  ⟨taking _ _ _ (by decide), .inl ⟨by show (400 : Nat) ≤ 400; decide, rfl, rfl⟩, by decide⟩

/-- The part with a full journal, and a parking watch slot that looks at the card's inquiries. -/
def looking (park : Tab ParkEntry) : State :=
  { filled 1048576 with
    watch :=
      { (watching park).watch with
        slot2 := { (watching park).watch.slot2 with kinds := { outgoing := false, incoming := false, look := true } } } }

theorem witness_watch_blocked :
    Takes (looking []) (.till (request .inquire none)) stale ∧
    RollBlocked ((waitsAt (looking []) (.till (request .inquire none)) stale).taken card) stale ∧
    parkMask (looking []).watch card .inquire = 4#4 ∧ Tab.find (looking []).watch.park 0 = none :=
  ⟨taking _ _ _ (by decide), stale_blocked (.till (request .inquire none)), by decide⟩

/-- An item in the Watch Park. -/
def parkedItem : ParkEntry :=
  { item := itemOf (.till (request .redeem (some 500))), card := card, matched := 4#4, parking := 4#4, expirySecond := 20 }

theorem witness_watch_full :
    ∀ j, j < 16 → Tab.find (watching ((List.range 16).map fun n => (n, parkedItem))).watch.park j ≠ none := by decide

theorem witness_event_ends : (entryOf []).writes < 65535 ∧
    (waitsAt part (.cardRead 1) holder).busyOf card = some (entryOf [itemOf (.cardRead 1)]) ∧
    Tab.wfWith .empty (waitsAt part (.cardRead 1) holder).cache = true ∧ (setWith holder).way0.valid = true := by decide

/-! ## Witnesses: the machine, the links, the timebase -/

theorem witness_step : ({ part with pending := [.tblenRise, .dispatch] } : State).pending = .tblenRise :: [.dispatch] := rfl

theorem witness_step_idle : part.pending = [] ∧ part.time.divider < 24999 ∧ 24999 ≤ ({ part.time with divider := 24999 }).divider := by
  decide

theorem witness_answers : Instr.dispatch.wf = true ∧ (Instr.redeem 16777216).wf = false := by decide

theorem witness_pins :
    part.mgmt.level ≤ 2 ∧ part.mgmt.level = 2 ∧ part.resetN = true ∧ ({ part with resetN := false } : State).resetN = false := by
  decide

/-- A part whose engine reset was caused, with a record's write queued. -/
def resetting : State :=
  { waitsAt part (.cardRead 1) holder with
    resetPending := true
    tmc := { part.tmc with writes := [{ id := 0, body := .card card holder .serialiser }], nextWrite := 1 } }

theorem witness_engine_reset :
    part.resetPending = false ∧ resetting.resetPending = true ∧ resetAnswerWaits resetting = false ∧
    Tab.wfWith .initial resetting.programs = true ∧ Tab.wfWith .initial resetting.slots = true ∧
    restoreWaits card resetting = false := by decide

/-- An engine reset that finds a LOAD CLEAR of program 3 with two writes left to queue and complete, or none left to queue, the
write of a restored record, and the writes of journal entries 2 and 1, of which 3 has completed. -/
def draining (count : Nat) : State :=
  { resetting with
    tmc :=
      { resetting.tmc with
        clears := [{ program := 3, tag := 9, base := 2128609, count := count, queued := 2, completed := 1 }]
        quarantine := [7, 5]
        restore :=
          some { card := 5, program := 3, tag := 8, written := some (holder, 3)
                 load := { stateCode := 1, paid := 5000, bonus := 0, bonusExpiry := none, verify := none } }
        writes :=
          [{ id := 0, body := .journal 1 { expireEntry card part holder with seq := 2 } },
           { id := 1, body := .card 5 holder .restore },
           { id := 2, body := .card 2128610 CardRecord.blank (.loadClear 3) },
           { id := 3, body := .journal 0 { expireEntry card part holder with seq := 1 } }] }
    journal := { resetting.journal with next := 4, newest := 3, occupancy := 3, position := 3, noted := [3] } }

theorem witness_drain :
    (clearOf 3 (draining 2)).map (·.count) = some 2 ∧ (draining 2).tmc.writes.countP (clearWriteOf 3) = 1 ∧
    restoreWaits 5 (draining 2) = true ∧ (draining 2).tmc.writes.countP restoreWrite = 1 ∧
    ((draining 2).journal.noted ++ queuedSequences (draining 2).tmc.writes).Perm
      ((List.range 3).map fun k => successor^[k + 1] (draining 2).journal.written) ∧
    successor (draining 2).journal.written ∉ (draining 2).journal.noted ∧
    successor^[3] (draining 2).journal.written = (draining 2).journal.newest := by decide

theorem witness_drains : restoresDrain (draining 2) ∧ restoresDrain resetting :=
  ⟨.inr ⟨by decide, _, rfl, (by decide), (by decide)⟩, .inl (by decide)⟩

/-- Chapter 8.7 and R12: the clear whose last write was queued is complete, the other abandoned; the restored card leaves the
quarantine list; the written mark ends at the newest entry. -/
theorem test_drain :
    ((resetEffect (draining 2)).program 3).initialised = true ∧ ((resetEffect (draining 4)).program 3).initialised = false ∧
    (resetEffect (draining 2)).tmc.quarantine = [7] ∧ (resetEffect (draining 2)).journal.written = 3 ∧
    (resetEffect (draining 2)).journal.noted = [] := by decide

theorem witness_headers : 2 ^ 24 - 1 < 2 ^ 24 ∧ (29 : Nat) < 30 ∧ 28 ≠ 29 ∧ 2 ^ 30 - 1 < 2 ^ 30 ∧ 3 < 4 := by decide

theorem witness_parcels : (63 : Nat) < 64 ∧ 3 < 4 ∧ (List.replicate 1024 (0#8 : Byte)).length ≤ 1024 := by
  rw [List.length_replicate]; decide

/-- The payload of a REDEEM of 500 by till 2 of store 118. -/
def redeemPayload : List Byte :=
  [3#8, 0#8, 1#8, 2#8] ++ leBytes 2 118 ++ leBytes 2 501
    ++ [54#8, 48#8, 52#8, 50#8, 49#8, 56#8, 48#8, 48#8, 48#8, 48#8, 48#8, 48#8, 48#8, 48#8, 48#8, 55#8] ++ leBytes 4 500
    ++ [0#8, 0#8, 0#8] ++ leBytes 3 0 ++ leBytes 2 0

theorem witness_request :
    redeemPayload.length = 36 ∧
    ((decodeRequest .s1 redeemPayload).bind fieldCheck).map (·.1) = some (request .redeem (some 500)) := by decide

/-- A PAUSE and an answer, as they are handed to a link unit. -/
theorem witness_handed :
    countedDrop (.pause 20) = false ∧ countedDrop (.answer (bareAnswer 3 { store := 1, lane := 2 } 3 .busy)) = true ∧
    storeUp.link.up = true ∧ LinkUnit.initial.up = false ∧
    ({ storeUp.link with out := [.pause 20] } : LinkUnit).out = .pause 20 :: [] := by decide

theorem witness_carrier :
    (State.reset.storeUnit .s1).link.up = false ∧ State.reset.central.link.up = false ∧
    (part.storeUnit .s1).link.up = true ∧ part.central.link.up = true := by decide

theorem witness_errors :
    (part.linkUnit .central).errors.getLsbD (linkErrorBit .length) = false ∧
    ({ part.central.link with errors := 255#8 } : LinkUnit).errors.getLsbD (linkErrorBit .length) = true ∧
    ({ part.mgmt with enabled := 255#8 } : Mgmt).enabled.getLsbD (noticeBit .memoryError) = true ∧
    part.mgmt.pending.getLsbD (noticeBit .memoryError) = false := by decide

/-- Parcels joining an empty queue, a queue at the high mark and a full one, and commands joining the FIFO. -/
theorem witness_reception :
    (part.storeUnit .s1).link.up = true ∧ part.resetN = true ∧ redeemPayload.length ≤ 1024 ∧
    (decodeRequest .s1 redeemPayload).isSome = true ∧
    (frame [] = .headerBad) ∧
    (match frame (encodeParcel 1 0 redeemPayload) with
      | .framed false h => headerKind h == 1 && acceptedKind (.store .s1) (headerKind h) &&
          !acceptedKind .central (headerKind h)
      | _ => false) = true ∧
    (match frame (encodeParcel 1 0 redeemPayload ++ [0#8]) with
      | .lengthBad false => true
      | _ => false) = true := by decide

/-- A pacer in PAUSING whose timer stands. -/
def pausing (timer : Nat) : Pacer := { Pacer.initial with state := .pausing, timer := timer, sent := 1 }

theorem witness_pacer :
    (pausing 1).state ≠ .idle ∧ (pausing 2).timer = 2 ∧ Pacer.initial.state = .idle ∧ part.time.milliseconds < 999 ∧
    999 ≤ ({ part.time with milliseconds := 999 } : Timebase).milliseconds := by decide

theorem witness_ticks :
    part.time.seconds ≠ 4294967295 ∧ part.time.secondPhase < 59 ∧ part.time.minutes ≠ 4294967295 ∧
    59 ≤ ({ part.time with secondPhase := 59 } : Timebase).secondPhase ∧
    ({ part.time with seconds := 4294967295, minutes := 4294967295 } : Timebase).seconds = 4294967295 ∧
    Tab.wfWith .initial (holding openHold).slots = true ∧ (∀ e ∈ (holding openHold).slots, e.1 < 16384) := by decide

/-- The hold of slot 1 at its expiry minute 720. -/
def due : State := { holding openHold with time := { part.time with minutes := 720 } }

theorem witness_due :
    due.expiryList = [1] ++ [] ∧ (∀ n ∈ [1], (due.slot n).expiryMinute ≤ due.time.minutes) ∧
    719 < (due.slot 1).expiryMinute ∧ Tab.wfWith .initial due.slots = true ∧
    (handOver { card := card, program := some 3, skip := false, body := .lapse { slot := 1, reuse := 7 } none } due).1
      = .entered := by decide

/-- The card's entry is PARKED with the item of park entry 0, whose expiry second is 20. -/
def parked (seconds : Nat) : State :=
  { waitsAt (watching [(0, parkedItem)]) (.cardRead 1) holder with
    busy := [{ entryOf [] with state := .parked, current := some parkedItem.item }]
    time := { part.time with seconds := seconds } }

theorem witness_watch_timeout :
    (∀ e ∈ (parked 19).watch.park, (parked 19).time.seconds < e.2.expirySecond) ∧
    (∃ e ∈ (parked 20).watch.park, e.2.expirySecond ≤ (parked 20).time.seconds) ∧
    Tab.rising (parked 20).watch.park = true ∧
    (parked 20).busyOf card = some { entryOf [] with state := .parked, current := some parkedItem.item } ∧
    (setWith holder).way0.valid = true := by decide

/-! ## Witnesses: the Dispatcher -/

theorem witness_check_digit :
    ([6, 0, 4, 2, 1, 8, 0, 0, 0, 0, 3, 1, 4, 5, 7] : List Nat).length = 15 ∧
    checkDigitValid ([6, 0, 4, 2, 1, 8, 0, 0, 0, 0, 3, 1, 4, 5, 7] ++ [2]) = true := by decide

/-- A request as an intake queue holds it, for card serial 0. -/
def queued : Request :=
  { kindCode := 3, channelCode := 0, till := { store := 118, lane := 2 }, seq := 501
    cardNumber := [54#8, 48#8, 52#8, 50#8, 49#8, 56#8, 48#8, 48#8, 48#8, 48#8, 48#8, 48#8, 48#8, 48#8, 48#8, 55#8]
    amount := some 500, verify := none, holdRef := none, original := none, origin := .s1, payload := redeemPayload }

/-- The digits of that card number. -/
def digits : List Nat := [6, 0, 4, 2, 1, 8, 0, 0, 0, 0, 0, 0, 0, 0, 0, 7]

theorem witness_field_check :
    queued.cardNumber.length = 16 ∧ fieldCheck queued = some (request .redeem (some 500), digits) ∧
    fieldCheck { queued with amount := some 10000001 } = none ∧ fieldCheck { queued with kindCode := 9 } = none := by decide

/-- S1 has a head, and S2 is the link after it. -/
def arrived (status : ProgramStatus) : State :=
  { partWith status with stores := { part.stores with u1 := { storeUp with intake := [queued] } } }

theorem witness_dispatch_turn :
    (arrived .live).dispatcher.last = .s3 ∧ ((arrived .live).storeUnit .s0).intake = [] ∧
    ((arrived .live).storeUnit .s1).intake = queued :: [] ∧ StoreLink.s1 ∉ (arrived .live).dispatcher.blocked ∧
    storeLinkOf (storeLinkCode StoreLink.s3 + 1 + 1) = .s1 := by decide

theorem witness_dispatch :
    fieldCheck queued = some (request .redeem (some 500), digits) ∧ digitsNat (digits.take 6) = settings.issuer ∧
    (3, entryIn .live) ∈ part.programs ∧ (3, entryIn .pass) ∈ (partWith .pass).programs ∧
    checkDigitValid digits = true ∧ digitsNat ((digits.drop 6).take 9) < settings.firstSerial + settings.serialCount ∧
    settings.tableBase + (digitsNat ((digits.drop 6).take 9) - settings.firstSerial) = card ∧ card ∉ part.tmc.quarantine ∧
    card ∈ ({ part.tmc with quarantine := [card] } : Tmc).quarantine := by decide

/-- An entry with a full waiting list. -/
def crowd : List Item := List.replicate 8 (itemOf (.cardRead 1))

theorem witness_hand_over :
    part.busyOf card = none ∧ part.busy.length < 256 ∧
    (waitsAt part (.cardRead 1) holder).busyOf card = some (entryOf [itemOf (.cardRead 1)]) ∧
    8 ≤ (entryOf crowd).waiting.length ∧ hitWay part card = none ∧ chooseWay (part.cacheSet (Machine.setOf card)) = some 0 ∧
    Tab.wfWith .initial part.programs = true ∧ Tab.wfWith .empty part.cache = true ∧
    256 ≤ (List.replicate 256 (entryOf [])).length := by
  rw [List.length_replicate]; decide

/-- All four ways of the card's set are pinned, and none holds the card. -/
def pinnedSet : CacheSet :=
  { way0 := { Way.empty with pinned := true }, way1 := { Way.empty with pinned := true },
    way2 := { Way.empty with pinned := true }, way3 := { Way.empty with pinned := true }, pointer := 2 }

theorem witness_fetch_wait :
    hitWay { part with cache := [(737, pinnedSet)] } card = none ∧ chooseWay pinnedSet = none ∧
    hitWay { part with cache := [(737, { setWith holder with pointer := 3 })] } card = some 0 := by decide

/-- The WITHDRAW names the waiting REDEEM, the parked one, or neither. -/
theorem witness_withdraw :
    (waitsAt part (.till (request .redeem (some 500))) holder).busyOf card
      = some (entryOf [itemOf (.till (request .redeem (some 500)))]) ∧
    (about .withdraw 501).original = some 501 ∧ (request .redeem (some 500)).seq = 501 ∧
    (request .redeem (some 500)).till = (about .withdraw 501).till ∧ (about .withdraw 490).original ≠ some 501 ∧
    (parked 19).busyOf card = some { entryOf [] with state := .parked, current := some parkedItem.item } ∧
    parkedItem.item.body = .till (request .redeem (some 500)) := by decide

/-- An entry in FETCH_WAIT behind the card's entry, in the same set. -/
def waitingWay : State :=
  { waitsAt part (.cardRead 1) holder with
    busy := [entryOf [], { entryOf [] with card := card + 1024, state := .fetchWait, way := none }]
    cache := [(737, { pinnedSet with way0 := (setWith holder).way0 })] }

theorem witness_freed_way :
    waitingWay.busyOf card = some (entryOf []) ∧ Tab.wfWith .empty waitingWay.cache = true ∧
    (waitingWay.busy.filter fun x => x.card != card)
      = [] ++ { entryOf [] with card := card + 1024, state := .fetchWait, way := none } :: [] ∧
    Machine.setOf (card + 1024) = Machine.setOf card ∧
    (∀ v, v < 4 → v ≠ 0 → (waitingWay.wayAt card v).pinned = true) ∧ pinnedSet.pointer < 4 ∧
    chooseWay CacheSet.empty = some 0 := by decide

theorem witness_append : part.journal.position < 1048576 ∧ (filled 786431).journal.occupancy + 1 = 786432 := by decide

/-! ## Witnesses: table memory -/

/-- The card's entry is FETCHING on way 0, its read queued. -/
def fetching : State :=
  { part with
    busy := [{ entryOf [itemOf (.till (request .redeem (some 500)))] with state := .fetching }]
    cache := [(737, { CacheSet.empty with way0 := { Way.empty with pinned := true }, pointer := 1 })]
    cards := [(card, holder)]
    tmc := { part.tmc with reads := [{ body := .fetch card, after := 0, behind := none }] } }

theorem witness_fetch :
    fetching.tmc.reads = [] ++ { body := .fetch card, after := 0, behind := none } :: [] ∧
    fetching.busyOf card = some { entryOf [itemOf (.till (request .redeem (some 500)))] with state := .fetching } ∧
    Tab.wfWith .empty fetching.cache = true ∧ (∀ x ∈ fetching.tmc.writes, x.id ≠ 0) ∧ part.tmc.reads = [] ∧
    card ∉ fetching.tmc.quarantine ∧ (holding { openHold with state := .lapseDue }).slots ≠ [] := by decide

/-- A fetch of the card is queued behind that of an entry which a withdrawal freed. -/
def refetching : State :=
  { fetching with
    tmc :=
      { fetching.tmc with
        reads := fetching.tmc.reads ++ [{ body := .fetch card, after := 0, behind := none }] } }

theorem witness_two_fetches :
    refetching.tmc.reads
      = [] ++ { body := .fetch card, after := 0, behind := none } ::
          [{ body := .fetch card, after := 0, behind := none }] ∧
    refetching.busyOf card = fetching.busyOf card ∧
    (let freed := { fetching with busy := [] }
     freed.tmc.reads = fetching.tmc.reads ∧ freed.busyOf card = none) := by decide

/-- "A listing by a card fetch ends the card's busy entry" (R136), also an entry made since. -/
theorem test_lost_fetch_ends_entry :
    (fetchLost card refetching).busy = [] ∧ (fetchLost card refetching).tmc.quarantine = [card] ∧
    (fetchLost card refetching).tmc.reads = [{ body := .fetch card, after := 0, behind := none }] := by decide

/-- A record's write by a writer, and the write of journal entry 1, are queued. -/
def writing (who : CardWriter) : State :=
  { waitsAt part (.cardRead 1) holder with
    busy := [{ entryOf [] with writes := 1 }]
    tmc :=
      { part.tmc with
        writes :=
          [{ id := 0, body := .card card holder who },
           { id := 1, body := .journal 0 { expireEntry card part holder with seq := 1 } }]
        nextWrite := 2 } }

theorem witness_writes :
    (writing .serialiser).tmc.writes
      = [] ++ { id := 0, body := .card card holder .serialiser } ::
          [{ id := 1, body := .journal 0 { expireEntry card part holder with seq := 1 } }] ∧
    successor (writing .serialiser).journal.written = 1 ∧
    successor ({ part.journal with written := 4294967295 } : Journal).written = 1 ∧
    (writing .serialiser).journal.noted.Nodup := by decide

/-- A LOAD CLEAR of program 3 that has queued and completed so many of its four records. -/
def clearing (queued completed : Nat) : ClearJob :=
  { program := 3, tag := 9, base := 2128609, count := 4, queued := queued, completed := completed }

/-- The part clears program 3. -/
def clearingPart (queued completed : Nat) : State :=
  { partWith .loading with
    tmc :=
      { part.tmc with
        clears := [clearing queued completed]
        writes := [{ id := 0, body := .card card (clearedRecord 3 400) (.loadClear 3) }]
        nextWrite := 1 } }

theorem witness_clear :
    (clearingPart 3 0).tmc.clears = [] ++ clearing 3 0 :: [] ∧ (clearing 3 0).queued < (clearing 3 0).count ∧
    (clearing 4 0).count ≤ (clearing 4 0).queued ∧ (clearing 4 3).completed + 1 = (clearing 4 3).count ∧
    (clearing 4 2).completed + 1 ≠ (clearing 4 2).count ∧ Tab.wfWith .initial (clearingPart 3 0).programs = true ∧
    (clearingPart 4 3).tmc.writes = [] ++ { id := 0, body := .card card (clearedRecord 3 400) (.loadClear 3) } :: [] := by
  decide

/-- A load record of 2,500 with no bonus, in a state. -/
def loadRecord (code : Nat) : LoadRecord :=
  { stateCode := code, paid := 2500, bonus := 0, bonusExpiry := none, verify := some [49#8, 50#8, 51#8] }

/-- The part restores the card. -/
def restoring (code : Nat) (written : Option (CardRecord × Nat)) : State :=
  { holding openHold with
    tmc :=
      { part.tmc with
        quarantine := [card]
        restore := some { card := card, program := 3, tag := 9, load := loadRecord code, written := written }
        writes := if written = none then [] else [{ id := 0, body := .card card holder .restore }]
        nextWrite := 1 } }

theorem witness_restore :
    (restoring 1 none).tmc.restore = some { card := card, program := 3, tag := 9, load := loadRecord 1, written := none } ∧
    Tab.wfWith .initial (restoring 1 none).slots = true ∧ (∀ e ∈ (restoring 1 none).slots, e.1 < 16384) ∧
    ((restoring 1 none).slot 1).card = card ∧ ((restoring 1 none).slot 1).state ≠ .free ∧
    0 < journalFree (restoring 1 none) ∧
    (restoring 1 (some (holder, 1))).tmc.writes = [] ++ { id := 0, body := .card card holder .restore } :: [] := by decide

/-- The Management Unit waits for the reads of a direct CARD READ, of a JOURNAL READ of two entries, or of a LOAD FETCH of two
records. -/
def reading (r : MgmtRead) (bodies : List ReadBody) : State :=
  { partWith .loading with
    mgmt := { part.mgmt with reading := some r, window := .opened .reading 3 2128609 }
    journal := { part.journal with next := 3, newest := 2, occupancy := 2, written := 2, position := 2 }
    tmc := { part.tmc with reads := bodies.map fun x => { body := x, after := 0, behind := none } } }

/-- The selection of two entries. -/
def selection : JournalSelection :=
  { first := 1, count := 2, more := false, continuation := 3, oldest := 1, written := 2, free := 1048574 }

theorem witness_reads :
    (reading (.card 9 card) [.direct card]).tmc.reads =
      [ReadBody.direct card].map (fun x => { body := x, after := 0, behind := none }) ++ [] ∧
    selectionPositions (reading (.journal 9 selection) []).journal selection = [0, 1] ∧
    ([.data, .corrected] : List ReadOutcome).length = selection.count ∧
    ReadOutcome.uncorrectable ∉ ([.data, .corrected] : List ReadOutcome) ∧
    (reading (.window 9 2128609 2) []).mgmt.window = .opened .reading 3 2128609 ∧
    ([.data, .uncorrectable] : List ReadOutcome) = [.data] ++ [.uncorrectable] ∧
    (reading (.card 9 card) []).tmc.corrected ≤ 65535 ∧ (reading (.card 9 card) []).tmc.writes = [] := by decide

/-- A direct read queued behind a write, which a later write of the address has passed. -/
def passed : State :=
  queueWrite (.card card holdsOne .loadData)
    (queueRead (.direct card) (queueWrite (.card card holder .loadData) (reading (.card 9 card) [])))

theorem witness_read_behind :
    passed.tmc.writes = [] ++ { id := 0, body := .card card holder .loadData } :: { id := 1, body := .card card holdsOne .loadData } :: [] ∧
    sameAddress (.card card holder .loadData) (.direct card) = true ∧
    passed.tmc.reads = [{ body := .direct card, after := 1, behind := some (.card card holder .loadData) }] := by decide

/-- R135: once both writes have completed, the read delivers what the write it was queued behind stores. -/
theorem test_read_behind_delivers_its_write :
    readCard (.direct card) card (cardWriteDone card (cardWriteDone card passed)) = some holder := by decide

/-! ## Witnesses: management commands -/

/-- A command at the head of the FIFO. -/
def commanded (b : State) (code : Nat) (fields : List Byte) : State :=
  { b with central := { b.central with fifo := [{ code := code, tag := 9, fields := fields }] } }

/-- The command of `commanded`. -/
def command (code : Nat) (fields : List Byte) : MgmtCommand := { code := code, tag := 9, fields := fields }

theorem witness_gate :
    (.loadOpen, 0x27) ∈ managementCommands ∧ (commanded part 0x27 []).central.fifo = command 0x27 [] :: [] ∧
    (commanded { part with mgmt := { part.mgmt with level := 1 } } 0x27 []).mgmt.level < 0x27 / 16 ∧
    (∀ j, (j, 0x0B) ∉ managementCommands) ∧ part.central.fifo = [] ∧ (reading (.card 9 card) []).mgmt.reading ≠ none := by
  refine ⟨by decide, rfl, by decide, ?_, rfl, by decide⟩
  intro j h
  simp [managementCommands] at h

/-- A DAY ADVANCE cut short, and a CARD WRITE without its verify failures. -/
theorem witness_cut_short :
    (.dayAdvance, 0x10, 2) ∈ requiredBytes ∧ (command 0x10 [1#8]).fields.length < 2 ∧
    (.cardWrite, 0x25, 15) ∈ requiredBytes ∧ (.dayAdvance, 0x10) ∈ managementCommands := by decide

/-- Every command is admitted at level 2. -/
theorem witness_admits (i : Instr) (code : Nat) (h : (i, code) ∈ managementCommands) (fields : List Byte) (b : State)
    (hb : b.resetN = true ∧ b.resetPending = false ∧ b.mgmt.reading = none ∧ b.mgmt.level = 2) :
    admits (commanded b code fields) code (command code fields) = true := by
  have hl : (levelOf code).getD 0 ≤ 2 := by
    simp only [managementCommands, List.mem_cons, List.not_mem_nil, or_false, Prod.mk.injEq] at h
    rcases h with h | h | h | h | h | h | h | h | h | h | h | h | h | h | h | h | h | h | h | h | h | h | h | h | h | h | h | h
      | h | h | h | h | h | h | h | h | h | h <;> (rw [h.2]; decide)
  simp only [admits, headCommand, State.working, commanded, hb.1, hb.2.1, hb.2.2.1, hb.2.2.2, command, Bool.and_eq_true,
    decide_eq_true_eq, Option.isNone_none, Bool.not_false, Bool.and_self, if_true, List.head?_cons, true_and]
  exact hl

/-- The fields of the commands with their boundary values: a hold read from the last slot and beyond it, the last and the next
number of each table, the return sizes and the levels. -/
theorem witness_numbers :
    leBytes 2 16383 ++ [] = [255#8, 63#8] ∧ leBytes 1 31 = [31#8] ∧ leBytes 1 63 = [63#8] ∧ leBytes 1 64 = [64#8] ∧
    leBytes 3 16777215 = [255#8, 255#8, 255#8] ∧ part.tblen = true ∧ State.reset.tblen = false := by decide

/-- Two readable entries, and one whose write has not completed. -/
def journalled : State :=
  { part with journal := { part.journal with next := 4, newest := 3, occupancy := 3, written := 2, position := 3 } }

theorem witness_journal :
    readableCount journalled = 2 ∧ stepsFrom journalled.journal.oldest 2 = 1 ∧
    stepsFrom journalled.journal.oldest 3 = 2 ∧ 2147483648 ≤ stepsFrom (successor 1) 1 ∧
    readableCount part = 0 ∧ stepsFrom 4294967295 1 = 1 := by decide

/-- The fields of a WATCH SET of slot 2 on 16 cards, parking outgoing requests, with a timeout of 60 seconds. -/
def watchFields : List Byte :=
  [2#8, 1#8, 0#8] ++ leBytes 3 2128609 ++ leBytes 2 16 ++ [1#8, 1#8] ++ [1#8, 60#8]

theorem witness_watch_set :
    watchSetFields watchFields =
      some { slot := 2, localEnable := some false, globalEnable := some true, base := 2128609, span := 16, kinds := 1#8,
             action := 1, timeout := some 60 } ∧
    (1#8 : BitVec 8) &&& 7#8 ≠ 0#8 ∧ 16 ∈ [1, 16, 256, 4096] := by decide

/-- R116: the answer shows the slot with its base aligned down, and the timeout. -/
theorem test_watch_set :
    (watchSet watchFields part).2 = .done ([1#8, 0#8] ++ leBytes 3 2128608 ++ leBytes 2 16 ++ [1#8, 1#8, 60#8]) := by decide

/-- A card named by its index and by its number. -/
theorem witness_names :
    namesCard part (1#8 :: leBytes 3 card) card ∧ namesCard part (0#8 :: queued.cardNumber) card ∧ servesCard part card ∧
    ¬servesCard (partWith .loading) card := by
  refine ⟨.inl ⟨[], by decide⟩, .inr ⟨queued.cardNumber, digits, [], 3, entryIn .live, by decide⟩, ?_, ?_⟩
  · exact ⟨(3, entryIn .live), by decide⟩
  · rintro ⟨e, he, hs, _⟩
    simp only [partWith, List.mem_cons, List.not_mem_nil, or_false] at he
    subst he
    exact absurd hs (by decide)

/-- A CARD WRITE with both optional fields. -/
def written : CardWriteFields :=
  { state := .active, paid := 2500, bonus := 300, bonusExpiry := some 430, verify := some [49#8, 50#8, 51#8],
    verifyFailures := 0 }

/-- The fields of a CARD WRITE of a named card, and fields cut short, which name no card. -/
theorem witness_card_write_fields :
    writesFields part (1#8 :: leBytes 3 card ++ cardWriteBytes written) card written ∧
    ∀ k f, ¬writesFields part [1#8, 2#8, 3#8] k f := by
  refine ⟨⟨1#8 :: leBytes 3 card, [], witness_names.1, rfl, by decide, by simp⟩, ?_⟩
  rintro k f ⟨name, extra, -, hl, -, hb⟩
  have := congrArg List.length hb
  simp only [List.length_append, List.length_cons, List.length_nil] at this
  split at hl <;> omega

/-- The fields of a HOLD DROP of the hold of slot 1, of a WATCH RELEASE of the parked item, and a restore's load record. -/
theorem witness_drop_release_restore :
    leBytes 3 (1 * 256 + 7) = [7#8, 1#8, 0#8] ∧ (holding openHold).busyOf card = none ∧
    (handOver
        { card := card, program := some 3, skip := false, body := .lapse { slot := 1, reuse := 7 } (some 9) }
        (holding openHold).unqueued).1 = .entered ∧
    Tab.find (parked 19).watch.park 0 = some parkedItem ∧ Tab.find (parked 19).watch.park 1 = none ∧
    parkedItem.item.body = .till (request .redeem (some 500)) ∧
    card ∈ (restoring 1 none).tmc.quarantine ∧ (restoring 1 none).tmc.restore ≠ none ∧
    programOfCard (restoring 1 none) card = some 3 ∧
    decodeLoadRecord ([1#8, 2#8] ++ leBytes 4 2500 ++ leBytes 4 0 ++ leBytes 2 0 ++ [49#8, 50#8, 51#8]
      ++ List.replicate 9 0#8) = loadRecord 1 := by decide

/-- Program 5 overlaps program 3; program 3 is held by a clear. -/
theorem witness_programs :
    settingsFit settings ∧ settingsAllowed settings ∧ Tab.wfWith .initial part.programs = true ∧
    overlapsOpen part 5 settings ∧ programHeld (clearingPart 4 0) 3 ∧ ¬programHeld part 3 ∧
    ¬settingsAllowed { settings with serialCount := 16777216 } ∧ ¬overlapsOpen part 3 settings := by
  refine ⟨by decide, by decide, by decide, ⟨3, by decide, by decide, .inl rfl⟩, .inl ⟨clearing 4 0, by decide⟩, ?_, by decide, ?_⟩
  · rintro (⟨j, hj, _⟩ | ⟨d, a, h⟩)
    · cases hj
    · cases h
  · rintro ⟨n, hn, h, _⟩
    have : part.program n = .initial := by
      simp [State.program, part, partWith, Tab.get, Tab.find, hn]
    rw [this] at h
    exact h rfl

theorem witness_promotions :
    Tab.wfWith .initial [(7, tenPercent)] = true ∧ promotionAllowed tenPercent ∧
    ¬promotionAllowed { tenPercent with lifetime := 3651 } ∧ tenPercent.enabled = true ∧ Promotion.initial.enabled = false := by
  decide

/-- The load window is open on program 3 at its last card. -/
def opened (d : Direction) (pointer : Nat) : State :=
  { partWith .loading with mgmt := { part.mgmt with window := .opened d 3 pointer } }

/-- Two load records and a tail: the first passes, and the second has no card left. -/
theorem witness_window :
    (opened .writing 2128612).mgmt.window = .opened .writing 3 2128612 ∧ loadAllowed settings (loadRecord 1) ∧
    ¬loadAllowed settings (loadRecord 4) ∧ min 2 (settings.tableBase + settings.serialCount - 2128612) = 1 ∧
    (partWith .loading).mgmt.window = .closed ∧ ((partWith .loading).program 3).status = .loading ∧
    ((partWith .loading).program 3).openHolds = 0 ∧ settings.tableBase + settings.serialCount ≤ 2128613 ∧
    Tab.wfWith .initial (partWith .loading).programs = true := by
  refine ⟨rfl, ⟨by decide, by decide, by decide, ?_, by decide⟩, fun h => absurd h.1 (by decide), by decide⟩
  intro v hv
  cases hv
  decide

/-- A flush of a way that is not pinned, and clamped marks. -/
theorem witness_flush_and_pace :
    Tab.wfWith .empty [(737, { setWith holder with way0 := { (setWith holder).way0 with pinned := false } })] = true ∧
    min (max 1 (min 64 63)) (max 2 (min 1 64) - 1) = 1 ∧ (4 : Nat) ≤ 4 ∧ 4 < 5 := by decide

/-! ## Witnesses: the invariants -/

/-- A number is among those counted up. -/
theorem mem_countUp (count start n : Nat) : n ∈ countUp count start ↔ start ≤ n ∧ n < start + count := by
  induction count generalizing start with
  | zero => simp only [countUp, List.not_mem_nil, false_iff]; omega
  | succ k ih => simp only [countUp, List.mem_cons, ih]; omega

/-- The numbers counted up are distinct. -/
theorem nodup_countUp (count start : Nat) : (countUp count start).Nodup := by
  induction count generalizing start with
  | zero => exact List.nodup_nil
  | succ k ih => simp only [countUp, List.nodup_cons, mem_countUp]; exact ⟨by omega, ih _⟩

/-- The part with every slot free, and a command in front. -/
def ready : State := { part with freeList := countUp 16384 0, pending := [.millisecondTick] }

theorem witness_invariants : WithinLimits ready ∧ HoldLists ready ∧ ProgramsApart ready ∧ HoldsCounted ready := by
  have hp (p : Nat) : (ready.program p).status ≠ .off → p = 3 := by
    intro h
    by_contra hn
    apply h
    simp [ready, State.program, part, partWith, Tab.get, Tab.find, hn, ProgramEntry.initial]
  refine ⟨?_, ?_, ?_, fun p => ?_⟩
  · constructor <;>
      first
      | decide
      | (intro l; cases l <;> decide)
      | exact ⟨by decide, fun l => by rcases l with (_ | _ | _ | _) | _ <;> decide⟩
      | exact ⟨fun l => by cases l <;> decide, by decide⟩
  · refine ⟨by decide, fun n h => absurd rfl h, ⟨nodup_countUp _ _, fun n => ?_⟩, ⟨List.nodup_nil, fun n => ?_⟩, List.Pairwise.nil⟩
    · rw [show ready.freeList = countUp 16384 0 from rfl, mem_countUp]
      exact ⟨fun h => ⟨by omega, rfl⟩, fun h => ⟨by omega, by omega⟩⟩
    · exact ⟨(fun h => nomatch h), (fun h => nomatch h)⟩
  · refine ⟨by decide, fun p h => ?_, fun p h => ?_⟩
    · rw [hp p h]; decide
    · rw [hp p h]
      rintro ⟨n, hn, ho, _⟩
      exact hn (hp n ho)
  · have hs (n : Nat) : ready.slot n = .initial := rfl
    have ho : (ready.program p).openHolds = 0 := by
      by_cases h : p = 3
      · subst h; rfl
      · simp [ready, State.program, part, partWith, Tab.get, Tab.find, h, ProgramEntry.initial]
    simp [ho, hs, HoldSlot.initial]

/-- One open hold of program 3, counted. -/
def countedHold : State := { holding openHold with programs := [(3, { entryIn .live with openHolds := 1 })] }

theorem witness_holds_counted : HoldsCounted countedHold := by
  intro p
  have hs (n : Nat) : countedHold.slot n = if n = 1 then openHold else .initial := by
    by_cases h : n = 1
    · subst h; rfl
    · simp [State.slot, countedHold, holding, Tab.get, Tab.find, h]
  have hn (n : Nat) :
      (decide ((countedHold.slot n).state ≠ .free) && (countedHold.slot n).program == p) = (decide (p = 3) && n == 1) := by
    rw [hs]
    by_cases h : n = 1
    · subst h
      by_cases h : p = 3
      · subst h; rfl
      · simp [h, openHold, Ne.symm h]
    · simp [h, HoldSlot.initial]
  rw [funext hn]
  by_cases h : p = 3
  · subst h
    rw [show (countedHold.program 3).openHolds = 1 from rfl]
    simpa [List.count] using (List.count_eq_one_of_mem List.nodup_range (by simp : 1 ∈ List.range 16384)).symm
  · simp [h, State.program, countedHold, Tab.get, Tab.find, ProgramEntry.initial]

theorem witness_step_of_invariant : ∃ t, step ready = .next t := ⟨_, rfl⟩

end Sys2Proof.Tests
end

/-! # Reads of the part's tables after a write -/

namespace Sys2Proof.Machine

/-- A Program Table read after a write of an entry. -/
theorem program_setProgram {s : State} (h : Tab.wfWith .initial s.programs = true) (p n : Nat) (e : ProgramEntry) :
    (s.setProgram p e).program n = if n = p then e else s.program n := by
  unfold State.program State.setProgram
  split
  · subst n; exact Tab.get_set_same _ _ h
  · exact Tab.get_set_other _ _ _ ‹_›

/-- A Hold Table read after a write of a slot. -/
theorem slot_setSlot {s : State} (h : Tab.wfWith .initial s.slots = true) (m n : Nat) (v : HoldSlot) :
    (s.setSlot m v).slot n = if n = m then v else s.slot n := by
  unfold State.slot State.setSlot
  split
  · subst n; exact Tab.get_set_same _ _ h
  · exact Tab.get_set_other _ _ _ ‹_›

/-- A Card Cache read after a write of a set. -/
theorem cacheSet_setCacheSet {s : State} (h : Tab.wfWith .empty s.cache = true) (m n : Nat) (c : CacheSet) :
    (s.setCacheSet m c).cacheSet n = if n = m then c else s.cacheSet n := by
  unfold State.cacheSet State.setCacheSet
  split
  · subst n; exact Tab.get_set_same _ _ h
  · exact Tab.get_set_other _ _ _ ‹_›

theorem program_congr {s t : State} (h : t.programs = s.programs) (p : Nat) : t.program p = s.program p := by
  simp only [State.program, h]

theorem slot_congr {s t : State} (h : t.slots = s.slots) (n : Nat) : t.slot n = s.slot n := by
  simp only [State.slot, h]

theorem wfWith_setProgram {s : State} (h : Tab.wfWith .initial s.programs = true) (p : Nat) (e : ProgramEntry) :
    Tab.wfWith .initial (s.setProgram p e).programs = true := Tab.wfWith_set _ _ h

theorem wfWith_setSlot {s : State} (h : Tab.wfWith .initial s.slots = true) (n : Nat) (v : HoldSlot) :
    Tab.wfWith .initial (s.setSlot n v).slots = true := Tab.wfWith_set _ _ h

/-- A listed entry of a table in canonical form is what its key holds. -/
theorem get_of_mem {α : Type} [DecidableEq α] {initial : α} {t : Tab α} (h : Tab.wfWith initial t = true) {k : Nat} {v : α}
    (hm : (k, v) ∈ t) : Tab.get initial t k = v := by
  simp [Tab.get, (Tab.find_eq_some_iff (Tab.wfWith_iff.1 h).1).2 hm]

/-- A key that does not hold the power-on value is listed. -/
theorem mem_of_get_ne {α : Type} [DecidableEq α] {initial : α} {t : Tab α} (h : Tab.wfWith initial t = true) {k : Nat}
    (hv : Tab.get initial t k ≠ initial) : (k, Tab.get initial t k) ∈ t := by
  rw [← Tab.find_eq_some_iff (Tab.wfWith_iff.1 h).1]
  cases hf : Tab.find t k <;> simp_all [Tab.get]

/-- Some listed entry has a property that the power-on value lacks exactly where some key holds a value with it. -/
theorem exists_mem_iff_exists_get {α : Type} [DecidableEq α] {initial : α} {t : Tab α} (h : Tab.wfWith initial t = true)
    {P : Nat → α → Prop} (hi : ∀ k, ¬P k initial) : (∃ e ∈ t, P e.1 e.2) ↔ ∃ k, P k (Tab.get initial t k) := by
  constructor
  · rintro ⟨⟨k, v⟩, hm, hp⟩
    exact ⟨k, by rwa [get_of_mem h hm]⟩
  · rintro ⟨k, hp⟩
    exact ⟨(k, _), mem_of_get_ne h fun hv => hi k (hv ▸ hp), hp⟩


end Sys2Proof.Machine

/-! # Settings, ranges and overlaps of programs -/

namespace Sys2Proof.Machine

theorem settingsInRange_iff {k : Settings} : settingsInRange k = true ↔ settingsAllowed k := by
  simp [settingsInRange, settingsAllowed, and_assoc]

theorem overlaps_iff {a b : Settings} : overlaps a b = true ↔ settingsOverlap a b := by
  simp only [overlaps, settingsOverlap, Bool.or_eq_true, beq_iff_eq, decide_eq_true_eq]
  refine or_congr_right ⟨fun h => ⟨max a.tableBase b.tableBase, by omega, by omega⟩, ?_⟩
  rintro ⟨card, ha, hb⟩
  omega

/-- The search of the listed entries for an overlap looks at every open program (R6). -/
theorem overlapsOther_iff {s : State} (h : Tab.wfWith .initial s.programs = true) {p : Nat} {k : Settings} :
    overlapsOther s p k = true ↔ overlapsOpen s p k := by
  simp only [overlapsOther, List.any_eq_true, Bool.and_eq_true, bne_iff_ne, decide_eq_true_eq, and_assoc, overlaps_iff]
  exact exists_mem_iff_exists_get h (P := fun n e => n ≠ p ∧ e.status ≠ .off ∧ settingsOverlap k e.settings)
    fun _ hk => hk.2.1 rfl

theorem inRange_iff {c : Settings} {card : Nat} :
    inRange c card = true ↔ c.tableBase ≤ card ∧ card < c.tableBase + c.serialCount := by
  simp [inRange]

theorem clearing_iff {s : State} {p : Nat} : clearing s p = true ↔ ∃ j ∈ s.tmc.clears, j.program = p := by
  simp [clearing, clearOf]

theorem windowOn_iff {s : State} {p : Nat} : windowOn s p = true ↔ ∃ d a, s.mgmt.window = .opened d p a := by
  unfold windowOn windowProgram
  cases s.mgmt.window <;> simp

theorem programHeld_iff {s : State} {p : Nat} : (clearing s p || windowOn s p) = true ↔ programHeld s p := by
  rw [Bool.or_eq_true, clearing_iff, windowOn_iff, programHeld]

/-- The other programs whose range holds a card that a load write wrote are no longer initialised (R9). -/
theorem program_uninitialiseOthers {s : State} (h : Tab.wfWith .initial s.programs = true) (p card n : Nat) :
    (uninitialiseOthers p card s).program n =
      if n ≠ p ∧ inRange (s.program n).settings card then { s.program n with initialised := false } else s.program n :=
  Tab.get_update n (fun k => by split <;> rfl) h

end Sys2Proof.Machine

/-! # The three invariants of the hold lists and the programs, and the moves that keep them -/

namespace Sys2Proof.Machine

/-! ## Counting -/

/-- A count over a list without repeats rises by 1 where exactly one of its members comes to be counted. -/
theorem countP_eq_succ {l : List Nat} (hl : l.Nodup) {n : Nat} (hn : n ∈ l) {p q : Nat → Bool} (hp : p n = false)
    (hq : q n = true) (h : ∀ m, m ≠ n → q m = p m) : l.countP q = l.countP p + 1 := by
  have perm := List.perm_cons_erase hn
  have rest : (l.erase n).countP q = (l.erase n).countP p :=
    List.countP_congr fun m hm => by rw [h m (List.Nodup.mem_erase_iff hl |>.1 hm).1]
  rw [perm.countP_eq, perm.countP_eq, List.countP_cons_of_pos hq, List.countP_cons_of_neg (by simp [hp]), rest]

/-- The slot `n` is an open hold of the program `p` (R10). -/
def opensIn (s : State) (p n : Nat) : Bool := decide ((s.slot n).state ≠ .free) && (s.slot n).program == p

theorem holdsCounted_iff {s : State} :
    HoldsCounted s ↔ ∀ p, (s.program p).openHolds = (List.range 16384).countP (opensIn s p) := Iff.rfl

/-! ## Programs apart -/

theorem settingsOverlap_comm {a b : Settings} : settingsOverlap a b ↔ settingsOverlap b a := by
  simp only [settingsOverlap, and_comm, eq_comm]

/-- Entries that are open only where they were, with the settings they had, are still apart (R6). -/
theorem ProgramsApart.of_programs {s t : State} (h : ProgramsApart s) (form : Tab.wfWith .initial t.programs = true)
    (hp : ∀ p, (t.program p).status ≠ .off →
      (s.program p).status ≠ .off ∧ (t.program p).settings = (s.program p).settings) : ProgramsApart t where
  form := form
  allowed p ho := by
    obtain ⟨hs, he⟩ := hp p ho
    exact he ▸ h.allowed p hs
  apart p ho := by
    rintro ⟨n, hn, hno, hov⟩
    obtain ⟨hs, he⟩ := hp p ho
    obtain ⟨hns, hne⟩ := hp n hno
    exact h.apart p hs ⟨n, hn, hns, hne ▸ he ▸ hov⟩

/-- An entry may be written that is OFF, or whose settings are allowed and overlap no other open program (R4, R6). -/
theorem ProgramsApart.setProgram {s : State} (h : ProgramsApart s) (p : Nat) (e : ProgramEntry)
    (he : e.status ≠ .off → settingsAllowed e.settings ∧ ¬overlapsOpen s p e.settings) :
    ProgramsApart (s.setProgram p e) where
  form := wfWith_setProgram h.form p e
  allowed n := by
    rw [program_setProgram h.form]
    split
    · exact fun ho => (he ho).1
    · exact h.allowed n
  apart n := by
    rw [program_setProgram h.form]
    rintro ho ⟨m, hm, hmo, hov⟩
    rw [program_setProgram h.form] at hmo hov
    split at ho
    · subst n
      rw [if_neg hm] at hmo hov
      exact (he ho).2 ⟨m, hm, hmo, by simpa using hov⟩
    · rename_i hn
      rw [if_neg hn] at hov
      split at hmo
      · subst m
        exact (he hmo).2 ⟨n, hn, ho, settingsOverlap_comm.1 (by simpa using hov)⟩
      · rename_i hmp
        rw [if_neg hmp] at hov
        exact h.apart n ho ⟨m, hm, hmo, hov⟩

/-! ## What keeps the three invariants -/

/-- The move from `s` to `t` keeps the hold lists, the programs apart and the holds counted. -/
structure Keeps (s t : State) : Prop where
  invariants : HoldLists s → ProgramsApart s → HoldLists t ∧ ProgramsApart t ∧ (HoldsCounted s → HoldsCounted t)

theorem Keeps.refl (s : State) : Keeps s s := ⟨fun h a => ⟨h, a, id⟩⟩

theorem Keeps.trans {s t u : State} (h : Keeps s t) (h' : Keeps t u) : Keeps s u := by
  refine ⟨fun hs ha => ?_⟩
  obtain ⟨ht, ta, tc⟩ := h.invariants hs ha
  obtain ⟨hu, ua, uc⟩ := h'.invariants ht ta
  exact ⟨hu, ua, uc ∘ tc⟩

/-- The parts of the state that the three invariants read. -/
def holdParts (s : State) : Tab HoldSlot × List Nat × List Nat × Tab ProgramEntry :=
  (s.slots, s.freeList, s.expiryList, s.programs)

theorem holdParts_eq_iff {s t : State} :
    holdParts t = holdParts s ↔
      t.slots = s.slots ∧ t.freeList = s.freeList ∧ t.expiryList = s.expiryList ∧ t.programs = s.programs := by
  simp [holdParts]

/-- Lists stand where the slots keep their states and expiry minutes. -/
theorem HoldLists.of_slots {s t : State} (h : HoldLists s) (form : Tab.wfWith .initial t.slots = true)
    (hs : ∀ n, (t.slot n).state = (s.slot n).state ∧ (t.slot n).expiryMinute = (s.slot n).expiryMinute)
    (hf : t.freeList = s.freeList) (he : t.expiryList = s.expiryList) : HoldLists t := by
  obtain ⟨-, numbers, free, expiry, order⟩ := h
  refine ⟨form, ?_, ?_, ?_, ?_⟩ <;> simpa only [hs, hf, he]

/-- Entries and slots that change in nothing the invariants look at. -/
theorem Keeps.of_alike {s t : State} (slots : Tab.wfWith .initial s.slots = true → Tab.wfWith .initial t.slots = true)
    (programs : Tab.wfWith .initial s.programs = true → Tab.wfWith .initial t.programs = true)
    (hs : Tab.wfWith .initial s.slots = true → ∀ n, (t.slot n).state = (s.slot n).state ∧
      (t.slot n).expiryMinute = (s.slot n).expiryMinute ∧ (t.slot n).program = (s.slot n).program)
    (hf : t.freeList = s.freeList) (he : t.expiryList = s.expiryList)
    (hp : Tab.wfWith .initial s.programs = true → ∀ p, (t.program p).openHolds = (s.program p).openHolds ∧
      ((t.program p).status ≠ .off → (s.program p).status ≠ .off ∧ (t.program p).settings = (s.program p).settings)) :
    Keeps s t := by
  refine ⟨fun h a => ?_⟩
  refine ⟨h.of_slots (slots h.form) (fun n => ⟨(hs h.form n).1, (hs h.form n).2.1⟩) hf he,
    a.of_programs (programs a.form) fun p => (hp a.form p).2, fun c p => ?_⟩
  rw [(hp a.form p).1, c p]
  simp only [hs h.form]

theorem Keeps.of_holdParts {s t : State} (h : holdParts t = holdParts s) : Keeps s t := by
  obtain ⟨hs, hf, he, hp⟩ := holdParts_eq_iff.1 h
  have slot := slot_congr hs
  have program := program_congr hp
  exact .of_alike (fun w => hs ▸ w) (fun w => hp ▸ w) (fun _ n => by simp [slot]) hf he
    fun _ p => by simp only [program, true_and]; exact fun h => ⟨h, trivial⟩

/-- A Program Table entry is written with its open holds count kept (R6, R10). -/
theorem Keeps.setProgram {s : State} (p : Nat) (e : ProgramEntry) (ho : e.openHolds = (s.program p).openHolds)
    (he : ProgramsApart s → e.status ≠ .off → settingsAllowed e.settings ∧ ¬overlapsOpen s p e.settings) :
    Keeps s (s.setProgram p e) := by
  refine ⟨fun h a => ⟨h.of_slots h.form (fun _ => ⟨rfl, rfl⟩) rfl rfl, a.setProgram p e (he a), fun c n => ?_⟩⟩
  rw [program_setProgram a.form]
  split
  · subst n; exact ho.trans (c p)
  · exact c n

/-- The same, where the entry was open with these settings or is OFF. -/
theorem Keeps.setProgram_alike {s : State} (p : Nat) (e : ProgramEntry) (ho : e.openHolds = (s.program p).openHolds)
    (he : e.status ≠ .off → (s.program p).status ≠ .off ∧ e.settings = (s.program p).settings) :
    Keeps s (s.setProgram p e) :=
  .setProgram p e ho fun a hne => by
    obtain ⟨hs, hk⟩ := he hne
    exact hk ▸ ⟨a.allowed p hs, a.apart p hs⟩

/-- A hold slot is written with its state, expiry minute and program kept. -/
theorem Keeps.setSlot_alike {s : State} (n : Nat) (v : HoldSlot)
    (hv : v.state = (s.slot n).state ∧ v.expiryMinute = (s.slot n).expiryMinute ∧ v.program = (s.slot n).program) :
    Keeps s (s.setSlot n v) := by
  refine .of_alike (fun w => wfWith_setSlot w n v) id (fun w m => ?_) rfl rfl fun _ p => ⟨rfl, fun h => ⟨h, rfl⟩⟩
  rw [slot_setSlot w]
  split
  · subst m; exact hv
  · exact ⟨rfl, rfl, rfl⟩

/-! ## A hold opens -/

/-- Where a slot joins an expiry list in order (R74). -/
theorem insertExpiry_split (f : Nat → Nat) (n : Nat) {l : List Nat} (h : l.Pairwise fun a b => f a ≤ f b) :
    ∃ before later, l = before ++ later ∧ insertExpiry f n l = before ++ n :: later ∧ (∀ m ∈ before, f m ≤ f n) ∧
      ∀ m ∈ later, f n < f m := by
  induction l with
  | nil => exact ⟨[], [], rfl, rfl, by simp, by simp⟩
  | cons m ms ih =>
    obtain ⟨hm, hms⟩ := List.pairwise_cons.1 h
    by_cases hle : f m ≤ f n
    · obtain ⟨before, later, rfl, hi, hb, hl⟩ := ih hms
      exact ⟨m :: before, later, rfl, by simp [insertExpiry, hle, hi], by simpa [hle] using hb, hl⟩
    · refine ⟨[], m :: ms, rfl, by simp [insertExpiry, hle], by simp, ?_⟩
      simp only [List.mem_cons, forall_eq_or_imp]
      exact ⟨by omega, fun k hk => by have := hm k hk; omega⟩

/-- The slots after a hold took one. -/
theorem slot_allocateHold {s : State} (w : Tab.wfWith .initial s.slots = true) (p n : Nat) (h : HoldSlot) (m : Nat) :
    (allocateHold p n h s).slot m = if m = n then h else s.slot m := slot_setSlot w n m h

theorem program_allocateHold {s : State} (w : Tab.wfWith .initial s.programs = true) (p n : Nat) (h : HoldSlot) (m : Nat) :
    (allocateHold p n h s).program m =
      if m = p then { s.program p with openHolds := (s.program p).openHolds + 1 } else s.program m :=
  program_setProgram w p m _

/-- The expiry list after a hold took the slot `n`: the slot stands between those that expire no later and those that expire
later (R74). -/
theorem expiryList_allocateHold {s : State} (w : Tab.wfWith .initial s.slots = true) (p : Nat) {n : Nat} (h : HoldSlot)
    (hn : n ∉ s.expiryList) (order : s.expiryList.Pairwise fun a b => (s.slot a).expiryMinute ≤ (s.slot b).expiryMinute) :
    ∃ before later, s.expiryList = before ++ later ∧ (allocateHold p n h s).expiryList = before ++ n :: later ∧
      (∀ m ∈ before, (s.slot m).expiryMinute ≤ h.expiryMinute) ∧
      ∀ m ∈ later, h.expiryMinute < (s.slot m).expiryMinute := by
  have old (m : Nat) (hm : m ∈ s.expiryList) : (s.setSlot n h).slot m = s.slot m := by
    rw [slot_setSlot w, if_neg (ne_of_mem_of_not_mem hm hn)]
  have new : (s.setSlot n h).slot n = h := by rw [slot_setSlot w, if_pos rfl]
  obtain ⟨before, later, hl, hi, hb, ha⟩ :=
    insertExpiry_split (fun m => ((s.setSlot n h).slot m).expiryMinute) n
      (order.imp_of_mem fun {a b} ma mb hab => by simpa only [old a ma, old b mb] using hab)
  refine ⟨before, later, hl, hi, fun m hm => ?_, fun m hm => ?_⟩
  · simpa only [old m (by simp [hl, hm]), new] using hb m hm
  · simpa only [old m (by simp [hl, hm]), new] using ha m hm

/-- A hold that takes the head of the free list keeps the lists (R55, R73, R74). -/
theorem HoldLists.allocate {s : State} (hl : HoldLists s) {n : Nat} {rest : List Nat} (hf : s.freeList = n :: rest)
    (p : Nat) {h : HoldSlot} (ho : h.state = .openHold) : HoldLists (allocateHold p n h s) := by
  obtain ⟨form, numbers, ⟨fnodup, free⟩, ⟨enodup, expiry⟩, order⟩ := hl
  obtain ⟨hlt, hfree⟩ := (free n).1 (by simp [hf])
  obtain ⟨hrest, rnodup⟩ := List.nodup_cons.1 (hf ▸ fnodup)
  have hne : n ∉ s.expiryList := by simp [expiry, hfree]
  obtain ⟨before, later, hsplit, hins, hb, ha⟩ := expiryList_allocateHold form p h hne order
  have slot := slot_allocateHold form p n h
  have hfl : (allocateHold p n h s).freeList = rest := by
    show s.freeList.tail = rest
    rw [hf]; rfl
  have perm : (before ++ n :: later).Perm (n :: s.expiryList) := hsplit ▸ List.perm_middle
  refine ⟨wfWith_setSlot form n h, fun m => ?_, ⟨hfl ▸ rnodup, fun m => ?_⟩, ⟨?_, fun m => ?_⟩, ?_⟩
  · rw [slot]
    split
    · rintro -; omega
    · exact numbers m
  · rw [hfl, slot]
    split
    · subst m; simp [hrest, ho]
    · rename_i hm; rw [← free m, hf]; simp [hm]
  · rw [hins, perm.nodup_iff]
    exact List.nodup_cons.2 ⟨hne, enodup⟩
  · rw [hins, perm.mem_iff, slot]
    split
    · subst m; simp [ho]
    · rename_i hm; rw [← expiry m]; simp [hm]
  · have old (m : Nat) (hm : m ∈ s.expiryList) : (allocateHold p n h s).slot m = s.slot m := by
      rw [slot, if_neg (ne_of_mem_of_not_mem hm hne)]
    have hn : (allocateHold p n h s).slot n = h := by rw [slot, if_pos rfl]
    have order' : s.expiryList.Pairwise fun a b =>
        ((allocateHold p n h s).slot a).expiryMinute ≤ ((allocateHold p n h s).slot b).expiryMinute :=
      order.imp_of_mem fun {a b} ma mb hab => by rwa [old a ma, old b mb]
    rw [hsplit] at order' old
    rw [hins]
    obtain ⟨ob, ol, obl⟩ := List.pairwise_append.1 order'
    refine List.pairwise_append.2 ⟨ob, List.pairwise_cons.2 ⟨fun m hm => ?_, ol⟩, fun a hma b hmb => ?_⟩
    · rw [hn, old m (by simp [hm])]; exact (ha m hm).le
    · rcases List.mem_cons.1 hmb with rfl | hmb
      · rw [hn, old a (by simp [hma])]; exact hb a hma
      · exact obl a hma b hmb

/-- An approved hold keeps the three invariants: its program's open holds count rises with it (R10). -/
theorem Keeps.allocate {s : State} {n : Nat} {rest : List Nat} (hf : s.freeList = n :: rest) {p : Nat} {h : HoldSlot}
    (ho : h.state = .openHold) (hp : h.program = p) : Keeps s (allocateHold p n h s) := by
  refine ⟨fun hl a => ?_⟩
  obtain ⟨hlt, hfree⟩ := (hl.free.2 n).1 (by simp [hf])
  refine ⟨hl.allocate hf p ho, a.of_programs (wfWith_setProgram a.form p _) fun m hm => ?_, fun c => ?_⟩
  · rw [program_allocateHold a.form] at hm ⊢
    split
    · subst m; rw [if_pos rfl] at hm; exact ⟨hm, rfl⟩
    · rename_i hmp; rw [if_neg hmp] at hm; exact ⟨hm, rfl⟩
  · have slot := slot_allocateHold hl.form p n h
    have other (q m : Nat) (hm : m ≠ n) : opensIn (allocateHold p n h s) q m = opensIn s q m := by
      simp only [opensIn, slot, if_neg hm]
    refine holdsCounted_iff.2 fun q => ?_
    rw [program_allocateHold a.form]
    split
    · subst q
      rw [countP_eq_succ List.nodup_range (List.mem_range.2 hlt) (p := opensIn s p) (by simp [opensIn, hfree])
        (by simp [opensIn, slot, ho, hp]) (other p), ← holdsCounted_iff.1 c p]
    · rename_i hq
      rw [holdsCounted_iff.1 c q]
      refine List.countP_congr fun m _ => ?_
      by_cases hm : m = n
      · subst m; simp [opensIn, slot, hfree, hp, Ne.symm hq]
      · rw [other q m hm]

/-! ## A hold closes -/

section Close
variable (card n : Nat) (reason : CloseReason) (paid bonus ceiling : Nat) (s : State) (r : CardRecord)

theorem slot_closeHold (w : Tab.wfWith .initial s.slots = true) (m : Nat) :
    (closeHold card n reason paid bonus ceiling s r).st.slot m =
      if m = n then { s.slot n with state := .free, issued := false, lastClose := some reason } else s.slot m :=
  slot_setSlot w n m _

theorem program_closeHold (w : Tab.wfWith .initial s.programs = true) (m : Nat) :
    (closeHold card n reason paid bonus ceiling s r).st.program m =
      if m = (s.slot n).program then
        { s.program (s.slot n).program with openHolds := (s.program (s.slot n).program).openHolds - 1 }
      else s.program m :=
  program_setProgram (s := ((s.setSlot n { s.slot n with state := .free, issued := false, lastClose := some reason }).withExpiryList
    (s.expiryList.filter fun m => m != n)).withFreeList (s.freeList ++ [n])) w _ m _

end Close

/-- A closed hold's slot leaves the expiry list and joins the free list (R62, R73, R74). -/
theorem HoldLists.close {s : State} (hl : HoldLists s) {n : Nat} (hn : (s.slot n).state ≠ .free) (card : Nat)
    (reason : CloseReason) (paid bonus ceiling : Nat) (r : CardRecord) :
    HoldLists (closeHold card n reason paid bonus ceiling s r).st := by
  obtain ⟨form, numbers, ⟨fnodup, free⟩, ⟨enodup, expiry⟩, order⟩ := hl
  have slot := slot_closeHold card n reason paid bonus ceiling s r form
  have hnf : n ∉ s.freeList := by simp [free, hn]
  have hfl : (closeHold card n reason paid bonus ceiling s r).st.freeList = s.freeList ++ [n] := rfl
  have hel : (closeHold card n reason paid bonus ceiling s r).st.expiryList = s.expiryList.filter fun m => m != n := rfl
  refine ⟨wfWith_setSlot form n _, fun m => ?_, ⟨?_, fun m => ?_⟩, ⟨hel ▸ enodup.filter _, fun m => ?_⟩, ?_⟩
  · rw [slot]
    split
    · simp
    · exact numbers m
  · rw [hfl, List.nodup_append]
    exact ⟨fnodup, by simp, fun a ha b hb => by simp only [List.mem_singleton] at hb; subst b; exact ne_of_mem_of_not_mem ha hnf⟩
  · rw [hfl, slot]
    split
    · subst m; simp [numbers n hn]
    · rename_i hm; rw [← free m]; simp [hm]
  · rw [hel, slot, List.mem_filter]
    split
    · subst m; simp
    · rename_i hm; rw [← expiry m]; simp [hm]
  · rw [hel]
    refine (order.filter _).imp_of_mem fun {a b} ha hb hab => ?_
    simp only [List.mem_filter, bne_iff_ne] at ha hb
    rwa [slot, if_neg ha.2, slot, if_neg hb.2]

/-- The closing of an open hold keeps the three invariants: its program's open holds count falls with it (R10, R62). -/
theorem Keeps.close {s : State} {n : Nat} (hn : (s.slot n).state ≠ .free) (card : Nat) (reason : CloseReason)
    (paid bonus ceiling : Nat) (r : CardRecord) : Keeps s (closeHold card n reason paid bonus ceiling s r).st := by
  refine ⟨fun hl a => ?_⟩
  have slot := slot_closeHold card n reason paid bonus ceiling s r hl.form
  have program := program_closeHold card n reason paid bonus ceiling s r a.form
  refine ⟨hl.close hn card reason paid bonus ceiling r, a.of_programs (wfWith_setProgram a.form _ _) fun m hm => ?_, fun c => ?_⟩
  · rw [program] at hm ⊢
    split
    · subst m; rw [if_pos rfl] at hm; exact ⟨hm, rfl⟩
    · rename_i hmp; rw [if_neg hmp] at hm; exact ⟨hm, rfl⟩
  · have other (q m : Nat) (hm : m ≠ n) :
        opensIn s q m = opensIn (closeHold card n reason paid bonus ceiling s r).st q m := by
      simp only [opensIn, slot, if_neg hm]
    refine holdsCounted_iff.2 fun q => ?_
    rw [program]
    split
    · subst q
      have one := countP_eq_succ List.nodup_range (List.mem_range.2 (hl.numbers n hn))
        (p := opensIn (closeHold card n reason paid bonus ceiling s r).st (s.slot n).program)
        (by simp [opensIn, slot]) (by simp [opensIn, hn]) (other (s.slot n).program)
      rw [← holdsCounted_iff.1 c] at one
      simp only [one, Nat.add_sub_cancel]
    · rename_i hq
      rw [holdsCounted_iff.1 c q]
      refine List.countP_congr fun m _ => ?_
      by_cases hm : m = n
      · subst m; simp [opensIn, slot, Ne.symm hq]
      · rw [other q m hm]

/-! ## Holds fall due -/

/-- Slots that leave the expiry list and become LAPSE_DUE keep the three invariants (R75, R80). `due` are the slots. -/
theorem Keeps.due {s t : State} {due : List Nat} (hd : ∀ n ∈ due, n ∈ s.expiryList)
    (form : Tab.wfWith .initial s.slots = true → Tab.wfWith .initial t.slots = true)
    (slot : Tab.wfWith .initial s.slots = true → ∀ n,
      t.slot n = if n ∈ due then { s.slot n with state := .lapseDue, issued := false } else s.slot n)
    (hf : t.freeList = s.freeList) (hp : t.programs = s.programs) (hsub : t.expiryList.Sublist s.expiryList)
    (hmem : s.expiryList.Nodup → ∀ n, n ∈ t.expiryList ↔ n ∈ s.expiryList ∧ n ∉ due) : Keeps s t := by
  refine ⟨fun hl a => ?_⟩
  have program := program_congr hp
  obtain ⟨sform, numbers, ⟨fnodup, free⟩, ⟨enodup, expiry⟩, order⟩ := hl
  have slot := slot sform
  have wasOpen (n : Nat) (h : n ∈ due) : (s.slot n).state = .openHold := (expiry n).1 (hd n h)
  have occupied (n : Nat) : (t.slot n).state = .free ↔ (s.slot n).state = .free := by
    rw [slot]
    split
    · simp [wasOpen n ‹_›]
    · rfl
  have fields (n : Nat) : (t.slot n).program = (s.slot n).program ∧ (t.slot n).expiryMinute = (s.slot n).expiryMinute := by
    rw [slot]; split <;> exact ⟨rfl, rfl⟩
  refine ⟨⟨form sform, fun n => ?_, ⟨hf ▸ fnodup, fun n => ?_⟩, ⟨enodup.sublist hsub, fun n => ?_⟩, ?_⟩,
    a.of_programs (hp ▸ a.form) fun p hne => ?_, fun c p => ?_⟩
  · rw [ne_eq, occupied]; exact numbers n
  · rw [hf, occupied]; exact free n
  · rw [hmem enodup, slot, expiry]
    split <;> simp [*]
  · simp only [fields]; exact order.sublist hsub
  · rw [program] at hne ⊢; exact ⟨hne, rfl⟩
  · rw [program, c p]
    simp only [ne_eq, occupied, fields]

end Sys2Proof.Machine

/-! # The shared operations and the decision events keep the three invariants -/

namespace Sys2Proof.Machine

/-! ## Compositions -/

theorem Keeps.foldl {α : Type} {f : State → α → State} (h : ∀ s a, Keeps s (f s a)) (l : List α) (s : State) :
    Keeps s (l.foldl f s) := by
  induction l generalizing s with
  | nil => exact .refl s
  | cons a l ih => exact (h s a).trans (ih (f s a))

theorem holdParts_foldl {α : Type} {f : State → α → State} (h : ∀ s a, holdParts (f s a) = holdParts s) (l : List α)
    (s : State) : holdParts (l.foldl f s) = holdParts s := by
  induction l generalizing s with
  | nil => rfl
  | cons a l ih => rw [List.foldl_cons, ih, h]

/-- A move that leaves the slots, the lists and the programs alone may follow. -/
theorem Keeps.then_still {s t u : State} (h : Keeps s t) (hu : holdParts u = holdParts t) : Keeps s u :=
  h.trans (.of_holdParts hu)

/-- A move that leaves the slots, the lists and the programs alone may come before. -/
theorem Keeps.after_still {s t u : State} (ht : holdParts t = holdParts s) (h : Keeps t u) : Keeps s u :=
  (Keeps.of_holdParts ht).trans h

theorem holdParts_appendJournal (e : JournalEntry) (s : State) : holdParts (appendJournal e s) = holdParts s := by
  simp [holdParts]

theorem holdParts_answerDrop (dropTag : Option Nat) (result : MgmtResult) (s : State) :
    holdParts (answerDrop dropTag result s) = holdParts s := by
  simp [holdParts]

/-! ## Program counts and the Card Serialiser -/

theorem countIn_keeps (p : Option Nat) (s : State) : Keeps s (countIn p s) := by
  cases p with
  | none => exact .refl s
  | some n => exact .setProgram_alike n _ rfl fun h => ⟨h, rfl⟩

theorem countOut_keeps (p : Option Nat) (s : State) : Keeps s (countOut p s) := by
  cases p with
  | none => exact .refl s
  | some n =>
    simp only [countOut]
    split
    · rename_i h; exact .setProgram_alike n _ rfl fun _ => ⟨by simp [h.1], rfl⟩
    · exact .setProgram_alike n _ rfl fun h => ⟨h, rfl⟩

theorem handOver_keeps (it : Item) (s : State) : Keeps s (handOver it s).2 := by
  unfold handOver
  split
  · exact .refl s
  · split
    · split
      · exact .refl s
      · exact .after_still (t := updateBusy _ _ s) rfl (countIn_keeps _ _)
    · split
      · exact .refl s
      · exact .after_still (t := newEntry it s) (by simp [holdParts]) (countIn_keeps _ _)

theorem handOver_eq_keeps {it : Item} {s s' : State} {v : HandOver} (h : handOver it s = (v, s')) : Keeps s s' := by
  simpa only [h] using handOver_keeps it s

theorem freeIfDone_keeps (card : Nat) (s : State) : Keeps s (freeIfDone card s) := .of_holdParts (by simp [holdParts])

theorem finishItem_keeps (it : Item) (before after : CardRecord) (s : State) : Keeps s (finishItem it before after s) :=
  (Keeps.after_still (by simp [holdParts]) (countOut_keeps it.program (settleRecord it.card before after s))).trans
    (freeIfDone_keeps it.card _)

/-- The end of a decision event after a move that keeps the invariants. -/
theorem Keeps.finish {s t : State} (h : Keeps s t) (it : Item) (before after : CardRecord) :
    Keeps s (finishItem it before after t) := h.trans (finishItem_keeps it before after t)

theorem unissue_keeps (card : Nat) (ref : HoldRef) (s : State) : Keeps s (unissue card ref s) := by
  simp only [unissue]
  split
  · exact .setSlot_alike _ _ ⟨rfl, rfl, rfl⟩
  · exact .refl s

/-! ## The roll and the references to holds -/

/-- The roll step changes no hold and no program (R35). -/
theorem applyRoll_holdParts {card : Nat} {s s' : State} {r r' : CardRecord} (h : applyRoll card s r = .applied s' r') :
    holdParts s' = holdParts s := by
  simp only [applyRoll] at h
  split at h
  · cases h; rfl
  · split at h
    · split at h
      · cases h
      · cases h; simp [holdParts]
    · cases h; rfl

theorem rolledFor_holdParts (card : Nat) (s : State) (r : CardRecord) : holdParts (rolledFor card s r).1 = holdParts s := by
  unfold rolledFor
  split
  · exact applyRoll_holdParts ‹_›
  · rfl

/-- A reference that is found names a slot of the card that is not FREE (R57). -/
theorem resolveHold_found {s : State} {card : Nat} {ref : HoldRef} {h : HoldSlot} (hf : resolveHold s card ref = .found h) :
    h = s.slot ref.slot ∧ (s.slot ref.slot).state ≠ .free := by
  simp only [resolveHold] at hf
  split at hf
  · split at hf
    · cases hf; exact ⟨rfl, ‹_›⟩
    · split at hf <;> cases hf
  · cases hf

/-! ## The decisions -/

theorem declineVerify_holdParts (s : State) (before after : CardRecord) :
    holdParts (declineVerify s before after).st = holdParts s := by
  unfold declineVerify decline
  split <;> simp [holdParts]

theorem decideRedeem_keeps (card p : Nat) (t : TillRequest) (s : State) (r : CardRecord) :
    Keeps s (decideRedeem card p t s r).st := by
  refine .of_holdParts ?_
  simp only [decideRedeem]
  split
  · rfl
  · split
    · exact declineVerify_holdParts ..
    · split
      · rfl
      · split
        · rfl
        · split
          · rfl
          · simp [settleRedeem, holdParts]

theorem settleHold_keeps {s : State} {n : Nat} {rest : List Nat} (hf : s.freeList = n :: rest) (card p : Nat)
    (t : TillRequest) (r : CardRecord) (x : Nat) (isPartial : Bool) : Keeps s (settleHold card p n t s r x isPartial).st := by
  have h : Keeps s (allocateHold p n (openSlot card p t (settingsOf s p) s (s.slot n) x (bonusDraw x r)) s) :=
    .allocate hf rfl rfl
  exact h.then_still (by simp [settleHold, holdParts])

theorem decideHold_keeps (card p : Nat) (t : TillRequest) (s : State) (r : CardRecord) :
    Keeps s (decideHold card p t s r).st := by
  simp only [decideHold]
  split
  · exact .refl s
  · split
    · exact .of_holdParts (declineVerify_holdParts ..)
    · split
      · exact .refl s
      · split
        · exact .refl s
        · split
          · exact .refl s
          · rename_i hf
            split
            · exact .refl s
            · split
              · exact .refl s
              · exact settleHold_keeps hf ..

theorem decideComplete_keeps (card p : Nat) (t : TillRequest) (s : State) (r : CardRecord) :
    Keeps s (decideComplete card p t s r).st := by
  simp only [decideComplete]
  split
  · exact .refl s
  · split
    · exact .refl s
    · exact .refl s
    · rename_i hf
      obtain ⟨rfl, ho⟩ := resolveHold_found hf
      split
      · exact .refl s
      · split
        · exact .refl s
        · exact .then_still (.close ho ..) (holdParts_appendJournal _ _)

theorem decideRelease_keeps (card p : Nat) (t : TillRequest) (s : State) (r : CardRecord) :
    Keeps s (decideRelease card p t s r).st := by
  simp only [decideRelease]
  split
  · exact .refl s
  · split
    · exact .refl s
    · exact .refl s
    · rename_i hf
      obtain ⟨rfl, ho⟩ := resolveHold_found hf
      split
      · exact .refl s
      · exact .then_still (.close ho ..) (holdParts_appendJournal _ _)

theorem loadSteps_holdParts (kind : JournalKind) (card p : Nat) (t : TillRequest) (s : State) (r : CardRecord) :
    holdParts (loadSteps kind card p t s r).st = holdParts s := by
  simp only [loadSteps]
  split
  · rfl
  · split
    · rfl
    · split
      · rfl
      · simp [settleLoad, holdParts]

theorem decideActivate_keeps (card p : Nat) (t : TillRequest) (s : State) (r : CardRecord) :
    Keeps s (decideActivate card p t s r).st := by
  unfold decideActivate
  split
  · exact .refl s
  · exact .of_holdParts (loadSteps_holdParts ..)

theorem decideLoad_keeps (card p : Nat) (t : TillRequest) (s : State) (r : CardRecord) :
    Keeps s (decideLoad card p t s r).st := by
  unfold decideLoad
  split
  · exact .refl s
  · exact .of_holdParts (loadSteps_holdParts ..)

theorem undoHold_keeps {s : State} {ref : HoldRef} (ho : (s.slot ref.slot).state ≠ .free) (card : Nat) (h : HoldSlot)
    (ceiling : Nat) (r : CardRecord) : Keeps s (undoHold card ref h ceiling s r).st :=
  .close ho card .release h.paidPart h.bonusPart ceiling r

theorem undo_keeps {card p : Nat} {x : RecentRef} {s : State} {r : CardRecord} {v : Reversed}
    (h : undo card p x s r = .ok v) : Keeps s v.st := by
  simp only [undo] at h
  split at h
  · split at h <;> cases h
    exact .refl s
  · split at h <;> cases h
    exact .refl s
  · split at h
    · rename_i hf
      obtain ⟨rfl, ho⟩ := resolveHold_found hf
      split at h <;> cases h
      exact undoHold_keeps ho ..
    · cases h
    · cases h
  iterate 2
    split at h
    · cases h
    · split at h <;> cases h
      exact .refl s
  all_goals cases h

theorem decideReverse_keeps (card p : Nat) (t : TillRequest) (s : State) (r : CardRecord) :
    Keeps s (decideReverse card p t s r).st := by
  unfold decideReverse
  split
  · exact .refl s
  · split
    · exact .refl s
    · split
      · exact .refl s
      · rename_i hu
        exact (undo_keeps hu).then_still (by simp [recordReversal, holdParts])

theorem decideTill_keeps (card p : Nat) (t : TillRequest) (s : State) (r shown : CardRecord) :
    Keeps s (decideTill card p t s r shown).st := by
  unfold decideTill
  split
  · exact .refl s
  · exact decideActivate_keeps ..
  · exact decideLoad_keeps ..
  · exact decideRedeem_keeps ..
  · exact decideHold_keeps ..
  · exact decideComplete_keeps ..
  · exact decideRelease_keeps ..
  · exact decideReverse_keeps ..
  · exact .refl s

/-! ## The steps of a decision event -/

theorem decideStep_keeps (it : Item) (t : TillRequest) (before : CardRecord) (s : State) (r shown : CardRecord) :
    Keeps s (decideStep it t before s r shown) := by
  refine .finish ?_ it before _
  exact .then_still (decideTill_keeps it.card (it.program.getD 0) t s r shown) rfl

theorem parkItem_holdParts (it : Item) (id : Nat) (matched parking : BitVec 4) (before after : CardRecord) (s : State) :
    holdParts (parkItem it id matched parking before after s) = holdParts s := by
  simp [parkItem, holdParts]

theorem watchStep_keeps (it : Item) (t : TillRequest) (before : CardRecord) (s : State) (r shown : CardRecord) :
    Keeps s (watchStep it t before s r shown) := by
  simp only [watchStep]
  split
  · exact decideStep_keeps ..
  · split
    · exact .after_still (by simp [holdParts]) (decideStep_keeps ..)
    · split
      · exact .of_holdParts ((parkItem_holdParts ..).trans (by simp [holdParts]))
      · exact (Keeps.of_holdParts (by simp [holdParts])).finish it before r

theorem rollStep_keeps (it : Item) (t : TillRequest) (s : State) (r : CardRecord) : Keeps s (rollStep it t s r) := by
  unfold rollStep
  split
  · exact .after_still (applyRoll_holdParts ‹_›) (watchStep_keeps ..)
  · split
    · exact watchStep_keeps ..
    · exact (Keeps.of_holdParts (by simp [holdParts])).finish it r r

theorem takeTillItem_keeps (it : Item) (t : TillRequest) (s : State) (r : CardRecord) : Keeps s (takeTillItem it t s r) := by
  unfold takeTillItem
  split
  · exact (Keeps.of_holdParts (by simp [holdParts])).finish it r r
  · split
    · refine Keeps.finish (.of_holdParts ?_) it r r
      split <;> rfl
    · exact rollStep_keeps ..

theorem lapseHold_keeps {it : Item} {ref : HoldRef} {s : State} (ho : (s.slot ref.slot).state ≠ .free)
    (dropTag : Option Nat) (before r : CardRecord) :
    Keeps s (lapseHold it ref dropTag (s.slot ref.slot) before s r) := by
  exact Keeps.finish (.then_still (.close ho ..) ((holdParts_answerDrop _ _ _).trans (holdParts_appendJournal _ _))) it before _

theorem takeLapse_keeps (it : Item) (ref : HoldRef) (dropTag : Option Nat) (s : State) (r : CardRecord) :
    Keeps s (takeLapse it ref dropTag s r) := by
  simp only [takeLapse]
  split
  · exact ((unissue_keeps it.card ref _).then_still (by simp [holdParts])).finish it r r
  · rename_i hr
    refine .after_still (applyRoll_holdParts hr) ?_
    split
    · rename_i hd
      split
      · exact ((unissue_keeps it.card ref _).then_still (by simp [holdParts])).finish it r _
      · exact lapseHold_keeps (by rw [hd.2.1]; decide) ..
    · exact (Keeps.of_holdParts (by simp [holdParts])).finish it r _

theorem takeCardRead_keeps (it : Item) (tag : Nat) (s : State) (r : CardRecord) : Keeps s (takeCardRead it tag s r) :=
  (Keeps.of_holdParts (by simpa [holdParts] using rolledFor_holdParts it.card s r)).finish it r _

theorem takeFreeze_keeps (it : Item) (code tag : Nat) (frozen : Bool) (s : State) (r : CardRecord) :
    Keeps s (takeFreeze it code tag frozen s r) :=
  (Keeps.of_holdParts (by simpa [holdParts] using rolledFor_holdParts it.card s r)).finish it r _

theorem takeCardWrite_keeps (it : Item) (tag : Nat) (f : CardWriteFields) (s : State) (r : CardRecord) :
    Keeps s (takeCardWrite it tag f s r) := by
  have hr := rolledFor_holdParts it.card s r
  simp only [takeCardWrite]
  split
  · exact (Keeps.of_holdParts (by simpa [holdParts] using hr)).finish it r _
  · split
    · exact (Keeps.of_holdParts (by simpa [holdParts] using hr)).finish it r _
    · exact (Keeps.of_holdParts (by simpa [holdParts] using hr)).finish it r _

theorem takeItem_keeps (it : Item) (s : State) : Keeps s (takeItem it s) := by
  simp only [takeItem]
  split
  · exact .refl s
  · split
    · exact takeTillItem_keeps ..
    · exact takeLapse_keeps ..
    · exact takeCardRead_keeps ..
    · exact takeFreeze_keeps ..
    · exact takeFreeze_keeps ..
    · exact takeCardWrite_keeps ..

theorem takeHead_keeps (named : Item → Bool) (card : Nat) (s : State) : Keeps s (takeHead named card s) := by
  unfold takeHead
  split
  · split
    · exact .after_still (t := unqueue card s) rfl (takeItem_keeps ..)
    · exact .refl s
  · exact .refl s

end Sys2Proof.Machine

/-! # Every step keeps the hold lists, the programs apart and the holds counted -/

namespace Sys2Proof.Machine

/-! ## The Dispatcher -/

theorem answerWithdrawn_keeps (s : State) (it : Item) : Keeps s (answerWithdrawn s it) := by
  unfold answerWithdrawn
  split
  · exact .after_still (t := answerBare _ .withdrawn s) rfl (countOut_keeps _ _)
  all_goals exact .refl s

theorem withdrawCurrent_keeps (card : Nat) (target : Option Item) (s : State) : Keeps s (withdrawCurrent card target s) := by
  cases target with
  | none => exact .refl s
  | some it => exact .after_still (by simp [holdParts]) (answerWithdrawn_keeps _ it)

theorem withdrawTargets_keeps (t : TillRequest) (card : Nat) (e : BusyEntry) (s : State) :
    Keeps s (withdrawTargets t card e s) := by
  have waiting (seq : Nat) (targets : List Item) (u : State) : Keeps u (withdrawWaiting card t.till seq targets u) :=
    .after_still (t := updateBusy card _ u) rfl (.foldl answerWithdrawn_keeps targets _)
  refine .trans ?_ (freeIfDone_keeps card _)
  exact .then_still (.trans (withdrawCurrent_keeps card _ s) (waiting ..)) rfl

theorem dispatchItem_keeps {t : TillRequest} {p card : Nat} {s s' : State} (h : dispatchItem t p card s = .consumed s') :
    Keeps s s' := by
  unfold dispatchItem at h
  split at h <;> cases h
  · exact handOver_eq_keeps ‹_›
  · exact .of_holdParts rfl
  · exact .of_holdParts rfl

theorem dispatchWithdraw_keeps {t : TillRequest} {p card : Nat} {s s' : State}
    (h : dispatchWithdraw t p card s = .consumed s') : Keeps s s' := by
  simp only [dispatchWithdraw] at h
  split at h
  · exact dispatchItem_keeps h
  · split at h
    · cases h; exact withdrawTargets_keeps ..
    · split at h
      · cases h; exact .of_holdParts rfl
      · exact dispatchItem_keeps h

theorem forward_holdParts (q : Request) (t : TillRequest) (s : State) : holdParts (forward q t s) = holdParts s := by
  unfold forward
  split <;> rfl

theorem dispatchLive_keeps {t : TillRequest} {p card : Nat} {s s' : State} (h : dispatchLive t p card s = .consumed s') :
    Keeps s s' := by
  unfold dispatchLive at h
  split at h
  · cases h; exact .of_holdParts rfl
  · split at h
    · cases h; exact .of_holdParts rfl
    · split at h
      · exact dispatchWithdraw_keeps h
      · exact dispatchItem_keeps h

theorem dispatchRequest_keeps {q : Request} {s s' : State} (h : dispatchRequest q s = .consumed s') : Keeps s s' := by
  unfold dispatchRequest at h
  split at h
  · cases h; exact .of_holdParts rfl
  · split at h
    · cases h; exact .of_holdParts (forward_holdParts ..)
    · split at h
      · cases h; exact .of_holdParts (forward_holdParts ..)
      · split at h
        · cases h; exact .of_holdParts rfl
        · exact dispatchLive_keeps h

theorem dispatchFrom_keeps (l : StoreLink) (s : State) : Keeps s (dispatchFrom l s) := by
  simp only [dispatchFrom]
  split
  · exact .refl s
  · split
    · rename_i hd
      exact .then_still (.after_still (by simp [holdParts]) (dispatchRequest_keeps hd)) (by simp [holdParts])
    · exact .of_holdParts (by simp [holdParts])

/-- What DISPATCH does (R20, R23). -/
def dispatchNext (s : State) : State :=
  if s.working then
    match nextLink s with
    | some l => dispatchFrom l s
    | none => s
  else s

theorem execDispatch_eq (s : State) : execDispatch s = .next (dispatchNext s) := by
  unfold execDispatch dispatchNext
  rfl

theorem dispatchNext_keeps (s : State) : Keeps s (dispatchNext s) := by
  unfold dispatchNext
  split
  · split
    · exact dispatchFrom_keeps ..
    · exact .refl s
  · exact .refl s

/-! ## The links -/

theorem setLinkUnit_holdParts (l : Link) (u : LinkUnit) (s : State) : holdParts (s.setLinkUnit l u) = holdParts s := by
  cases l <;> rfl

theorem joinIntake_holdParts (l : StoreLink) (q : Request) (s : State) : holdParts (joinIntake l q s) = holdParts s := by
  simp only [joinIntake]
  split <;> simp [holdParts]

theorem joinFifo_holdParts (c : MgmtCommand) (s : State) : holdParts (joinFifo c s) = holdParts s := by
  unfold joinFifo
  split <;> rfl

theorem handOn_holdParts (l : Link) (h : Nat) (payload : List Byte) (s : State) :
    holdParts (handOn l h payload s) = holdParts s := by
  unfold handOn
  split
  · split
    · exact joinIntake_holdParts ..
    · simp [holdParts]
  · split
    · rfl
    · split
      · exact joinFifo_holdParts ..
      · simp [holdParts]

theorem receiveFramed_holdParts (l : Link) (h : Nat) (bytes : List Byte) (s : State) :
    holdParts (receiveFramed l h bytes s) = holdParts s := by
  unfold receiveFramed
  split
  · rfl
  · split
    · simp [holdParts]
    · split
      · simp [holdParts]
      · exact handOn_holdParts ..

theorem receive_keeps (l : Link) (bytes : List Byte) (s : State) : Keeps s (receive l bytes s) := by
  refine .of_holdParts ?_
  unfold receive
  split
  · rfl
  · split
    · simp [holdParts]
    · simp [holdParts]
    · exact (receiveFramed_holdParts ..).trans (by simp [holdParts])

theorem sendParcel_keeps (l : Link) (s : State) : Keeps s (sendParcel l s) := by
  refine .of_holdParts ?_
  simp only [sendParcel]
  split
  · rfl
  · split
    · exact setLinkUnit_holdParts ..
    · rfl

theorem carrierOn_keeps (l : Link) (s : State) : Keeps s (carrierOn l s) := by
  refine .of_holdParts ?_
  simp only [carrierOn]
  split
  · rfl
  · split
    · exact setLinkUnit_holdParts ..
    · split <;> exact setLinkUnit_holdParts ..

theorem carrierOff_keeps (l : Link) (s : State) : Keeps s (carrierOff l s) := by
  refine .of_holdParts ?_
  simp only [carrierOff]
  split
  · rfl
  · split <;> rfl

/-! ## The ticks -/

theorem referParked_keeps (s : State) (id : Nat) (p : ParkEntry) : Keeps s (referParked id p s) := by
  refine .trans (.after_still ?_ (countOut_keeps p.item.program _)) (freeIfDone_keeps p.card _)
  split <;> simp [holdParts]

theorem watchTimeouts_keeps (s : State) : Keeps s (watchTimeouts s) := by
  simp only [watchTimeouts]
  split
  · exact .refl s
  · exact .then_still (.foldl (fun s e => referParked_keeps s e.1 e.2) (expiredParks s) s) (by simp [holdParts])

theorem foldl_makeDue_slots (l : List Nat) (s : State) :
    (Tab.wfWith .initial s.slots = true → Tab.wfWith .initial (l.foldl makeDue s).slots = true ∧
      ∀ n, (l.foldl makeDue s).slot n =
        if n ∈ l then { s.slot n with state := .lapseDue, issued := false } else s.slot n) ∧
    (l.foldl makeDue s).freeList = s.freeList ∧ (l.foldl makeDue s).programs = s.programs := by
  induction l generalizing s with
  | nil => simp
  | cons m l ih =>
    obtain ⟨hs, hf, hp⟩ := ih (makeDue s m)
    refine ⟨fun w => ?_, by simpa using hf, by simpa using hp⟩
    obtain ⟨hw, hn⟩ := hs (wfWith_setSlot w m _)
    refine ⟨hw, fun n => ?_⟩
    rw [List.foldl_cons, hn]
    by_cases hm : n = m
    · subst n; simp [makeDue, slot_setSlot w]
    · simp [makeDue, slot_setSlot w, hm]

theorem dueHolds_keeps (s : State) : Keeps s (dueHolds s) := by
  obtain ⟨hs, hf, hp⟩ := foldl_makeDue_slots (s.expiryList.takeWhile (isDue s)) s
  refine .due (due := s.expiryList.takeWhile (isDue s)) (fun n hn => (List.takeWhile_sublist _).mem hn) (fun w => (hs w).1)
    (fun w => (hs w).2) hf hp (List.dropWhile_sublist _) fun nodup n => ?_
  have whole := List.takeWhile_append_dropWhile (p := isDue s) (l := s.expiryList)
  have apart := (List.nodup_append.1 (whole.symm ▸ nodup)).2.2
  show n ∈ s.expiryList.dropWhile (isDue s) ↔ _
  refine ⟨fun h => ⟨(List.dropWhile_sublist _).mem h, fun hd => apart n hd n h rfl⟩, fun ⟨h, hd⟩ => ?_⟩
  rw [← whole, List.mem_append] at h
  exact h.resolve_left hd

theorem handOver_eq_slots {it : Item} {s s' : State} {v : HandOver} (h : handOver it s = (v, s')) : s'.slots = s.slots := by
  simpa only [h] using handOver_slots it s

theorem issueLapse_keeps (s : State) (n : Nat) : Keeps s (issueLapse s n) := by
  simp only [issueLapse]
  split
  · rename_i hv
    refine .trans (handOver_eq_keeps hv) (.setSlot_alike _ _ ?_)
    rw [slot_congr (handOver_eq_slots hv)]
    exact ⟨rfl, rfl, rfl⟩
  · exact .refl s

theorem issueLapses_keeps (s : State) : Keeps s (issueLapses s) := by
  unfold issueLapses
  split
  · exact .foldl issueLapse_keeps _ s
  · exact .refl s

theorem minuteTick_keeps (s : State) : Keeps s (minuteTick s) := by
  unfold minuteTick
  split
  · exact .of_holdParts rfl
  · refine .after_still ?_ (.trans (dueHolds_keeps _) (issueLapses_keeps _))
    rfl

theorem secondTick_keeps (s : State) : Keeps s (secondTick s) := by
  have ticked (v : Timebase) : Keeps s (watchTimeouts (s.withTime v)) :=
    .after_still (t := s.withTime v) rfl (watchTimeouts_keeps _)
  simp only [secondTick]
  split
  · exact .of_holdParts rfl
  · split
    · exact (ticked _).trans (minuteTick_keeps _)
    · exact ticked _

theorem millisecondTick_keeps (s : State) : Keeps s (millisecondTick s) := by
  simp only [millisecondTick]
  split
  · exact .after_still (by simp [holdParts]) (secondTick_keeps _)
  · exact .of_holdParts (by simp [holdParts])

theorem clockCycle_keeps (s : State) : Keeps s (clockCycle s) := by
  unfold clockCycle
  split
  · exact millisecondTick_keeps s
  · exact .of_holdParts rfl

end Sys2Proof.Machine

/-! ## DRAM reads and writes -/

namespace Sys2Proof.Machine

theorem takeRead_holdParts {b : ReadBody} {s s' : State} (h : takeRead b s = some s') : holdParts s' = holdParts s := by
  unfold takeRead at h
  split at h
  · cases h
  · split at h <;> cases h
    rfl

theorem takeReads_holdParts {bs : List ReadBody} {s s' : State} (h : takeReads bs s = some s') :
    holdParts s' = holdParts s := by
  induction bs generalizing s with
  | nil => cases h; rfl
  | cons b bs ih =>
    simp only [takeReads] at h
    split at h
    · cases h
    · exact (ih h).trans (takeRead_holdParts ‹_›)

theorem dismissItem_keeps (s : State) (it : Item) : Keeps s (dismissItem s it) := by
  refine .trans ?_ (countOut_keeps it.program _)
  split
  · exact .of_holdParts rfl
  · exact (unissue_keeps ..).then_still (holdParts_answerDrop ..)
  all_goals exact .of_holdParts rfl

theorem fetchData_keeps (card : Nat) (corrected : Bool) (s : State) : Keeps s (fetchData card corrected s) := by
  refine .of_holdParts ?_
  simp only [fetchData]
  split
  · rfl
  · rename_i hr
    have taken := takeRead_holdParts hr
    cases corrected <;> split <;> exact taken

theorem quarantineRule_holdParts (card : Nat) (mayList : Bool) (s : State) :
    holdParts (quarantineRule card mayList s) = holdParts s := by
  simp [holdParts]

theorem fetchLost_keeps (card : Nat) (s : State) : Keeps s (fetchLost card s) := by
  simp only [fetchLost]
  split
  · exact .refl s
  · rename_i taken hr
    have ruled : Keeps s (quarantineRule card true taken) :=
      .of_holdParts ((quarantineRule_holdParts ..).trans (takeRead_holdParts hr))
    split
    · exact ruled
    · rename_i e _
      exact .then_still (ruled.trans (.foldl dismissItem_keeps e.waiting _)) (by simp [holdParts])

theorem cardWriteDone_keeps (card : Nat) (s : State) : Keeps s (cardWriteDone card s) := by
  unfold cardWriteDone
  split
  · exact .of_holdParts (by simp [completeCardWrite, holdParts])
  all_goals exact .of_holdParts rfl

theorem journalWriteDone_keeps (seq : Nat) (s : State) : Keeps s (journalWriteDone seq s) := by
  refine .of_holdParts ?_
  unfold journalWriteDone
  split
  · rfl
  · split <;> rfl

/-! ## Loads, clears and restores -/

theorem uninitialiseOthers_keeps (p card : Nat) (s : State) : Keeps s (uninitialiseOthers p card s) := by
  refine .of_alike id (fun w => Tab.wfWith_update _ w) (fun _ _ => ⟨rfl, rfl, rfl⟩) rfl rfl fun w n => ?_
  rw [program_uninitialiseOthers w]
  split <;> exact ⟨rfl, fun h => ⟨h, rfl⟩⟩

theorem queueLoadWrite_keeps (p card : Nat) (r : CardRecord) (who : CardWriter) (s : State) :
    Keeps s (queueLoadWrite p card r who s) :=
  .after_still (by simp [holdParts]) (uninitialiseOthers_keeps p card (invalidateCard card (queueWrite (.card card r who) s)))

theorem clearQueueNext_keeps (p : Nat) (s : State) : Keeps s (clearQueueNext p s) := by
  unfold clearQueueNext
  split
  · exact .refl s
  · split
    · exact (queueLoadWrite_keeps ..).then_still rfl
    · exact .refl s

theorem replyEnded_holdParts (code tag : Nat) (result : MgmtResult) (s : State) :
    holdParts (replyEnded code tag result s) = holdParts s := by
  simp [holdParts]

theorem endClear_keeps (c : ClearJob) (s : State) : Keeps s (endClear c s) := by
  refine .then_still ?_ (replyEnded_holdParts _ _ _ _)
  refine .after_still ?_ (.setProgram_alike _ _ rfl fun h => ⟨h, rfl⟩)
  rfl

theorem clearWriteComplete_keeps (card : Nat) (s : State) : Keeps s (clearWriteComplete card s) := by
  unfold clearWriteComplete
  split
  · simp only [clearWriteDone]
    split
    · exact .of_holdParts rfl
    · split
      · refine .after_still ?_ (endClear_keeps _ _)
        rfl
      · exact .of_holdParts rfl
  · exact .refl s

theorem scanEnd_keeps (s : State) : Keeps s (scanEnd s) := by
  refine .of_holdParts ?_
  unfold scanEnd
  split
  · rfl
  · split
    · simp only [completeScan]
      split
      · rfl
      · split
        · rfl
        · simp [holdParts]
    · rfl

theorem restoreWriteDone_keeps (s : State) : Keeps s (restoreWriteDone s) := by
  refine .of_holdParts ?_
  unfold restoreWriteDone
  split
  · rfl
  · split
    · simp [endRestore, holdParts]
    · rfl

/-! ## The Management Unit's reads -/

theorem endRead_holdParts (code tag : Nat) (result : MgmtResult) (s : State) : holdParts (endRead code tag result s) = holdParts s :=
  rfl

theorem directDone_keeps (outcome : ReadOutcome) (s : State) : Keeps s (directDone outcome s) := by
  refine .of_holdParts ?_
  simp only [directDone]
  split
  · split
    · rfl
    · rename_i hr
      have taken := takeRead_holdParts hr
      cases outcome with
      | data => exact taken
      | corrected => exact taken
      | uncorrectable => exact (quarantineRule_holdParts ..).trans taken
  · rfl

theorem journalReadDone_keeps (outcomes : List ReadOutcome) (s : State) : Keeps s (journalReadDone outcomes s) := by
  refine .of_holdParts ?_
  simp only [journalReadDone]
  split
  · split
    · split
      · rfl
      · rename_i hr
        have taken := takeReads_holdParts hr
        split
        · rw [endRead_holdParts, ← taken]; simp [holdParts]
        · exact taken
    · rfl
  · rfl

theorem loadFetchDone_keeps (outcomes : List ReadOutcome) (s : State) : Keeps s (loadFetchDone outcomes s) := by
  refine .of_holdParts ?_
  simp only [loadFetchDone]
  split
  · split
    · split
      · rfl
      · rename_i hr
        have taken := takeReads_holdParts hr
        split
        · rw [endRead_holdParts, quarantineDirect, quarantineRule_holdParts]
          exact taken
        · exact taken
    · rfl
  · rfl

/-! ## Management commands -/

theorem takeCommand_keeps {rule : MgmtCommand → State → State} (h : ∀ c s, Keeps s (rule c s)) (code : Nat) (s : State) :
    Keeps s (takeCommand code rule s) := by
  unfold takeCommand
  split
  · exact .refl s
  · split
    · split
      · exact .of_holdParts rfl
      · exact .after_still (t := popCommand s) rfl (h _ _)
    · exact .refl s

theorem atOnce_keeps {rule : List Byte → State → State × MgmtResult} (h : ∀ fields s, Keeps s (rule fields s).1)
    (c : MgmtCommand) (s : State) : Keeps s (atOnce rule c s) := (h c.fields s).then_still rfl

theorem takeAtOnce_keeps {rule : List Byte → State → State × MgmtResult} (h : ∀ fields s, Keeps s (rule fields s).1)
    (code : Nat) (s : State) : Keeps s (takeCommand code (atOnce rule) s) := takeCommand_keeps (atOnce_keeps h) code s

theorem startItem_keeps (code tag : Nat) (it : Item) (s : State) : Keeps s (startItem code tag it s) := by
  unfold startItem
  split
  · rename_i hv
    exact (handOver_eq_keeps hv).then_still rfl
  all_goals exact .of_holdParts rfl

theorem foldl_queueRead_holdParts (l : List ReadBody) (s : State) :
    holdParts (l.foldl (fun s b => queueRead b s) s) = holdParts s := 
  holdParts_foldl (f := fun s b => queueRead b s) (fun _ _ => rfl) l s

theorem cardRead_keeps (c : MgmtCommand) (s : State) : Keeps s (cardRead c s) := by
  unfold cardRead
  split
  · exact .of_holdParts rfl
  · split
    · exact startItem_keeps ..
    · exact .of_holdParts rfl

theorem cardCorrection_keeps (c : MgmtCommand) (name : Option CardName) (body : ItemBody) (s : State) :
    Keeps s (cardCorrection c name body s) := by
  unfold cardCorrection
  split
  · exact .of_holdParts rfl
  · split
    · exact .of_holdParts rfl
    · exact startItem_keeps ..

theorem cardWrite_keeps (c : MgmtCommand) (s : State) : Keeps s (cardWrite c s) := by
  unfold cardWrite
  split
  · exact .of_holdParts rfl
  · exact cardCorrection_keeps ..

theorem journalRead_keeps (c : MgmtCommand) (s : State) : Keeps s (journalRead c s) := by
  refine .of_holdParts ?_
  simp only [journalRead]
  split
  · rfl
  · split
    · rfl
    · split
      · rfl
      · exact foldl_queueRead_holdParts ..

theorem allowParked_keeps (id : Nat) (p : ParkEntry) (s : State) : Keeps s (allowParked id p s) := by
  refine .after_still ?_ (takeItem_keeps _ _)
  rfl

theorem watchRelease_keeps (c : MgmtCommand) (s : State) : Keeps s (watchRelease c s) := by
  simp only [watchRelease]
  split
  · exact .of_holdParts rfl
  · split
    · exact .of_holdParts rfl
    · split
      · exact .of_holdParts rfl
      · split
        · split
          · exact .after_still (t := reply _ _ _ s) rfl (allowParked_keeps ..)
          · exact .after_still (t := reply _ _ _ s) rfl (referParked_keeps ..)
        · exact .of_holdParts rfl

theorem noticeEnable_keeps (c : MgmtCommand) (s : State) : Keeps s (noticeEnable c s) := by
  refine .of_holdParts ?_
  simp only [noticeEnable]
  split
  · rfl
  · split <;> rfl

/-- A hold that HOLD DROP makes LAPSE_DUE leaves the expiry list (R80). -/
theorem dropDue_keeps (n : Nat) (s : State) : Keeps s (dropDue n s) := by
  unfold dropDue
  split
  · rename_i ho
    have due := foldl_makeDue_slots [n] s
    refine ⟨fun hl a => Keeps.invariants (.due (due := [n]) ?_ (fun w => (due.1 w).1) (fun w => (due.1 w).2) rfl rfl
      List.filter_sublist fun _ m => ?_) hl a⟩
    · simpa using (hl.expiry.2 n).2 ho
    · simp
  · exact .refl s

theorem issueDrop_keeps (c : MgmtCommand) (ref : HoldRef) (s : State) : Keeps s (issueDrop c ref s) := by
  simp only [issueDrop]
  split
  · rename_i hv
    refine .then_still (.trans (handOver_eq_keeps hv) (.setSlot_alike ref.slot { s.slot ref.slot with issued := true } ?_)) rfl
    rw [slot_congr (handOver_eq_slots hv)]
    exact ⟨rfl, rfl, rfl⟩
  all_goals exact .of_holdParts rfl

theorem holdDrop_keeps (c : MgmtCommand) (s : State) : Keeps s (holdDrop c s) := by
  simp only [holdDrop]
  split
  · exact .of_holdParts rfl
  · split
    · exact (dropDue_keeps ..).trans (issueDrop_keeps ..)
    · exact .of_holdParts rfl

theorem cardRestore_keeps (c : MgmtCommand) (s : State) : Keeps s (cardRestore c s) := by
  refine .of_holdParts ?_
  unfold cardRestore
  split
  · rfl
  · split <;> rfl

theorem loadFetch_keeps (c : MgmtCommand) (s : State) : Keeps s (loadFetch c s) := by
  refine .of_holdParts ?_
  simp only [loadFetch]
  split
  · split
    · rfl
    · exact foldl_queueRead_holdParts ..
  · rfl

theorem startClear_keeps (c : MgmtCommand) (p : Nat) (s : State) : Keeps s (startClear c p s) :=
  (Keeps.setProgram_alike p { s.program p with initialised := false } rfl fun h => ⟨h, rfl⟩).then_still rfl

theorem loadClear_keeps (c : MgmtCommand) (s : State) : Keeps s (loadClear c s) := by
  unfold loadClear
  split
  · exact .of_holdParts rfl
  · split
    · exact .of_holdParts rfl
    · split
      · exact .of_holdParts rfl
      · exact startClear_keeps ..

/-! ## The commands answered at once -/

theorem foldl_loadOne_keeps (p last : Nat) (c : Settings) (l : List LoadRecord) (g : LoadProgress) :
    Keeps g.st (l.foldl (loadOne p last c) g).st := by
  induction l generalizing g with
  | nil => exact .refl g.st
  | cons r l ih =>
    refine .trans ?_ (ih (loadOne p last c g r))
    unfold loadOne
    split
    · exact .refl g.st
    · split
      · exact queueLoadWrite_keeps ..
      · exact .refl g.st

theorem loadData_keeps (fields : List Byte) (s : State) : Keeps s (loadData fields s).1 := by
  simp only [loadData]
  split
  · exact .then_still (foldl_loadOne_keeps _ _ _ _ { st := s, pointer := _, written := 0, skipped := 0, beyond := 0 }) rfl
  · exact .refl s

theorem programWrite_keeps (fields : List Byte) (s : State) : Keeps s (programWrite fields s).1 := by
  unfold programWrite
  split
  · exact .refl s
  · split
    · exact .refl s
    · rename_i p k choicesOk _ _
      split
      · exact .refl s
      · rename_i hr
        refine .setProgram p _ rfl fun a _ => ?_
        simp only [programWriteRefusal] at hr
        split_ifs at hr with _ _ range _ overlap
        rw [Bool.or_eq_true, not_or] at range
        exact ⟨settingsInRange_iff.1 (by simpa using range.2), fun h => overlap ((overlapsOther_iff a.form).2 h)⟩

/-- A move of the table of R7 opens a program only with settings that are allowed and overlap no other open program. -/
theorem programMove_moveTo {s : State} {p : Nat} {target status : ProgramStatus}
    (h : programMove s p target = .moveTo status) (hs : status ≠ .off) :
    (s.program p).status ≠ .off ∨
      settingsInRange (s.program p).settings = true ∧ overlapsOther s p (s.program p).settings = false := by
  unfold programMove at h
  generalize s.program p = e at h ⊢
  obtain ⟨current, _, k, _, _, _⟩ := e
  cases current with
  | off =>
    right
    cases target with
    | off => cases h; exact absurd rfl hs
    | pass | loading => dsimp only at h; split_ifs at h with range overlap; simp_all
    | live | draining => cases h
  | pass | draining | loading | live => exact .inl nofun

theorem programMove_drain {s : State} {p : Nat} {target t : ProgramStatus} (h : programMove s p target = .drain t) :
    (s.program p).status = .live := by
  unfold programMove at h
  generalize s.program p = e at h ⊢
  obtain ⟨current, _, k, _, _, _⟩ := e
  cases current with
  | live => rfl
  | off | pass | draining | loading => cases target <;> grind

theorem programState_keeps (fields : List Byte) (s : State) : Keeps s (programState fields s).1 := by
  unfold programState
  split
  · exact .refl s
  · split
    · exact .refl s
    · split
      · exact .refl s
      · split
        · exact .refl s
        · split
          · exact .refl s
          · rename_i hm
            refine .setProgram _ _ rfl fun a ho => ?_
            rcases programMove_moveTo hm ho with hs | ⟨range, overlap⟩
            · exact ⟨a.allowed _ hs, a.apart _ hs⟩
            · exact ⟨settingsInRange_iff.1 range, fun h => by simp [(overlapsOther_iff a.form).2 h] at overlap⟩
          · rename_i hm
            have live := programMove_drain hm
            refine .setProgram_alike _ _ ?_ fun _ => ⟨by simp [live], ?_⟩ <;> (unfold drained; split <;> rfl)

end Sys2Proof.Machine

/-! ## Reset and power-on -/

namespace Sys2Proof.Machine

theorem completeWrite_keeps (s : State) (w : QueuedWrite) : Keeps s (completeWrite s w) := by
  unfold completeWrite
  split
  · exact cardWriteDone_keeps ..
  · exact cardWriteDone_keeps ..
  · exact clearWriteComplete_keeps ..
  · exact restoreWriteDone_keeps ..
  · exact journalWriteDone_keeps ..

theorem drainWrites_keeps (s : State) : Keeps s (drainWrites s) := .foldl completeWrite_keeps _ s

theorem program_engineValues {s : State} (w : Tab.wfWith .initial s.programs = true) (p : Nat) :
    (engineValues s).program p = resetEntry s.tmc.clears p (s.program p) := Tab.get_update p (fun _ => rfl) w

theorem slot_engineValues {s : State} (w : Tab.wfWith .initial s.slots = true) (n : Nat) :
    (engineValues s).slot n = resetSlot n (s.slot n) := Tab.get_update n (fun _ => rfl) w

theorem engineValues_keeps (s : State) : Keeps s (engineValues s) := by
  refine .of_alike (fun w => Tab.wfWith_update _ w) (fun w => Tab.wfWith_update _ w) (fun w n => ?_) rfl rfl fun w p => ?_
  · rw [slot_engineValues w]; exact ⟨rfl, rfl, rfl⟩
  · rw [program_engineValues w]
    refine ⟨rfl, fun h => ⟨fun ho => h ?_, rfl⟩⟩
    simp [resetEntry, ho]

theorem resetEffect_keeps (s : State) : Keeps s (resetEffect s) := by
  unfold resetEffect
  split
  · exact (drainWrites_keeps s).trans (engineValues_keeps _)
  · exact .refl s

theorem countUp_eq_range' (count start : Nat) : countUp count start = List.range' start count := by
  induction count generalizing start with
  | zero => rfl
  | succ count ih => rw [countUp, ih, List.range'_succ]

/-- At power-on the free list holds every slot number, in rising order (R84). -/
theorem countUp_slots : countUp 16384 0 = List.range 16384 := by
  rw [countUp_eq_range', List.range_eq_range']

/-- A state whose three tables and lists stand at their power-on values meets the three invariants (R12, R84). -/
theorem invariants_of_initial {t : State} (slots : t.slots = []) (free : t.freeList = countUp 16384 0)
    (expiry : t.expiryList = []) (programs : t.programs = []) : HoldLists t ∧ ProgramsApart t ∧ HoldsCounted t := by
  have slot (n : Nat) : t.slot n = .initial := by rw [State.slot, slots]; rfl
  have program (p : Nat) : t.program p = .initial := by rw [State.program, programs]; rfl
  rw [countUp_slots] at free
  refine ⟨⟨by rw [slots]; rfl, fun n h => absurd (by rw [slot]; rfl) h, ⟨by rw [free]; exact List.nodup_range, fun n => ?_⟩,
    ⟨by simp [expiry], fun n => ?_⟩, by simp [expiry]⟩,
    ⟨by rw [programs]; rfl, fun p h => absurd (by rw [program]; rfl) h, fun p h => absurd (by rw [program]; rfl) h⟩,
    fun p => ?_⟩
  · simp [free, slot, HoldSlot.initial]
  · simp [expiry, slot, HoldSlot.initial]
  · simp [slot, program, HoldSlot.initial, ProgramEntry.initial]

theorem powered_keeps (s : State) : Keeps s (powered s) := by
  obtain ⟨hl, ha, hc⟩ := invariants_of_initial (t := powered s) rfl rfl rfl rfl
  exact ⟨fun _ _ => ⟨hl, ha, fun _ => hc⟩⟩

/-! ## Every command -/

theorem Keeps.of_next {s u t : State} (h : Keeps s u) (e : (.next u : Host.Outcome State Fault Refusal) = .next t) :
    Keeps s t := by
  cases e; exact h

theorem onCard_keeps {card : Nat} {f : State → State} {s t : State} (h : Keeps s (f s)) (e : onCard card f s = .next t) :
    Keeps s t := by
  unfold onCard at e
  split at e
  · exact h.of_next e
  · cases e

theorem execLoadClearWriteQueue_keeps {p : Nat} {s t : State} (e : execLoadClearWriteQueue p s = .next t) : Keeps s t := by
  unfold execLoadClearWriteQueue at e
  split at e
  · exact (clearQueueNext_keeps p s).of_next e
  · cases e

theorem execJournalWriteComplete_keeps {n : Nat} {s t : State} (e : execJournalWriteComplete n s = .next t) : Keeps s t := by
  unfold execJournalWriteComplete at e
  split at e
  · exact (journalWriteDone_keeps n s).of_next e
  · cases e

theorem resetNLow_keeps (s : State) :
    Keeps s (if s.resetN then (s.withResetN false).withResetPending true else s) := by
  split
  · exact .of_holdParts rfl
  · exact .refl s

theorem unknownCommand_keeps {s t : State} (e : execUnknownCommand s = .next t) : Keeps s t := by
  refine Keeps.of_next (.of_holdParts ?_) e
  split
  · rfl
  · split <;> rfl

/-- A command answered at once that leaves the slots, the lists and the programs alone. -/
theorem takeAtOnce_still {rule : List Byte → State → State × MgmtResult}
    (h : ∀ fields s, holdParts (rule fields s).1 = holdParts s) (code : Nat) (s : State) :
    Keeps s (takeCommand code (atOnce rule) s) := takeAtOnce_keeps (fun fields s => .of_holdParts (h fields s)) code s

theorem holdRead_still (fields : List Byte) (s : State) : holdParts (holdRead fields s).1 = holdParts s := by
  unfold holdRead
  split
  · rfl
  · split <;> rfl

theorem programRead_still (fields : List Byte) (s : State) : holdParts (programRead fields s).1 = holdParts s := by
  unfold programRead
  split
  · rfl
  · split <;> rfl

theorem promotionRead_still (fields : List Byte) (s : State) : holdParts (promotionRead fields s).1 = holdParts s := by
  unfold promotionRead
  split
  · rfl
  · split <;> rfl

theorem cacheProbe_still (fields : List Byte) (s : State) : holdParts (cacheProbe fields s).1 = holdParts s := by
  unfold cacheProbe
  split
  · rfl
  · split <;> rfl

theorem dayAdvance_still (fields : List Byte) (s : State) : holdParts (dayAdvance fields s).1 = holdParts s := by
  unfold dayAdvance
  split
  · rfl
  · split <;> rfl

theorem watchSet_still (fields : List Byte) (s : State) : holdParts (watchSet fields s).1 = holdParts s := by
  unfold watchSet
  split
  · rfl
  · split <;> rfl

theorem watchClear_still (fields : List Byte) (s : State) : holdParts (watchClear fields s).1 = holdParts s := by
  unfold watchClear
  split
  · rfl
  · split <;> rfl

theorem promotionDisable_still (fields : List Byte) (s : State) : holdParts (promotionDisable fields s).1 = holdParts s := by
  unfold promotionDisable
  split
  · rfl
  · split <;> rfl

theorem returnSizeSet_still (fields : List Byte) (s : State) : holdParts (returnSizeSet fields s).1 = holdParts s := by
  unfold returnSizeSet
  split <;> rfl

theorem noticeClear_still (fields : List Byte) (s : State) : holdParts (noticeClear fields s).1 = holdParts s := by
  unfold noticeClear
  split <;> rfl

theorem accessSet_still (fields : List Byte) (s : State) : holdParts (accessSet fields s).1 = holdParts s := by
  unfold accessSet
  split
  · rfl
  · split
    · rfl
    · split <;> rfl

theorem promotionEnable_still (fields : List Byte) (s : State) : holdParts (promotionEnable fields s).1 = holdParts s := by
  unfold promotionEnable
  split
  · rfl
  · split
    · rfl
    · split <;> rfl

theorem journalRelease_still (fields : List Byte) (s : State) : holdParts (journalRelease fields s).1 = holdParts s := by
  unfold journalRelease
  split
  · rfl
  · split
    · rfl
    · split
      · rfl
      · split <;> rfl

theorem promotionWrite_still (fields : List Byte) (s : State) : holdParts (promotionWrite fields s).1 = holdParts s := by
  unfold promotionWrite
  split
  · rfl
  · split
    · rfl
    · split
      · rfl
      · split <;> rfl

theorem loadOpen_still (fields : List Byte) (s : State) : holdParts (loadOpen fields s).1 = holdParts s := by
  unfold loadOpen
  split
  · rfl
  · split <;> rfl

theorem paceSet_still (fields : List Byte) (s : State) : holdParts (paceSet fields s).1 = holdParts s := by
  unfold paceSet
  split
  · rfl
  · split
    · rfl
    · exact holdParts_foldl (f := fun s l => stagePace _ l s) (fun _ _ => rfl) _ s

/-- Every command keeps the three invariants. -/
theorem exec_keeps {s t : State} : ∀ {i : Instr}, exec i s = .next t → Keeps s t
  | .powerOn, e => (powered_keeps s).of_next e
  | .resetNLow, e => (resetNLow_keeps s).of_next e
  | .resetNHigh, e => .of_next (.of_holdParts (t := s.withResetN true) rfl) e
  | .engineResetEffect, e => (resetEffect_keeps s).of_next e
  | .tblenFall, e =>
    .of_next (.of_holdParts (t := (s.withTblen false).withMgmt { s.mgmt with level := min s.mgmt.level 1 }) rfl) e
  | .tblenRise, e => .of_next (.of_holdParts (t := s.withTblen true) rfl) e
  | .carrierPresent l, e => (carrierOn_keeps l s).of_next e
  | .carrierLost l, e => (carrierOff_keeps l s).of_next e
  | .request l bytes, e => (receive_keeps (.store l) bytes s).of_next e
  | .answer bytes, e => (receive_keeps .central bytes s).of_next e
  | .mgmt bytes, e => (receive_keeps .central bytes s).of_next e
  | .idle l bytes, e => (receive_keeps l bytes s).of_next e
  | .unexpectedKind l bytes, e => (receive_keeps l bytes s).of_next e
  | .parcelSend l, e => (sendParcel_keeps l s).of_next e
  | .millisecondTick, e => (millisecondTick_keeps s).of_next e
  | .pacerExpiry l, e => (Keeps.of_holdParts (t := pacerExpire l s) (by simp [holdParts])).of_next e
  | .secondTick, e => (secondTick_keeps s).of_next e
  | .watchTimeout, e => (watchTimeouts_keeps s).of_next e
  | .minuteTick, e => (minuteTick_keeps s).of_next e
  | .holdDue, e => (dueHolds_keeps s).of_next e
  | .dispatch, e => (dispatchNext_keeps s).of_next ((execDispatch_eq s).symm.trans e)
  | .inquire _, e | .activate _, e | .load _, e | .redeem _, e | .hold _, e | .complete _, e | .release _, e
  | .reverse _, e | .withdraw _, e | .lapse _, e | .dropItem _, e | .cardReadAtCard _, e | .cardFreezeAtCard _, e
  | .cardThawAtCard _, e | .cardWriteAtCard _, e => onCard_keeps (takeHead_keeps ..) e
  | .fetchComplete .., e => onCard_keeps (fetchData_keeps ..) e
  | .fetchUncorrectable _, e => onCard_keeps (fetchLost_keeps ..) e
  | .cardRecordWriteComplete _, e => onCard_keeps (cardWriteDone_keeps ..) e
  | .journalWriteComplete _, e => execJournalWriteComplete_keeps e
  | .loadClearWriteQueue _, e => execLoadClearWriteQueue_keeps e
  | .loadClearWriteComplete _, e => onCard_keeps (clearWriteComplete_keeps ..) e
  | .restoreScanEnd, e => (scanEnd_keeps s).of_next e
  | .restoreWriteComplete, e => (restoreWriteDone_keeps s).of_next e
  | .cardReadDirectComplete o, e => (directDone_keeps o s).of_next e
  | .journalReadComplete o, e => (journalReadDone_keeps o s).of_next e
  | .loadFetchComplete o, e => (loadFetchDone_keeps o s).of_next e
  | .unknownCommand, e => unknownCommand_keeps e
  | .statusRead, e => (takeAtOnce_still (rule := statusRead) (fun _ _ => rfl) 0x01 s).of_next e
  | .cardRead, e => (takeCommand_keeps cardRead_keeps codeCardRead s).of_next e
  | .holdRead, e => (takeAtOnce_still holdRead_still 0x03 s).of_next e
  | .journalRead, e => (takeCommand_keeps journalRead_keeps codeJournalRead s).of_next e
  | .programRead, e => (takeAtOnce_still programRead_still 0x05 s).of_next e
  | .promotionRead, e => (takeAtOnce_still promotionRead_still 0x06 s).of_next e
  | .watchRead, e => (takeAtOnce_still (rule := watchRead) (fun _ _ => rfl) 0x07 s).of_next e
  | .cacheProbe, e => (takeAtOnce_still cacheProbe_still 0x08 s).of_next e
  | .returnSizeSet, e => (takeAtOnce_still returnSizeSet_still 0x09 s).of_next e
  | .accessSet, e => (takeAtOnce_still accessSet_still 0x0A s).of_next e
  | .dayAdvance, e => (takeAtOnce_still dayAdvance_still 0x10 s).of_next e
  | .journalRelease, e => (takeAtOnce_still journalRelease_still 0x11 s).of_next e
  | .cardFreeze, e => (takeCommand_keeps (fun c s => cardCorrection_keeps c _ _ s) codeCardFreeze s).of_next e
  | .cardThaw, e => (takeCommand_keeps (fun c s => cardCorrection_keeps c _ _ s) codeCardThaw s).of_next e
  | .watchSet, e => (takeAtOnce_still watchSet_still 0x14 s).of_next e
  | .watchClear, e => (takeAtOnce_still watchClear_still 0x15 s).of_next e
  | .watchClearStatus, e => (takeAtOnce_still (rule := watchClearStatus) (fun _ _ => rfl) 0x16 s).of_next e
  | .watchRelease, e => (takeCommand_keeps watchRelease_keeps 0x17 s).of_next e
  | .noticeEnable, e => (takeCommand_keeps noticeEnable_keeps 0x18 s).of_next e
  | .noticeClear, e => (takeAtOnce_still noticeClear_still 0x19 s).of_next e
  | .intakeStop, e => (takeAtOnce_still (rule := fun _ => setIntakeStop true) (fun _ _ => rfl) 0x1A s).of_next e
  | .intakeStart, e => (takeAtOnce_still (rule := fun _ => setIntakeStop false) (fun _ _ => rfl) 0x1B s).of_next e
  | .holdDrop, e => (takeCommand_keeps holdDrop_keeps codeHoldDrop s).of_next e
  | .programWrite, e => (takeAtOnce_keeps programWrite_keeps 0x20 s).of_next e
  | .programState, e => (takeAtOnce_keeps programState_keeps 0x21 s).of_next e
  | .promotionWrite, e => (takeAtOnce_still promotionWrite_still 0x22 s).of_next e
  | .promotionEnable, e => (takeAtOnce_still promotionEnable_still 0x23 s).of_next e
  | .promotionDisable, e => (takeAtOnce_still promotionDisable_still 0x24 s).of_next e
  | .cardWrite, e => (takeCommand_keeps cardWrite_keeps codeCardWrite s).of_next e
  | .cardRestore, e => (takeCommand_keeps cardRestore_keeps codeCardRestore s).of_next e
  | .loadOpen, e => (takeAtOnce_still loadOpen_still 0x27 s).of_next e
  | .loadData, e => (takeAtOnce_keeps loadData_keeps 0x28 s).of_next e
  | .loadFetch, e => (takeCommand_keeps loadFetch_keeps codeLoadFetch s).of_next e
  | .loadClose, e => (takeAtOnce_still (rule := loadClose) (fun _ _ => rfl) 0x2A s).of_next e
  | .loadClear, e => (takeCommand_keeps loadClear_keeps codeLoadClear s).of_next e
  | .cacheFlush, e => (takeAtOnce_still (rule := cacheFlush) (fun _ _ => rfl) 0x2C s).of_next e
  | .paceSet, e => (takeAtOnce_still paceSet_still 0x2D s).of_next e
  | .engineReset, e => (takeCommand_keeps (rule := engineReset) (fun _ _ => .of_holdParts rfl) codeEngineReset s).of_next e

theorem step_keeps {s t : State} (e : step s = .next t) : Keeps s t := by
  unfold step at e
  split at e
  · exact (clockCycle_keeps s).of_next e
  · rename_i i rest _
    exact .after_still (t := s.withPending rest) rfl (exec_keeps e)

/-- Settles O59: the three invariants are kept by every command, and by a cycle of the reference clock. -/
theorem everyStepKeepsHoldListsAndProgramsApart : Obligations.EveryStepKeepsHoldListsAndProgramsApart :=
  fun _ _ holds apart e => (step_keeps e).invariants holds apart

/-- Settles O60. -/
theorem theInvariantsHoldAtReset : Obligations.TheInvariantsHoldAtReset := by
  obtain ⟨holds, apart, counted⟩ := invariants_of_initial (t := .reset) rfl rfl rfl rfl
  refine ⟨?_, holds, apart, counted⟩
  constructor
  case queues => exact ⟨fun l => by cases l <;> exact Nat.zero_le _, Nat.zero_le _⟩
  case counts => exact ⟨Nat.zero_le _, fun l => by rcases l with (_ | _ | _ | _) | _ <;> exact Nat.zero_le _⟩
  case pacers => exact fun l => by cases l <;> decide
  all_goals decide

end Sys2Proof.Machine

/-! ## The values at power-on -/

namespace Sys2Proof.Machine

theorem atPowerOn_powered (s : State) : atPowerOn (powered s) := by
  refine ⟨fun l => ?_, fun l => ?_, rfl, rfl, rfl, fun _ => rfl, fun _ => rfl, fun _ => rfl, countUp_slots, rfl, rfl,
    fun card w => ?_, fun _ => rfl, rfl, rfl, rfl, rfl, rfl, rfl, rfl, rfl, rfl, rfl⟩
  · cases l with
    | store k => cases k <;> exact ⟨rfl, rfl, rfl, rfl⟩
    | central => exact ⟨rfl, rfl, rfl, rfl⟩
  · cases l <;> exact ⟨rfl, rfl⟩
  · have empty : (powered s).wayAt card w = .empty := by
      show wayOf CacheSet.empty w = .empty
      unfold wayOf
      split <;> rfl
    rw [empty]; exact ⟨rfl, rfl⟩

/-- Settles O3. -/
theorem resetAndPowerOnStand : Obligations.ResetAndPowerOnStand := by
  refine ⟨⟨atPowerOn_powered .reset, rfl⟩, fun s => ⟨powered s, rfl, atPowerOn_powered s, fun l => ?_, rfl, rfl, rfl, rfl⟩⟩
  cases l with
  | store k => cases k <;> rfl
  | central => rfl

/-! ## Hold slots -/

/-- A card holds bonus exactly where a hold slot of it that is not FREE has HB above 0 (R14). -/
theorem holdsBonus_iff {s : State} (w : Tab.wfWith .initial s.slots = true) {card : Nat} :
    holdsBonus s card = true ↔ ∃ n, (s.slot n).card = card ∧ (s.slot n).state ≠ .free ∧ 0 < (s.slot n).bonusPart := by
  simp only [holdsBonus, List.any_eq_true, Bool.and_eq_true, beq_iff_eq, decide_eq_true_eq, and_assoc]
  exact exists_mem_iff_exists_get w (P := fun _ h => h.card = card ∧ h.state ≠ .free ∧ 0 < h.bonusPart)
    fun _ h => h.2.1 rfl

/-- A bonus return while the bonus expiry is absent or not passed is kept up to the room below the ceiling (R61). -/
theorem settleReturn_live {ret ceiling day : Nat} {r : CardRecord} (h : ∀ d, r.bonusExpiry = some d → day ≤ d) :
    settleReturn ret ceiling day r =
      (if ret = 0 then 0 else min ret (ceiling - r.bonus), if ret = 0 then r.bonusExpiry else r.bonusExpiry.or (some day)) := by
  unfold settleReturn bonusRoom
  split
  · rfl
  · cases hx : r.bonusExpiry with
    | none => rfl
    | some d => simp [h d hx]

/-- A bonus return after the bonus expiry has passed is forfeited whole (R61). -/
theorem settleReturn_expired {ret ceiling day d : Nat} {r : CardRecord} (hx : r.bonusExpiry = some d) (h : d < day) :
    settleReturn ret ceiling day r = (0, some d) := by
  unfold settleReturn
  split
  · rw [hx]
  · simp [hx, Nat.not_le.2 h]

/-- In every case the bonus expiry that was present stays, and an absent one becomes the day where bonus returns (R61). -/
theorem settleReturn_expiry (ret ceiling day : Nat) (r : CardRecord) :
    (settleReturn ret ceiling day r).2 = if ret = 0 then r.bonusExpiry else r.bonusExpiry.or (some day) := by
  unfold settleReturn
  split
  · rfl
  · cases r.bonusExpiry with
    | none => rfl
    | some d => by_cases h : day ≤ d <;> simp [h]

/-- The first part of O30: the slot an approved hold takes. -/
theorem allocateHold_spec {p m : Nat} {slot : HoldSlot} {free : List Nat} {t : State} (hf : t.freeList = m :: free)
    (hm : m ∉ t.expiryList) (slots : Tab.wfWith .initial t.slots = true) (programs : Tab.wfWith .initial t.programs = true)
    (order : t.expiryList.Pairwise fun a b => (t.slot a).expiryMinute ≤ (t.slot b).expiryMinute) :
    let u := allocateHold p m slot t
    u = { t with slots := u.slots, freeList := free, expiryList := u.expiryList, programs := u.programs } ∧
    u.slot m = slot ∧ (∀ n, n ≠ m → u.slot n = t.slot n) ∧
    u.program p = { t.program p with openHolds := (t.program p).openHolds + 1 } ∧
    (∀ n, n ≠ p → u.program n = t.program n) ∧
    ∃ before later, t.expiryList = before ++ later ∧ u.expiryList = before ++ m :: later ∧
      (∀ n ∈ before, (t.slot n).expiryMinute ≤ slot.expiryMinute) ∧
      (∀ n ∈ later, slot.expiryMinute < (t.slot n).expiryMinute) := by
  have hslot := slot_allocateHold slots p m slot
  have hprogram := program_allocateHold programs p m slot
  refine ⟨?_, by rw [hslot, if_pos rfl], fun n hn => by rw [hslot, if_neg hn], by rw [hprogram, if_pos rfl],
    fun n hn => by rw [hprogram, if_neg hn], expiryList_allocateHold slots p slot hm order⟩
  have tail : (allocateHold p m slot t).freeList = free := (congrArg List.tail hf : _)
  rw [← tail]
  rfl

/-- Settles O30, from what a slot's taking and its closing do to each table and list. -/
theorem holdSlotsAreTakenAndClosed : Obligations.HoldSlotsAreTakenAndClosed := by
  refine ⟨fun s card w => holdsBonus_iff w, fun p m slot free t hf hm ws wp order => allocateHold_spec hf hm ws wp order, ?_⟩
  intro card n reason paidReturn bonusReturn ceiling t x ws wp h v live kept
  have hslot := slot_closeHold card n reason paidReturn bonusReturn ceiling t x ws
  have hprogram := program_closeHold card n reason paidReturn bonusReturn ceiling t x wp
  have back : (v.kept, v.forfeited) = ((settleReturn bonusReturn ceiling t.mgmt.day x).1,
      bonusReturn - (settleReturn bonusReturn ceiling t.mgmt.day x).1) := rfl
  simp only [Prod.mk.injEq] at back
  obtain ⟨hk, hforf⟩ := back
  refine ⟨?_, fun hx => ?_, ?_, rfl, by rw [hslot, if_pos rfl], fun m hm => by rw [hslot, if_neg hm],
    by rw [hprogram, if_pos rfl], fun m hm => by rw [hprogram, if_neg hm]⟩
  · rintro (hl | h0)
    · rw [hforf, hk, settleReturn_live hl]; exact ⟨rfl, rfl⟩
    · rw [hforf, hk]; simp [settleReturn, h0, kept]
  · obtain ⟨d, hd, hlt⟩ : ∃ d, x.bonusExpiry = some d ∧ d < t.mgmt.day := by simpa [live] using hx
    rw [hforf, hk, settleReturn_expired hd hlt]; exact ⟨rfl, rfl⟩
  · rw [← settleReturn_expiry bonusReturn ceiling t.mgmt.day x]; rfl

end Sys2Proof.Machine

/-! # The check digit (R1) -/

namespace Sys2Proof.Machine

/-- What the digit at a place adds to the sum of R1: doubled at places 0, 2, …, 14, the digit itself at the others. -/
def digitWeight (i d : Nat) : Nat := if i % 2 = 0 then doubledDigit d else d

theorem digitWeight_add_two (i d : Nat) : digitWeight (i + 2) d = digitWeight i d := by
  simp [digitWeight]

theorem digitWeight_lt {i d : Nat} (h : d < 10) : digitWeight i d < 10 := by
  unfold digitWeight doubledDigit
  split_ifs <;> omega

/-- Doubling and casting out nines keeps digits apart. -/
theorem digitWeight_injective {i d e : Nat} (hd : d < 10) (he : e < 10) (h : digitWeight i d = digitWeight i e) : d = e := by
  unfold digitWeight doubledDigit at h
  split_ifs at h <;> omega

theorem checkSum_eq_sum (l : List Nat) :
    checkSum l = ((List.range l.length).map fun i => digitWeight i (l.getD i 0)).sum := by
  induction l using checkSum.induct with
  | case1 => rfl
  | case2 d => simp [checkSum, digitWeight]
  | case3 d e ds ih =>
    simp only [checkSum, ih, List.length_cons, List.range_succ_eq_map, List.map_cons, List.map_map, List.sum_cons]
    simp [digitWeight, Function.comp_def, Nat.add_assoc]

/-- A changed digit changes the sum of R1 by its weight. -/
theorem checkSum_set {l : List Nat} {i : Nat} (h : i < l.length) (d : Nat) :
    checkSum (l.set i d) + digitWeight i (l.getD i 0) = checkSum l + digitWeight i d := by
  induction l using checkSum.induct generalizing i with
  | case1 => simp at h
  | case2 e =>
    obtain rfl : i = 0 := by simpa using h
    simp [checkSum, digitWeight, Nat.add_comm]
  | case3 e f ds ih =>
    match i, h with
    | 0, _ => simp [checkSum, digitWeight]; omega
    | 1, _ => simp [checkSum, digitWeight]; omega
    | i + 2, h =>
      have := ih (i := i) (by simpa using h)
      simp only [List.set_cons_succ, checkSum, List.getD_cons_succ, digitWeight_add_two]
      omega

theorem checkDigitValid_append {digits : List Nat} (h : digits.length = 15) (c : Nat) :
    checkDigitValid (digits ++ [c]) = true ↔ c = checkDigit digits := by
  simp [checkDigitValid, h]

/-- Settles O19: the weights of the fifteen places are read off the sum, and no change of one digit keeps them. -/
theorem checkDigitIsValidAlone : Obligations.CheckDigitIsValidAlone := by
  intro digits len small
  refine ⟨fun c _ => ?_, fun i d hi hd hne c hv => ?_⟩
  · rw [checkDigitValid_append len, checkDigit, checkSum_eq_sum, len]
    rfl
  · rw [checkDigitValid_append len] at hv
    rw [Bool.eq_false_iff, ne_eq, checkDigitValid_append (by simpa using len)]
    intro hv'
    have old : digits.getD i 0 < 10 := by
      rw [List.getD_eq_getElem _ _ (by omega)]
      exact small _ (List.getElem_mem _)
    have sum := checkSum_set (by omega : i < digits.length) d
    have hw := digitWeight_lt (i := i) hd
    have hw' := digitWeight_lt (i := i) old
    refine hne (digitWeight_injective hd old (i := i) ?_)
    simp only [checkDigit] at hv hv'
    omega

end Sys2Proof.Machine

/-! # The dispatch of a request and the hand-over of an item -/

namespace Sys2Proof.Machine

/-! ## The answers given without the card (R22, R23) -/

/-- The only entry of a list with a property is the one found. -/
theorem find?_eq_some_of_unique {α : Type} {l : List α} {P : α → Bool} {e : α} (he : e ∈ l) (hp : P e = true)
    (unique : ∀ f ∈ l, P f = true → f = e) : l.find? P = some e := by
  obtain ⟨f, hf⟩ := Option.isSome_iff_exists.1 (List.find?_isSome.2 ⟨e, he, hp⟩)
  rw [hf, unique f (List.mem_of_find?_eq_some hf) (List.find?_some hf)]

theorem tillKindCode_of_tillKindOf {n : Nat} {k : TillKind} (h : tillKindOf n = some k) : tillKindCode k = n := by
  unfold tillKindOf at h
  split at h <;> cases h <;> rfl

/-- A request that passes the field check is answered as the request it was received as (R22, R41). -/
theorem answerBare_of_fieldCheck {q : Request} {t : TillRequest} {digits : List Nat} (h : fieldCheck q = some (t, digits))
    (o : TillOutcome) (s : State) :
    answerBare t o s = handStore q.origin (.answer (bareAnswer q.kindCode q.till q.seq o)) s := by
  unfold fieldCheck at h
  split at h
  · rename_i hk _ _
    split at h
    · cases h
    · cases h
      simp only [answerBare, tillKindCode_of_tillKindOf hk]
  · cases h

theorem programOfPrefix_eq_none {s : State} {issuer : Nat}
    (h : ∀ e ∈ s.programs, e.2.settings.issuer = issuer → e.2.status = .off) : programOfPrefix s issuer = none := by
  simp only [programOfPrefix, List.find?_eq_none, Bool.and_eq_true, decide_eq_true_eq, beq_iff_eq]
  exact fun e he hp => hp.1 (h e he hp.2)

theorem programOfPrefix_eq_some {s : State} {issuer : Nat} {e : Nat × ProgramEntry} (he : e ∈ s.programs)
    (hi : e.2.settings.issuer = issuer) (ho : e.2.status ≠ .off)
    (unique : ∀ f ∈ s.programs, f.2.settings.issuer = issuer → f.2.status ≠ .off → f = e) :
    programOfPrefix s issuer = some e :=
  find?_eq_some_of_unique he (by simp [ho, hi]) fun f hf hp => by
    simp only [Bool.and_eq_true, decide_eq_true_eq, beq_iff_eq] at hp
    exact unique f hf hp.2 hp.1

/-- Pass traffic (R23, R164). -/
theorem forward_eq (q : Request) (t : TillRequest) (s : State) :
    forward q t s =
      if s.central.link.up then
        { s with
          central :=
            { s.central with
              link := { s.central.link with out := s.central.link.out ++ [.forwardedRequest q.origin q.payload] } } }
      else answerBare t .unavailable s := by
  unfold forward
  split
  · rename_i up
    simp [handCentral, State.setLinkUnit, State.linkUnit, handTo, up, State.withCentral]
  · rfl

theorem cardCheck_eq_none {c : Settings} {digits : List Nat}
    (h : checkDigitValid digits = false ∨ serialOf digits < c.firstSerial ∨ c.firstSerial + c.serialCount ≤ serialOf digits) :
    cardCheck c digits = none := by
  unfold cardCheck cardIndexOf
  split
  · rename_i hv
    rw [if_neg]
    simp only [hv, Bool.true_eq_false, false_or] at h
    omega
  · rfl

theorem cardCheck_eq_some {c : Settings} {digits : List Nat} (hv : checkDigitValid digits = true)
    (hl : c.firstSerial ≤ serialOf digits) (hu : serialOf digits < c.firstSerial + c.serialCount) :
    cardCheck c digits = some (c.tableBase + (serialOf digits - c.firstSerial)) := by
  simp [cardCheck, cardIndexOf, hv, hl, hu]

theorem quarantined_iff {s : State} {card : Nat} : s.quarantined card = true ↔ card ∈ s.tmc.quarantine := by
  simp [State.quarantined]

/-- Settles O22: the checks of the dispatch in their order, each with its answer. -/
theorem dispatchAnswersWithoutTheCard : Obligations.DispatchAnswersWithoutTheCard := by
  intro q s answered
  refine ⟨fun hf => by simp only [dispatchRequest, hf]; rfl, ?_⟩
  intro t digits hf issuer serial
  refine ⟨fun pass => ?_, ?_⟩
  · have forwarded : dispatchRequest q s = .consumed (forward q t s) := by
      rcases pass with off | ⟨e, he, hi, hs, unique⟩
      · simp only [dispatchRequest, hf, programOfPrefix_eq_none (issuer := issuerOf digits) off]
      · have notLive : e.2.status ≠ .live ∧ e.2.status ≠ .off := by
          simp only [List.mem_cons, List.not_mem_nil, or_false] at hs
          rcases hs with h | h | h <;> rw [h] <;> decide
        simp only [dispatchRequest, hf, programOfPrefix_eq_some (issuer := issuerOf digits) he hi notLive.2 unique,
          if_pos notLive.1]
    rw [forwarded, forward_eq]
    split
    · rfl
    · rw [answerBare_of_fieldCheck hf]; rfl
  · intro p e he live hi unique
    have found : programOfPrefix s (issuerOf digits) = some (p, e) :=
      programOfPrefix_eq_some he hi (by simp [live]) unique
    refine ⟨fun bad => ?_, fun hv hl hu => ?_⟩
    · simp only [dispatchRequest, hf, found, live, ne_eq, not_true_eq_false, if_false, cardCheck_eq_none bad,
        answerBare_of_fieldCheck hf]
      rfl
    · intro card
      have live : dispatchRequest q s = dispatchLive t p card s := by
        simp only [dispatchRequest, hf, found, live, ne_eq, not_true_eq_false, if_false, cardCheck_eq_some hv hl hu]
        rfl
      rw [live]
      unfold dispatchLive
      refine ⟨fun hq => ?_, fun hq hs => ?_, fun hq hs => ?_⟩
      · rw [if_pos (quarantined_iff.2 hq), answerBare_of_fieldCheck hf]; rfl
      · rw [if_neg (by rwa [quarantined_iff]), if_pos hs, answerBare_of_fieldCheck hf]; rfl
      · rw [if_neg (by rwa [quarantined_iff]), if_neg (by simp [hs])]

/-! ## The hand-over of an item (R26, R27) -/

section HandOver
variable {it : Item} {s : State}

theorem handOver_quarantined (h : it.card ∈ s.tmc.quarantine) : handOver it s = (.quarantined, s) := by
  rw [handOver, if_pos (quarantined_iff.2 h)]

theorem handOver_waitingFull (h : it.card ∉ s.tmc.quarantine) {e : BusyEntry} (he : s.busyOf it.card = some e)
    (full : 8 ≤ e.waiting.length) : handOver it s = (.waitingFull, s) := by
  simp only [handOver, if_neg (mt quarantined_iff.1 h), he]
  exact if_pos full

theorem handOver_joins (h : it.card ∉ s.tmc.quarantine) {e : BusyEntry} (he : s.busyOf it.card = some e)
    (room : e.waiting.length < 8) :
    handOver it s =
      (.entered, countIn it.program (updateBusy it.card (fun x => { x with waiting := x.waiting ++ [it] }) s)) := by
  simp only [handOver, if_neg (mt quarantined_iff.1 h), he]
  exact if_neg (Nat.not_le.2 room)

theorem handOver_listFull (h : it.card ∉ s.tmc.quarantine) (he : s.busyOf it.card = none) (full : 256 ≤ s.busy.length) :
    handOver it s = (.listFull, s) := by
  simp only [handOver, if_neg (mt quarantined_iff.1 h), he]
  exact if_pos full

theorem handOver_makes (h : it.card ∉ s.tmc.quarantine) (he : s.busyOf it.card = none) (room : s.busy.length < 256) :
    handOver it s = (.entered, countIn it.program (newEntry it s)) := by
  simp only [handOver, if_neg (mt quarantined_iff.1 h), he]
  exact if_neg (Nat.not_le.2 room)

end HandOver

theorem program_countIn {s : State} (w : Tab.wfWith .initial s.programs = true) (p n : Nat) :
    (countIn (some p) s).program n =
      if n = p then { s.program p with inFlight := (s.program p).inFlight + 1 } else s.program n :=
  program_setProgram w p n _

theorem wayOf_setWayOf_same (c : CacheSet) (w : Nat) (v : Way) : wayOf (setWayOf c w v) w = v := by
  rcases w with _ | _ | _ | w <;> rfl

theorem wayAt_setWayAt_same {s : State} (h : Tab.wfWith .empty s.cache = true) (card w : Nat) (v : Way) :
    (s.setWayAt card w v).wayAt card w = v := by
  rw [State.wayAt, State.setWayAt, cacheSet_setCacheSet h, if_pos rfl, wayOf_setWayOf_same]

/-- The entry that a hand-over makes for a card (R25, R26). -/
def freshEntry (it : Item) (state : EntryState) (way : Option Nat) : BusyEntry :=
  { card := it.card, state := state, current := none, waiting := [it], writes := 0, way := way }

section NewEntry
variable {it : Item} {s : State}

theorem newEntry_hit {w : Nat} (h : hitWay s it.card = some w) :
    newEntry it s =
      (s.setWayAt it.card w { s.wayAt it.card w with pinned := true }).withBusy (s.busy ++ [freshEntry it .active (some w)]) := by
  simp only [newEntry, h]
  rfl

theorem newEntry_fetches {w : Nat} (h : hitWay s it.card = none) (hc : chooseWay (s.cacheSet (setOf it.card)) = some w) :
    newEntry it s =
      queueRead (.fetch it.card)
        ((s.setCacheSet (setOf it.card)
          { setWayOf (s.cacheSet (setOf it.card)) w { Way.empty with pinned := true } with
            pointer := (w + 1) % 4 }).withBusy (s.busy ++ [freshEntry it .fetching (some w)])) := by
  simp only [newEntry, h, takeWay, hc, Option.map_some]
  rfl

theorem newEntry_waits (h : hitWay s it.card = none) (hc : chooseWay (s.cacheSet (setOf it.card)) = none) :
    newEntry it s = s.withBusy (s.busy ++ [freshEntry it .fetchWait none]) := by
  simp only [newEntry, h, takeWay, hc, Option.map_none]
  rfl

/-- A new entry changes the Busy Card List, the cache and the queued reads, and nothing else. -/
theorem newEntry_frame (it : Item) (s : State) :
    newEntry it s =
      { s with
        busy := (newEntry it s).busy, cache := (newEntry it s).cache
        tmc := { s.tmc with reads := (newEntry it s).tmc.reads } } := by
  cases hh : hitWay s it.card with
  | some w => rw [newEntry_hit hh]; rfl
  | none =>
    cases hc : chooseWay (s.cacheSet (setOf it.card)) with
    | some w => rw [newEntry_fetches hh hc]; rfl
    | none => rw [newEntry_waits hh hc]; rfl

end NewEntry

/-- What entering changes: the lists, the count of the item's program, and for a new entry the cache and the reads. -/
theorem entered_frame {p : Nat} {s u : State} (w : Tab.wfWith .initial s.programs = true)
    (hu : u = { s with busy := u.busy, cache := u.cache, tmc := { s.tmc with reads := u.tmc.reads } }) :
    let v := countIn (some p) u
    v = { s with busy := v.busy, programs := v.programs, cache := v.cache, tmc := v.tmc } ∧
    v.tmc = { s.tmc with reads := v.tmc.reads } ∧
    v.program p = { s.program p with inFlight := (s.program p).inFlight + 1 } ∧
    (∀ n, n ≠ p → v.program n = s.program n) := by
  have hp : u.programs = s.programs := by rw [hu]
  have program := program_countIn (s := u) (hp ▸ w) p
  refine ⟨?_, ?_, by rw [program, if_pos rfl, program_congr hp], fun n hn => by rw [program, if_neg hn, program_congr hp]⟩
  · rw [hu]; rfl
  · rw [hu]; rfl

/-- Settles O23, from what each way of entering makes of the state. -/
theorem handOverEntersOrIsTurnedAway : Obligations.HandOverEntersOrIsTurnedAway := by
  constructor
  · intro t p card s it hq
    refine ⟨fun e he room => ?_, fun e he full => ?_, fun he room => ?_, fun he full => ?_⟩
    · unfold dispatchItem; rw [handOver_joins (it := it) hq he room]
    · unfold dispatchItem; rw [handOver_waitingFull (it := it) hq he full]
    · unfold dispatchItem; rw [handOver_makes (it := it) hq he room]
    · unfold dispatchItem; rw [handOver_listFull (it := it) hq he full]
  intro it p s hp wp wc v
  refine ⟨fun hq => handOver_quarantined hq, fun hq => ⟨fun e he full => handOver_waitingFull hq he full,
    fun he full => handOver_listFull hq he full, ?_, fun e he room => ?_, fun he room => ?_⟩⟩
  · rintro (⟨e, he, room⟩ | ⟨he, room⟩)
    · have hv : v = _ := handOver_joins hq he room
      rw [hv, hp]
      exact ⟨rfl, entered_frame wp rfl⟩
    · have hv : v = _ := handOver_makes hq he room
      rw [hv, hp]
      exact ⟨rfl, entered_frame wp (newEntry_frame it s)⟩
  · have hv : v = _ := handOver_joins hq he room
    rw [hv, hp]
    exact ⟨rfl, rfl, rfl⟩
  · intro entry
    have hv : v = (.entered, countIn (some p) (newEntry it s)) := hp ▸ handOver_makes hq he room
    refine ⟨fun w hh => ?_, fun w hh hc => ?_, fun hh hc => ?_⟩
    · rw [hv, newEntry_hit hh]
      exact ⟨rfl, rfl, wayAt_setWayAt_same wc it.card w _⟩
    · rw [hv, newEntry_fetches hh hc]
      exact ⟨rfl, rfl, (cacheSet_setCacheSet wc _ _ _).trans (if_pos rfl)⟩
    · rw [hv, newEntry_waits hh hc]
      exact ⟨rfl, rfl, rfl⟩

end Sys2Proof.Machine

/-! # The end of a decision event -/

namespace Sys2Proof.Machine

/-! ## Ways of a card's set -/

theorem wayOf_setWayOf_other (c : CacheSet) {w v : Nat} (x : Way) (hw : w < 4) (hv : v < 4) (h : v ≠ w) :
    wayOf (setWayOf c w x) v = wayOf c v := by
  interval_cases w <;> interval_cases v <;> simp_all [wayOf, setWayOf]

theorem wayAt_setWayAt_other {s : State} (wf : Tab.wfWith .empty s.cache = true) {card w d v : Nat} (x : Way) (hw : w < 4)
    (hv : v < 4) (h : setOf d ≠ setOf card ∨ v ≠ w) : (s.setWayAt card w x).wayAt d v = s.wayAt d v := by
  rw [State.wayAt, State.setWayAt, cacheSet_setCacheSet wf]
  split
  · rename_i hd
    rw [wayOf_setWayOf_other _ _ hw hv (h.resolve_left (not_not_intro hd)), ← hd]
    rfl
  · rfl

theorem onCard_next {card : Nat} (h : card < 16777216) (f : State → State) (s : State) : onCard card f s = .next (f s) :=
  if_pos h

/-! ## The busy entry of a card -/

theorem busyOf_card {s : State} {card : Nat} {e : BusyEntry} (h : s.busyOf card = some e) : e.card = card := by
  simpa using List.find?_some h

theorem busyOf_updateBusy {s : State} {card : Nat} {e : BusyEntry} {f : BusyEntry → BusyEntry} (he : s.busyOf card = some e)
    (hf : ∀ x, (f x).card = x.card) : (updateBusy card f s).busyOf card = some (f e) := by
  have found : ∀ l : List BusyEntry, l.find? (fun x => x.card == card) = some e →
      (l.map fun x => if x.card = card then f x else x).find? (fun x => x.card == card) = some (f e) := by
    intro l
    induction l with
    | nil => simp
    | cons x l ih =>
      by_cases hx : x.card = card
      · simp only [List.find?_cons, hx, beq_self_eq_true, Option.some.injEq, List.map_cons, if_true, hf]
        exact congrArg f
      · simpa [hx, hf] using ih
  exact found s.busy he

/-! ## The change of the record (R29, R131) -/

theorem settleRecord_same (card : Nat) (r : CardRecord) (s : State) : settleRecord card r r s = s := if_pos rfl

theorem settleRecord_changed {card : Nat} {before after : CardRecord} {s : State} {e : BusyEntry} (h : after ≠ before)
    (he : s.busyOf card = some e) :
    settleRecord card before after s =
      queueWrite (.card card after .serialiser)
        (updateBusy card (fun x => { x with writes := raisedWrites s x.writes })
          (if (s.wayAt card (e.way.getD 0)).valid then
            s.setWayAt card (e.way.getD 0) { s.wayAt card (e.way.getD 0) with record := after }
          else s)) := by
  simp only [settleRecord, if_neg h, he]

theorem settleRecord_spec {card w : Nat} {before after : CardRecord} {s : State} {e : BusyEntry}
    (he : s.busyOf card = some e) (hway : e.way = some w) (hw : w < 4) (valid : (s.wayAt card w).valid = true)
    (wf : Tab.wfWith .empty s.cache = true) (h : after ≠ before) :
    let t := settleRecord card before after s
    t = { s with
          busy := s.busy.map fun x => if x.card = card then { x with writes := raisedWrites s x.writes } else x
          cache := t.cache
          tmc :=
            { s.tmc with
              writes := s.tmc.writes ++ [{ id := s.tmc.nextWrite, body := .card card after .serialiser }]
              nextWrite := s.tmc.nextWrite + 1 } } ∧
      t.wayAt card w = { s.wayAt card w with record := after } ∧
      ∀ d v, v < 4 → (setOf d ≠ setOf card ∨ v ≠ w) → t.wayAt d v = s.wayAt d v := by
  simp only [settleRecord_changed h he, hway, Option.getD_some, valid, if_true]
  exact ⟨rfl, wayAt_setWayAt_same wf card w _, fun d v hv hd => wayAt_setWayAt_other wf _ hw hv hd⟩

/-- The busy entry of the card once the record's change is settled: only its outstanding writes changed. -/
theorem busyOf_settleRecord {card : Nat} {before after : CardRecord} {s : State} {e : BusyEntry}
    (he : s.busyOf card = some e) :
    (settleRecord card before after s).busyOf card =
      some { e with writes := if after = before then e.writes else raisedWrites s e.writes } := by
  by_cases h : after = before
  · subst h; rw [settleRecord_same, he, if_pos rfl]
  · rw [settleRecord_changed h he, if_neg h]
    refine busyOf_updateBusy (s := if (s.wayAt card (e.way.getD 0)).valid then _ else s) ?_ fun _ => rfl
    split <;> exact he

/-! ## The item leaves (R8, R11, R29) -/

theorem program_countOut {s : State} (wf : Tab.wfWith .initial s.programs = true) (p n : Nat) :
    (countOut (some p) s).program n =
      if n = p then
        if (s.program p).status = .draining ∧ (s.program p).inFlight - 1 = 0 then
          { s.program p with
            inFlight := (s.program p).inFlight - 1, status := (s.program p).drainTarget.getD .pass, drainTarget := none }
        else { s.program p with inFlight := (s.program p).inFlight - 1 }
      else s.program n := by
  simp only [countOut]
  split <;> exact program_setProgram wf p n _

theorem countOut_frame (p : Option Nat) (s : State) : countOut p s = { s with programs := (countOut p s).programs } := by
  cases p with
  | none => rfl
  | some n => simp only [countOut]; split <;> rfl

theorem freeIfDone_kept {card : Nat} {s : State} {e : BusyEntry} (he : s.busyOf card = some e)
    (h : e.waiting ≠ [] ∨ e.current ≠ none ∨ e.writes ≠ 0) : freeIfDone card s = s := by
  simp only [freeIfDone, he]
  rw [if_neg]
  simp only [Bool.and_eq_true, List.isEmpty_iff, Option.isNone_iff_eq_none, beq_iff_eq]
  tauto

theorem freeIfDone_freed {card : Nat} {s : State} {e : BusyEntry} (he : s.busyOf card = some e) (hw : e.waiting = [])
    (hc : e.current = none) (hn : e.writes = 0) : freeIfDone card s = freeEntry card s := by
  simp [freeIfDone, he, hw, hc, hn]

/-- Settles O40: the record's change, the item's count and the freeing of the entry, each by its own lemma. -/
theorem decisionEventEnds : Obligations.DecisionEventEnds := by
  refine ⟨fun card before after s e w he hway hw valid wf => ⟨fun h => ?_, fun h => ?_⟩, ?_⟩
  · rw [h]; exact settleRecord_same ..
  · exact settleRecord_spec he hway hw valid wf h
  intro it p before after s e hp he wf n writes
  have same : (settleRecord it.card before after s).programs = s.programs := settleRecord_programs ..
  have program (m : Nat) := program_countOut (s := settleRecord it.card before after s) (same ▸ wf) p m
  have busy : (countOut (some p) (settleRecord it.card before after s)).busyOf it.card = some { e with writes := writes } := by
    rw [State.busyOf, countOut_busy]
    exact busyOf_settleRecord he
  refine ⟨countOut (some p) (settleRecord it.card before after s), countOut_frame .., ?_, fun m hm => ?_, fun kept => ?_,
    fun hwait hcur hwrites => ?_⟩
  · rw [program, if_pos rfl, program_congr same]
  · rw [program, if_neg hm, program_congr same]
  · rw [finishItem, leaveCard, hp]
    exact freeIfDone_kept busy kept
  · rw [finishItem, leaveCard, hp]
    exact freeIfDone_freed busy hwait hcur hwrites

/-! # LOAD CLEAR -/

/-! ## The cleared records that are queued (R137, R138) -/

theorem hitWay_congr {s t : State} (h : t.cache = s.cache) (card : Nat) : hitWay t card = hitWay s card := by
  simp only [hitWay, State.wayAt, State.cacheSet, h]

theorem invalidateCard_frame (card : Nat) (s : State) :
    invalidateCard card s = { s with cache := (invalidateCard card s).cache } := by
  unfold invalidateCard
  split <;> rfl

theorem invalidateCard_cache_congr {s t : State} (h : t.cache = s.cache) (card : Nat) :
    (invalidateCard card t).cache = (invalidateCard card s).cache := by
  unfold invalidateCard
  rw [hitWay_congr h]
  split
  · exact h
  · simp only [State.setWayAt, State.setCacheSet, State.wayAt, State.cacheSet, State.withCache, h]

/-- A load write: the record is queued, a way that holds the card is invalid, and other programs lose `initialised`. -/
theorem queueLoadWrite_frame (p card : Nat) (r : CardRecord) (who : CardWriter) (s : State) :
    queueLoadWrite p card r who s =
      { s with
        programs := (uninitialiseOthers p card s).programs
        cache := (invalidateCard card s).cache
        tmc :=
          { s.tmc with
            writes := s.tmc.writes ++ [{ id := s.tmc.nextWrite, body := .card card r who }]
            nextWrite := s.tmc.nextWrite + 1 } } := by
  rw [queueLoadWrite, invalidateCard_frame, invalidateCard_cache_congr (s := s) (t := queueWrite _ s) rfl]
  rfl

/-! ## The LOAD CLEAR of a program -/

theorem clearOf_of_split {s : State} {p : Nat} {j : ClearJob} {a b : List ClearJob} (hs : s.tmc.clears = a ++ j :: b)
    (hj : j.program = p) (others : ∀ x ∈ a ++ b, x.program ≠ p) : clearOf p s = some j := by
  rw [clearOf, hs, List.find?_append, List.find?_eq_none.2 fun x hx => by simp [others x (List.mem_append_left b hx)]]
  simp [hj]

/-- Only the job of the program changes. -/
theorem map_clears_of_split {p : Nat} {j : ClearJob} {a b : List ClearJob} (f : ClearJob → ClearJob) (hj : j.program = p)
    (others : ∀ x ∈ a ++ b, x.program ≠ p) :
    ((a ++ j :: b).map fun c => if c.program = p then f c else c) = a ++ f j :: b := by
  have keep : ∀ l : List ClearJob, (∀ x ∈ l, x.program ≠ p) → (l.map fun c => if c.program = p then f c else c) = l :=
    fun l hl => (List.map_congr_left fun x hx => if_neg (hl x hx)).trans (List.map_id' l)
  rw [List.map_append, List.map_cons, if_pos hj, keep a fun x hx => others x (List.mem_append_left b hx),
    keep b fun x hx => others x (List.mem_append_right a hx)]

/-- The job of the program leaves. -/
theorem filter_clears_of_split {p : Nat} {j : ClearJob} {a b : List ClearJob} (hj : j.program = p)
    (others : ∀ x ∈ a ++ b, x.program ≠ p) : ((a ++ j :: b).filter fun x => x.program != p) = a ++ b := by
  have keep : ∀ l : List ClearJob, (∀ x ∈ l, x.program ≠ p) → (l.filter fun x => x.program != p) = l :=
    fun l hl => List.filter_eq_self.2 fun x hx => by simp [hl x hx]
  rw [List.filter_append, List.filter_cons_of_neg (by simp [hj]), keep a fun x hx => others x (List.mem_append_left b hx),
    keep b fun x hx => others x (List.mem_append_right a hx)]

/-! ## The oldest queued write of a card -/

section Oldest
variable {card : Nat} {c d : List QueuedWrite} {i : Nat} {r : CardRecord} {who : CardWriter}

theorem not_writesCard {card : Nat} {x : QueuedWrite} (h : ∀ r who, x.body ≠ .card card r who) : ¬writesCard card x = true := by
  unfold writesCard
  split
  · rename_i index r who hb
    rw [beq_iff_eq]
    rintro rfl
    exact h r who hb
  · exact Bool.false_ne_true

theorem oldestCardWrite_of_split {s : State} (hs : s.tmc.writes = c ++ { id := i, body := .card card r who } :: d)
    (before : ∀ x ∈ c, ∀ r who, x.body ≠ .card card r who) : oldestCardWrite card s = some (r, who) := by
  have found : s.tmc.writes.find? (writesCard card) = some { id := i, body := .card card r who } := by
    rw [hs, List.find?_append, List.find?_eq_none.2 fun x hx => not_writesCard (before x hx)]
    simp [writesCard]
  simp only [oldestCardWrite, found]

theorem storeCard_of_split {s : State} (hs : s.tmc.writes = c ++ { id := i, body := .card card r who } :: d)
    (before : ∀ x ∈ c, ∀ r who, x.body ≠ .card card r who) :
    storeCard card r s = { s with cards := Tab.insert s.cards card r, tmc := { s.tmc with writes := c ++ d } } := by
  have erased : s.tmc.writes.eraseP (writesCard card) = c ++ d := by
    rw [hs, List.eraseP_append_right _ fun x hx => not_writesCard (before x hx), List.eraseP_cons_of_pos (by simp [writesCard])]
  simp only [storeCard, erased]
  rfl

end Oldest

theorem working_iff {s : State} : s.working = true ↔ s.resetN = true ∧ s.resetPending = false := by
  simp [State.working]

theorem endClear_frame {s : State} (hr : s.resetPending = false) (c : ClearJob) :
    endClear c s =
      replyStarted codeLoadClear c.tag (.done (num 31 c.program ++ num 16777216 c.count))
        ((s.withTmc { s.tmc with clears := s.tmc.clears.filter fun x => x.program != c.program }).setProgram c.program
          { s.program c.program with initialised := true }) := by
  unfold endClear replyEnded
  rw [if_neg]
  simpa using hr

/-- Settles O45. -/
theorem loadClearRuns : Obligations.LoadClearRuns := by
  rintro s _ j a b hp hs rfl others wf
  have job := clearOf_of_split hs rfl others
  have queue : exec (.loadClearWriteQueue j.program) s = .next (clearQueueNext j.program s) := if_pos hp
  refine ⟨fun idle => ?_, fun more hn hr => ?_, ?_⟩
  · rw [queue, clearQueueNext, job]
    dsimp only
    rw [if_neg]
    rw [working_iff]
    rintro ⟨⟨hn, hr⟩, hq⟩
    rcases idle with h | h | h
    · omega
    · simp [hn] at h
    · simp [hr] at h
  · intro card record
    have next : clearQueueNext j.program s = updateClear j.program (fun c => { c with queued := c.queued + 1 })
        (queueLoadWrite j.program card record (.loadClear j.program) s) := by
      rw [clearQueueNext, job]
      exact if_pos ⟨working_iff.2 ⟨hn, hr⟩, more⟩
    refine ⟨_, queue.trans (congrArg _ next), ?_, fun n => ?_⟩
    · rw [updateClear, queueLoadWrite_frame]
      simp only [hs, map_clears_of_split _ rfl others]
      rfl
    · have programs : (updateClear j.program (fun c => { c with queued := c.queued + 1 })
          (queueLoadWrite j.program card record (.loadClear j.program) s)).programs = (uninitialiseOthers j.program card s).programs := by
        rw [updateClear, queueLoadWrite_frame]; rfl
      rw [program_congr programs, program_uninitialiseOthers wf]
      simp only [inRange_iff]
  · intro card c i r d hc hw before stored
    have store := storeCard_of_split hw before
    have run : exec (.loadClearWriteComplete card) s = .next (clearWriteDone j.program card r s) := by
      refine (onCard_next hc _ s).trans ?_
      rw [clearWriteComplete, oldestCardWrite_of_split hw before]
    have job' : clearOf j.program stored = some j := clearOf_of_split (s := stored) hs rfl others
    have counted : updateClear j.program (fun c => { c with completed := c.completed + 1 }) stored =
        { stored with tmc := { stored.tmc with clears := a ++ { j with completed := j.completed + 1 } :: b } } := by
      have := map_clears_of_split (fun c => { c with completed := c.completed + 1 }) rfl others
      rw [← hs] at this
      rw [← this]
      rfl
    have done : clearWriteDone j.program card r s =
        if j.completed + 1 = j.count then
          endClear j { stored with tmc := { stored.tmc with clears := a ++ { j with completed := j.completed + 1 } :: b } }
        else { stored with tmc := { stored.tmc with clears := a ++ { j with completed := j.completed + 1 } :: b } } := by
      simp only [clearWriteDone, store]
      rw [show clearOf j.program
        { s with cards := Tab.insert s.cards card r, tmc := { s.tmc with writes := c ++ d } } = some j from job']
      dsimp only
      rw [show updateClear j.program _ _ = _ from counted]
    rw [run, done]
    refine ⟨fun more => by rw [if_neg more], fun last hr => ?_⟩
    have fin := endClear_frame (s := { stored with
      tmc := { stored.tmc with clears := a ++ { j with completed := j.completed + 1 } :: b } }) hr j
    rw [if_pos last]
    refine ⟨_, congrArg _ fin, ?_, (program_setProgram wf j.program j.program _).trans (if_pos rfl),
      fun n hn => (program_setProgram wf j.program n _).trans (if_neg hn)⟩
    have rest : ((a ++ { j with completed := j.completed + 1 } :: b).filter fun x => x.program != j.program) = a ++ b :=
      filter_clears_of_split rfl others
    rw [← rest]
    rfl

end Sys2Proof.Machine

/-! # The decision of a till request at its card -/

namespace Sys2Proof.Machine

/-! ## The steps of R31 before the decision -/

theorem rollForfeits_iff {s : State} {r : CardRecord} : rollForfeits s.mgmt.day r = true ↔ bonusExpired s r := by
  simp only [rollForfeits, bonusExpired, Bool.and_eq_true, decide_eq_true_eq]
  cases r.bonusExpiry <;> simp

/-- The roll step (R35, R97, R98). -/
theorem applyRoll_of_rollsTo {card : Nat} {s t : State} {r q : CardRecord} (h : RollsTo card s r t q) :
    applyRoll card s r = .applied t q := by
  rcases h with ⟨day, rfl, rfl⟩ | ⟨day, kept, rfl, rfl⟩ | ⟨day, lost, free, rfl, rfl⟩
  · simp only [applyRoll, if_pos day]
  · have stays : rollForfeits t.mgmt.day r = false := by rwa [Bool.eq_false_iff, ne_eq, rollForfeits_iff]
    simp only [applyRoll, if_neg (Nat.not_le.2 day), stays, rolled, rolledRecord]
    rfl
  · have goes : rollForfeits s.mgmt.day r = true := rollForfeits_iff.2 lost
    simp only [applyRoll, if_neg (Nat.not_le.2 day), goes, if_true, if_neg (Nat.pos_iff_ne_zero.1 free), rolled, rolledRecord]
    cases holdsBonus s card <;> rfl

/-- An item that the watch check lets pass comes to its decision (R36, R118, R119). -/
theorem watchStep_of_passes {it : Item} {q₀ : TillRequest} {u t : State} (h : WatchPasses it q₀.kind u t)
    (before r shown : CardRecord) : watchStep it q₀ before u r shown = decideStep it q₀ before t r shown := by
  rcases h with ⟨pass, rfl⟩ | ⟨skip, hit, parks, rfl⟩
  · simp only [watchStep]
    rw [if_pos]
    rcases pass with h | h <;> simp [h]
  · simp only [watchStep, skip, parks, Bool.false_or, beq_iff_eq, hit, if_false, if_true]
    rfl

theorem findRecent_eq_none {till : TillId} {seq : Nat} {l : List RecentRef}
    (h : ∀ x ∈ l, ¬(x.till = till ∧ x.seq = seq)) : findRecent till seq l = none := by
  simpa [findRecent] using h

/-- The head item of a card's waiting list is the item taken (R31). -/
theorem headItem_of_taking {s : State} {e : BusyEntry} {it : Item} {rest : List Item} {w : Nat} {r : CardRecord}
    (h : Taking s e it rest w r) : headItem s it.card = some it := by
  simp [headItem, working_iff.2 h.working, h.entry, h.active, h.waiting]

/-- The taking of the head item of a card is that of its body, with the record of its way. -/
theorem takeItem_of_taking {s : State} {e : BusyEntry} {it : Item} {rest : List Item} {w : Nat} {r : CardRecord}
    (h : Taking s e it rest w r) {q₀ : TillRequest} (hb : it.body = .till q₀) :
    takeItem it (s.taken it.card) = takeTillItem it q₀ (s.taken it.card) r := by
  have entry : (s.taken it.card).busyOf it.card = some { e with waiting := e.waiting.tail } :=
    busyOf_updateBusy (f := fun x => { x with waiting := x.waiting.tail }) h.entry fun _ => rfl
  have record : recordOf (s.taken it.card) { e with waiting := e.waiting.tail } = r := by
    have way : (s.taken it.card).wayAt e.card (e.way.getD 0) = s.wayAt it.card w := by
      rw [busyOf_card h.entry, h.way.1]; rfl
    simp only [recordOf, way, h.valid, if_true, h.record]
  simp only [takeItem, entry, record, hb]

/-- A till request that passes steps 1 to 4 of R31 is decided, by the command of its kind. -/
theorem exec_of_atDecision {s : State} {it : Item} {q₀ : TillRequest} {p : Nat} {r : CardRecord} {t : State} {q : CardRecord}
    (h : AtDecision s it q₀ p r t q) {c : Instr}
    (hc : exec c s = onCard it.card (takeHead (isTill q₀.kind) it.card) s) :
    exec c s = .next (decideStep it q₀ r t q q) := by
  obtain ⟨⟨e, rest, w, taking⟩, request, program, notFrozen, notRecorded, u, roll, watch⟩ := h
  have named : isTill q₀.kind it = true := by simp [isTill, request]
  have taken : takeTillItem it q₀ (s.taken it.card) r = decideStep it q₀ r t q q := by
    simp only [takeTillItem, notFrozen, Bool.false_eq_true, if_false, findRecent_eq_none notRecorded, rollStep,
      applyRoll_of_rollsTo roll]
    exact watchStep_of_passes watch r q q
  rw [hc, onCard_next taking.card, takeHead, headItem_of_taking taking]
  simp only [named, if_true]
  exact congrArg _ ((takeItem_of_taking taking request).trans taken)

/-! ## The end of the decision event -/

/-- A decision whose answer shows the record it leaves ends as R37 and R41 say. -/
theorem decideStep_eq_ends {it : Item} {q₀ : TillRequest} {p : Nat} (hp : it.program = some p) {r q : CardRecord} {t : State}
    {v : Verdict} (hv : decideTill it.card p q₀ t q q = v) (shown : v.shown = v.record) :
    decideStep it q₀ r t q q = ends it q₀ r v.record v.st v.outcome v.approved v.holdRef v.journalSeq := by
  simp only [decideStep, hp, Option.getD_some, hv, shown]
  rfl

theorem decideStep_eq_declines {it : Item} {q₀ : TillRequest} {p : Nat} (hp : it.program = some p) {r q x : CardRecord}
    {t u : State} {o : TillOutcome} (hv : decideTill it.card p q₀ t q q = decline u x o) :
    decideStep it q₀ r t q q = declines it q₀ r x u o := decideStep_eq_ends hp hv rfl

section Declines
variable {s : State} {it : Item} {q₀ : TillRequest} {p : Nat} {r : CardRecord} {t : State} {q : CardRecord} {c : Instr}

/-- A request that its kind's decision declines is answered so, with the record as the decision leaves it (R66). -/
theorem exec_declines (h : AtDecision s it q₀ p r t q)
    (hc : exec c s = onCard it.card (takeHead (isTill q₀.kind) it.card) s) {u : State} {x : CardRecord} {o : TillOutcome}
    (hv : decideTill it.card p q₀ t q q = decline u x o) : exec c s = .next (declines it q₀ r x u o) := by
  rw [exec_of_atDecision h hc, decideStep_eq_declines h.program hv]

end Declines

/-! ## Verification (R46, R47) -/

theorem verifyStep_of_verified {t : TillRequest} {c : Settings} {r x : CardRecord} (h : Verified t c r x) :
    verifyStep t c r = (x, true) := by
  rcases h with ⟨none, channel, rfl⟩ | ⟨v, given, stored, rfl⟩
  · have skips : verifyApplies t c = false := by
      rcases channel with h | h <;> simp [verifyApplies, none, h]
    simp [verifyStep, skips]
  · simp [verifyStep, verifyApplies, given, stored]

/-- A failed verification of an ACTIVE card: the record it leaves, and the state it declines in. -/
theorem verifyStep_of_fails {t : TillRequest} {c : Settings} {r x : CardRecord} {suspends : Bool}
    (h : VerifyFails t c r x suspends) : verifyStep t c r = (x, false) := by
  rcases h with ⟨missing, rfl, -⟩ | ⟨v, y, given, stored, differ, -, rfl⟩
  · have applies : verifyApplies t c = true := by
      rcases missing with ⟨_, remote, on⟩ | ⟨given, _⟩
      · simp [verifyApplies, remote, on]
      · simp [verifyApplies, Option.isSome_iff_ne_none.2 given]
    simp only [verifyStep, applies, if_true]
    split
    · rename_i hs hg
      rcases missing with ⟨h, -⟩ | ⟨-, h⟩
      · simp [h] at hg
      · simp [h] at hs
    · rfl
  · have three : min 3 (r.verifyFailures + 1) = 3 ↔ 2 ≤ r.verifyFailures := by omega
    simp [verifyStep, verifyApplies, given, stored, differ, three]

theorem declineVerify_of_fails {t : TillRequest} {c : Settings} {s : State} {r x : CardRecord} {suspends : Bool}
    (active : r.state = .active) (h : VerifyFails t c r x suspends) :
    declineVerify s r x = decline (if suspends then raiseNotice .cardSuspended false s else s) x .verify := by
  rcases h with ⟨-, rfl, rfl⟩ | ⟨v, y, -, -, -, rfl, rfl⟩
  · simp [declineVerify]
  · by_cases two : 2 ≤ r.verifyFailures <;> simp [declineVerify, two, active]

/-! ## The checks of REDEEM and HOLD (R43, R44) -/

section Spend
variable {card p : Nat} {t : TillRequest} {s : State} {r x : CardRecord}

theorem decideTill_of_gateSpend (hk : t.kind = .redeem ∨ t.kind = .hold) {o : TillOutcome} (hg : gateSpend r.state = some o) :
    decideTill card p t s r r = decline s r o := by
  rcases hk with hk | hk
  · simp only [decideTill, hk, decideRedeem, hg]
  · simp only [decideTill, hk, decideHold, hg]

theorem decideTill_of_unverified (hk : t.kind = .redeem ∨ t.kind = .hold) (active : r.state = .active)
    (hv : verifyStep t (settingsOf s p) r = (x, false)) : decideTill card p t s r r = declineVerify s r x := by
  rcases hk with hk | hk
  · simp only [decideTill, hk, decideRedeem, active, gateSpend, hv]; rfl
  · simp only [decideTill, hk, decideHold, active, gateSpend, hv]; rfl

theorem decideTill_of_dayCount (hk : t.kind = .redeem ∨ t.kind = .hold) (active : r.state = .active)
    (hv : verifyStep t (settingsOf s p) r = (x, true)) (full : (settingsOf s p).dayCountLimit ≤ x.dayCount) :
    decideTill card p t s r r = decline s x .velocity := by
  rcases hk with hk | hk
  · simp only [decideTill, hk, decideRedeem, active, gateSpend, hv, if_pos full]; rfl
  · simp only [decideTill, hk, decideHold, active, gateSpend, hv, if_pos full]; rfl

/-- REDEEM past the day count (R43, R50). -/
theorem decideRedeem_journalFull (hk : t.kind = .redeem) (active : r.state = .active)
    (hv : verifyStep t (settingsOf s p) r = (x, true)) (room : x.dayCount < (settingsOf s p).dayCountLimit)
    (full : journalFree s ≤ 32768) : decideTill card p t s r r = decline s x .journalFull := by
  simp only [decideTill, hk, decideRedeem, active, gateSpend, hv, if_neg (Nat.not_le.2 room)]
  exact if_pos full

/-- HOLD past the day count (R44, R50). -/
theorem decideHold_past_dayCount (hk : t.kind = .hold) (active : r.state = .active)
    (hv : verifyStep t (settingsOf s p) r = (x, true)) (room : x.dayCount < (settingsOf s p).dayCountLimit) :
    ((settingsOf s p).holdsPerCard ≤ x.openHolds → decideTill card p t s r r = decline s x .holdLimit) ∧
    (x.openHolds < (settingsOf s p).holdsPerCard →
      (s.freeList = [] → decideTill card p t s r r = decline s x .capacity) ∧
      (s.freeList ≠ [] → journalFree s ≤ 32768 → decideTill card p t s r r = decline s x .journalFull)) := by
  simp only [decideTill, hk, decideHold, active, gateSpend, hv, if_neg (Nat.not_le.2 room), Bool.not_true]
  refine ⟨fun full => if_pos full, fun few => ?_⟩
  simp only [if_neg (Nat.not_le.2 few)]
  refine ⟨fun none => ?_, fun some full => ?_⟩
  · rw [none]; rfl
  · obtain ⟨n, rest, hf⟩ := List.exists_cons_of_ne_nil some
    rw [hf]
    exact if_pos full

end Spend

/-- Settles O27. -/
theorem spendingChecksInOrder : Obligations.SpendingChecksInOrder := by
  intro s it q₀ p r t q c h hkc k
  have hk : q₀.kind = .redeem ∨ q₀.kind = .hold := by simp at hkc; tauto
  have hc : exec c s = onCard it.card (takeHead (isTill q₀.kind) it.card) s := by
    simp only [List.mem_cons, Prod.mk.injEq, List.not_mem_nil, or_false] at hkc
    rcases hkc with ⟨hk, rfl⟩ | ⟨hk, rfl⟩ <;> rw [hk] <;> rfl
  refine ⟨fun hs => ?_, fun hs => ?_, fun hs => ?_, fun active => ⟨fun x fails => ?_, fun x fails => ?_, fun x ok => ?_⟩⟩
  · exact exec_declines h hc (decideTill_of_gateSpend hk (by rw [hs]; rfl))
  · exact exec_declines h hc (decideTill_of_gateSpend hk (by rw [hs]; rfl))
  · exact exec_declines h hc (decideTill_of_gateSpend hk (by rw [hs]; rfl))
  · exact exec_declines h hc
      ((decideTill_of_unverified hk active (verifyStep_of_fails fails)).trans (declineVerify_of_fails active fails))
  · exact exec_declines h hc
      ((decideTill_of_unverified hk active (verifyStep_of_fails fails)).trans (declineVerify_of_fails active fails))
  · have verified := verifyStep_of_verified ok
    refine ⟨fun full => exec_declines h hc (decideTill_of_dayCount hk active verified full),
      fun room => ⟨fun redeem full => ?_, fun hold => ?_⟩⟩
    · exact exec_declines h hc (decideRedeem_journalFull redeem active verified room full)
    · obtain ⟨limit, rest⟩ := decideHold_past_dayCount (card := it.card) hold active verified room
      exact ⟨fun many => exec_declines h hc (limit many), fun few => ⟨fun none => exec_declines h hc ((rest few).1 none),
        fun some full => exec_declines h hc ((rest few).2 some full)⟩⟩

/-! ## The checks of COMPLETE and RELEASE (R45) -/

section Settle
variable {card p : Nat} {t : TillRequest} {s : State} {r : CardRecord} {ref : HoldRef}

theorem resolveHold_of_missing
    (h : ¬(ref.slot < 16384 ∧ (s.slot ref.slot).reuse = ref.reuse ∧ (s.slot ref.slot).card = card) ∨
      (s.slot ref.slot).state = .free ∧ (s.slot ref.slot).lastClose ≠ some .lapse) :
    resolveHold s card ref = .missing := by
  simp only [resolveHold, holdTableSize]
  rcases h with h | ⟨hs, hl⟩
  · exact if_neg h
  · simp [hs, hl]

theorem resolveHold_of_lapsed
    (h : ref.slot < 16384 ∧ (s.slot ref.slot).reuse = ref.reuse ∧ (s.slot ref.slot).card = card)
    (hs : (s.slot ref.slot).state = .free) (hl : (s.slot ref.slot).lastClose = some .lapse) :
    resolveHold s card ref = .lapsed := by
  simp [resolveHold, holdTableSize, h, hs, hl]

theorem resolveHold_of_open
    (h : ref.slot < 16384 ∧ (s.slot ref.slot).reuse = ref.reuse ∧ (s.slot ref.slot).card = card)
    (hs : (s.slot ref.slot).state ≠ .free) : resolveHold s card ref = .found (s.slot ref.slot) := by
  simp [resolveHold, holdTableSize, h, hs]

theorem decideTill_of_gateSettle (hk : t.kind = .complete ∨ t.kind = .release ∨ t.kind = .reverse) {o : TillOutcome}
    (hg : gateSettle r.state = some o) : decideTill card p t s r r = decline s r o := by
  rcases hk with hk | hk | hk
  · simp only [decideTill, hk, decideComplete, hg]
  · simp only [decideTill, hk, decideRelease, hg]
  · simp only [decideTill, hk, decideReverse, hg]

theorem gateSettle_open (h : r.state = .active ∨ r.state = .suspended) : gateSettle r.state = none := by
  rcases h with h | h <;> rw [h] <;> rfl

theorem decideTill_of_noHold (hk : t.kind = .complete ∨ t.kind = .release) (hg : gateSettle r.state = none)
    (hr : t.holdRef = some ref) (hm : resolveHold s card ref = .missing) :
    decideTill card p t s r r = decline s r .noHold := by
  rcases hk with hk | hk
  · simp only [decideTill, hk, decideComplete, hg, hr, Option.getD_some, hm]
  · simp only [decideTill, hk, decideRelease, hg, hr, Option.getD_some, hm]

theorem decideTill_of_lapsed (hk : t.kind = .complete ∨ t.kind = .release) (hg : gateSettle r.state = none)
    (hr : t.holdRef = some ref) (hl : resolveHold s card ref = .lapsed) :
    decideTill card p t s r r = decline s r .lapsed := by
  rcases hk with hk | hk
  · simp only [decideTill, hk, decideComplete, hg, hr, Option.getD_some, hl]
  · simp only [decideTill, hk, decideRelease, hg, hr, Option.getD_some, hl]

theorem decideComplete_overTolerance {h : HoldSlot} (hk : t.kind = .complete) (hg : gateSettle r.state = none)
    (hr : t.holdRef = some ref) (hf : resolveHold s card ref = .found h) {f : Nat} (ha : t.amount = some f)
    (beyond : completionLimit (settingsOf s p) h.amount < f) : decideTill card p t s r r = decline s r .overTolerance := by
  simp only [decideTill, hk, decideComplete, hg, hr, Option.getD_some, hf, ha, if_pos beyond]

theorem decideTill_settle_journalFull {h : HoldSlot} (hg : gateSettle r.state = none) (hr : t.holdRef = some ref)
    (hf : resolveHold s card ref = .found h) (full : journalFree s = 0)
    (hk : t.kind = .release ∨ t.kind = .complete ∧ ∃ f, t.amount = some f ∧ f ≤ completionLimit (settingsOf s p) h.amount) :
    decideTill card p t s r r = decline s r .journalFull := by
  rcases hk with hk | ⟨hk, f, ha, within⟩
  · simp only [decideTill, hk, decideRelease, hg, hr, Option.getD_some, hf, if_pos full]
  · simp only [decideTill, hk, decideComplete, hg, hr, Option.getD_some, hf, ha, if_neg (Nat.not_lt.2 within), if_pos full]

end Settle

/-- Settles O31. -/
theorem settlingChecksInOrder : Obligations.SettlingChecksInOrder := by
  intro s it q₀ p r t q ref c h hr hkc slot named
  have hk : q₀.kind = .complete ∨ q₀.kind = .release := by simp at hkc; tauto
  have hc : exec c s = onCard it.card (takeHead (isTill q₀.kind) it.card) s := by
    simp only [List.mem_cons, Prod.mk.injEq, List.not_mem_nil, or_false] at hkc
    rcases hkc with ⟨hk, rfl⟩ | ⟨hk, rfl⟩ <;> rw [hk] <;> rfl
  have hk' : q₀.kind = .complete ∨ q₀.kind = .release ∨ q₀.kind = .reverse := by tauto
  refine ⟨fun hs => exec_declines h hc (decideTill_of_gateSettle hk' (by rw [hs]; rfl)),
    fun hs => exec_declines h hc (decideTill_of_gateSettle hk' (by rw [hs]; rfl)), fun hs => ?_⟩
  have hg := gateSettle_open hs
  refine ⟨fun hn hs hl => ?_, fun hm => ?_, fun hn ho => ?_⟩
  · exact exec_declines h hc (decideTill_of_lapsed hk hg hr (resolveHold_of_lapsed hn hs hl))
  · exact exec_declines h hc (decideTill_of_noHold hk hg hr (resolveHold_of_missing hm))
  · have hf := resolveHold_of_open hn ho
    refine ⟨fun f hkind ha beyond => ?_, fun within full => ?_⟩
    · exact exec_declines h hc (decideComplete_overTolerance hkind hg hr hf ha beyond)
    · refine exec_declines h hc (decideTill_settle_journalFull hg hr hf full ?_)
      rcases hk with hk | hk
      · exact .inr ⟨hk, within.resolve_left (by simp [hk])⟩
      · exact .inl hk

end Sys2Proof.Machine

/-! # ACTIVATE and LOAD (R85, R86) -/

namespace Sys2Proof.Machine

section Load
variable {card p a : Nat} {t : TillRequest} {s : State} {r : CardRecord} {kind : JournalKind}

/-- The gate of ACTIVATE or LOAD closes (R17). -/
theorem decideTill_of_gateLoad {o : TillOutcome}
    (h : t.kind = .activate ∧ gateActivate r.state = some o ∨ t.kind = .load ∧ gateSpend r.state = some o) :
    decideTill card p t s r r = decline s r o := by
  rcases h with ⟨hk, hg⟩ | ⟨hk, hg⟩
  · simp only [decideTill, hk, decideActivate, hg]
  · simp only [decideTill, hk, decideLoad, hg]

/-- Past the gate, ACTIVATE and LOAD make the same steps. -/
theorem decideTill_eq_loadSteps
    (h : t.kind = .activate ∧ kind = .activate ∧ r.state = .inactive ∨ t.kind = .load ∧ kind = .load ∧ r.state = .active) :
    decideTill card p t s r r = loadSteps kind card p t s r := by
  rcases h with ⟨hk, rfl, hs⟩ | ⟨hk, rfl, hs⟩
  · simp only [decideTill, hk, decideActivate, hs, gateActivate]
  · simp only [decideTill, hk, decideLoad, hs, gateSpend]

theorem loadSteps_belowMinimum (ha : t.amount = some a) (low : a < (settingsOf s p).minLoad) :
    loadSteps kind card p t s r = decline s r .belowMinimum := by
  simp only [loadSteps, ha, Option.getD_some, if_pos low]

theorem loadSteps_overMaximum (ha : t.amount = some a) (high : (settingsOf s p).minLoad ≤ a)
    (beyond : (settingsOf s p).maxBalance < r.paid + a) : loadSteps kind card p t s r = decline s r .overMaximum := by
  simp only [loadSteps, ha, Option.getD_some, if_neg (Nat.not_lt.2 high), if_pos beyond]

theorem loadSteps_journalFull (ha : t.amount = some a) (high : (settingsOf s p).minLoad ≤ a)
    (within : r.paid + a ≤ (settingsOf s p).maxBalance) (full : journalFree s ≤ 32768) :
    loadSteps kind card p t s r = decline s r .journalFull := by
  simp only [loadSteps, ha, Option.getD_some, if_neg (Nat.not_lt.2 high), if_neg (Nat.not_lt.2 within)]
  exact if_pos full

theorem loadSteps_settles (ha : t.amount = some a) (high : (settingsOf s p).minLoad ≤ a)
    (within : r.paid + a ≤ (settingsOf s p).maxBalance) (free : 32768 < journalFree s) :
    loadSteps kind card p t s r = settleLoad kind card p t s r a := by
  simp only [loadSteps, ha, Option.getD_some, if_neg (Nat.not_lt.2 high), if_neg (Nat.not_lt.2 within)]
  exact if_neg (Nat.not_le.2 free)

end Load

/-- What a load grants: the bonus, the promotion named for it, and the bonus expiry it leaves (R90 to R92). -/
def loadGrant (p : Nat) (s : State) (r : CardRecord) (a : Nat) : Nat × Option Nat × Option Nat :=
  let best := selectPromotion p s.mgmt.day a s.promotions
  let granted := bonusGranted (settingsOf s p) r a best
  (granted, if granted = 0 then none else best.map (·.1),
    grantExpiry s.mgmt.day granted ((best.map (·.2.lifetime)).getD 0) r.bonusExpiry)

/-- No promotion is selected, or the bonus stands at its ceiling: nothing is granted. -/
theorem loadGrant_none {p a : Nat} {s : State} {r : CardRecord}
    (h : selectPromotion p s.mgmt.day a s.promotions = none ∨ (settingsOf s p).bonusCeiling ≤ r.bonus) :
    loadGrant p s r a = (0, none, r.bonusExpiry) := by
  have zero : bonusGranted (settingsOf s p) r a (selectPromotion p s.mgmt.day a s.promotions) = 0 := by
    rcases h with h | h
    · simp [h, bonusGranted, selectedBonus]
    · simp [bonusGranted, bonusRoom, Nat.sub_eq_zero_of_le h]
  simp [loadGrant, zero, grantExpiry]

/-- The selected promotion grants its bonus up to the room below the ceiling, and moves the expiry no earlier. -/
theorem loadGrant_some {p a n : Nat} {e : Promotion} {s : State} {r : CardRecord}
    (h : selectPromotion p s.mgmt.day a s.promotions = some (n, e))
    (pos : 0 < min (min (a * e.rate / 10000) e.cap) ((settingsOf s p).bonusCeiling - r.bonus)) :
    loadGrant p s r a =
      (min (min (a * e.rate / 10000) e.cap) ((settingsOf s p).bonusCeiling - r.bonus), some n,
        some (max (r.bonusExpiry.getD 0) (min 65535 (s.mgmt.day + e.lifetime)))) := by
  have granted : bonusGranted (settingsOf s p) r a (some (n, e)) =
      min (min (a * e.rate / 10000) e.cap) ((settingsOf s p).bonusCeiling - r.bonus) := rfl
  have ne := Nat.pos_iff_ne_zero.1 pos
  simp only [loadGrant, h, granted, if_neg ne, grantExpiry]
  cases r.bonusExpiry <;> simp [dayMax]

theorem addRecent_eq_joined (l : List RecentRef) (x : RecentRef) : addRecent x l = joined l x := by
  obtain short | full := Nat.lt_or_ge l.length 4
  · simp [addRecent, joined, recentSize, short, Nat.not_le.2 short]
  · simp [addRecent, joined, recentSize, full, Nat.not_lt.2 full]

/-- A load that settles, in the terms of its grant (R93, R94). -/
theorem settleLoad_eq {kind : JournalKind} {card p : Nat} {t : TillRequest} {s : State} {r : CardRecord} {a granted : Nat}
    {promotion expiry : Option Nat} (hg : loadGrant p s r a = (granted, promotion, expiry))
    (hs : (if kind = .activate then CardState.active else r.state) = .active) :
    let after : CardRecord :=
      { r with
        paid := r.paid + a
        bonus := r.bonus + granted
        bonusExpiry := expiry
        state := .active
        recents :=
          joined r.recents
            { reference t s.mgmt.day false a granted a with promotion := promotion, bonusGranted := granted } }
    settleLoad kind card p t s r a =
      { st := appendJournal
          { tillEntry kind card t s after with
            program := p, paidDelta := a, bonusDelta := granted, promotion := promotion } s
        record := after, outcome := .approved, approved := some a, holdRef := none, journalSeq := some s.journal.next,
        shown := after } := by
  obtain ⟨rfl, rfl, rfl⟩ : _ = granted ∧ _ = promotion ∧ _ = expiry := by simpa [loadGrant] using hg
  simp only [settleLoad, hs, addRecent_eq_joined]
  rfl

/-- Settles O34. -/
theorem loadsDecideAndSettle : Obligations.LoadsDecideAndSettle := by
  intro s it q₀ p r t q a c kind h ha hkc k
  have hk : q₀.kind = .activate ∧ kind = .activate ∨ q₀.kind = .load ∧ kind = .load := by simp at hkc; tauto
  have hc : exec c s = onCard it.card (takeHead (isTill q₀.kind) it.card) s := by
    simp only [List.mem_cons, Prod.mk.injEq, List.not_mem_nil, or_false] at hkc
    rcases hkc with ⟨hk, rfl, -⟩ | ⟨hk, rfl, -⟩ <;> rw [hk] <;> rfl
  have gate {o : TillOutcome} (ho : gateActivate q.state = some o) (ho' : gateSpend q.state = some o) :
      exec c s = .next (declines it q₀ r q t o) := by
    refine exec_declines h hc (decideTill_of_gateLoad ?_)
    rcases hk with ⟨hk, -⟩ | ⟨hk, -⟩
    · exact .inl ⟨hk, ho⟩
    · exact .inr ⟨hk, ho'⟩
  refine ⟨fun hs => gate (by rw [hs]; rfl) (by rw [hs]; rfl), fun hs => gate (by rw [hs]; rfl) (by rw [hs]; rfl),
    fun hs hact => exec_declines h hc (decideTill_of_gateLoad (.inl ⟨hact, by rw [hs]; rfl⟩)),
    fun hs hload => exec_declines h hc (decideTill_of_gateLoad (.inr ⟨hload, by rw [hs]; rfl⟩)), fun hs => ?_⟩
  have steps : decideTill it.card p q₀ t q q = loadSteps kind it.card p q₀ t q := by
    refine decideTill_eq_loadSteps ?_
    rcases hk with ⟨hk, hkind⟩ | ⟨hk, hkind⟩
    · exact .inl ⟨hk, hkind, by simpa [hk] using hs⟩
    · exact .inr ⟨hk, hkind, by simpa [hk] using hs⟩
  have state : (if kind = .activate then CardState.active else q.state) = .active := by
    rcases hk with ⟨hk, hkind⟩ | ⟨hk, hkind⟩
    · rw [if_pos hkind]
    · rw [hkind, hs, hk]; rfl
  refine ⟨fun low => exec_declines h hc (steps.trans (loadSteps_belowMinimum ha low)),
    fun high beyond => exec_declines h hc (steps.trans (loadSteps_overMaximum ha high beyond)),
    fun high within full => exec_declines h hc (steps.trans (loadSteps_journalFull ha high within full)), ?_⟩
  intro high within free granted promotion expiry grant after entry
  have hg : loadGrant p t q a = (granted, promotion, expiry) := by
    rcases grant with ⟨rfl, rfl, rfl, none⟩ | ⟨n, e, sel, rfl, pos, rfl, rfl⟩
    · exact loadGrant_none none
    · exact loadGrant_some sel pos
  have settled := steps.trans ((loadSteps_settles ha high within free).trans (settleLoad_eq hg state))
  rw [exec_of_atDecision h hc, decideStep_eq_ends h.program settled rfl]

/-! # REVERSE (R101) -/

/-- Recent references that are pairwise of different requests are found by their till and sequence (R15). -/
theorem findRecent_eq_some {till : TillId} {seq : Nat} {l : List RecentRef}
    (distinct : l.Pairwise fun a b => ¬(a.till = b.till ∧ a.seq = b.seq)) {x : RecentRef} (hx : x ∈ l) (ht : x.till = till)
    (hs : x.seq = seq) : findRecent till seq l = some x := by
  refine find?_eq_some_of_unique hx (by simp [ht, hs]) fun y hy hp => ?_
  simp only [Bool.and_eq_true, decide_eq_true_eq, beq_iff_eq] at hp
  by_contra hne
  have : Std.Symm fun a b : RecentRef => ¬(a.till = b.till ∧ a.seq = b.seq) :=
    ⟨fun _ _ h same => h ⟨same.1.symm, same.2.symm⟩⟩
  exact distinct.forall hy hx hne ⟨hp.1.trans ht.symm, hp.2.trans hs.symm⟩

/-- An original can be reversed on a day (R102). -/
def canReverse (day : Nat) (x : RecentRef) : Prop :=
  x.kind ∈ [.activate, .load, .redeem, .hold, .complete] ∧ x.reversed = false ∧ x.day = day

theorem reversible_iff {k : TillKind} : reversible k = true ↔ k ∈ [.activate, .load, .redeem, .hold, .complete] := by
  cases k <;> decide

theorem canReverse_iff {day : Nat} {x : RecentRef} :
    (reversible x.kind && !x.reversed && x.day == day) = true ↔ canReverse day x := by
  simp only [Bool.and_eq_true, reversible_iff, Bool.not_eq_true', beq_iff_eq, and_assoc, canReverse]

section Reverse
variable {card p n : Nat} {t : TillRequest} {s : State} {r : CardRecord} {x : RecentRef}

theorem originalOf_eq_none (hn : t.original = some n) {day : Nat}
    (h : ∀ x ∈ r.recents, x.till = t.till ∧ x.seq = n → ¬canReverse day x) : originalOf t day r = none := by
  simp only [originalOf, hn, Option.getD_some]
  split
  · rfl
  · rename_i x hx
    have named : x.till = t.till ∧ x.seq = n := by simpa [findRecent] using List.find?_some hx
    exact if_neg (mt canReverse_iff.1 (h x (List.mem_of_find?_eq_some hx) named))

theorem originalOf_eq_some (hn : t.original = some n) {day : Nat}
    (distinct : r.recents.Pairwise fun a b => ¬(a.till = b.till ∧ a.seq = b.seq)) (hx : x ∈ r.recents)
    (named : x.till = t.till ∧ x.seq = n) (can : canReverse day x) : originalOf t day r = some x := by
  simp only [originalOf, hn, Option.getD_some, findRecent_eq_some distinct hx named.1 named.2]
  exact if_pos (canReverse_iff.2 can)

theorem decideReverse_noOriginal (hk : t.kind = .reverse) (hg : gateSettle r.state = none)
    (ho : originalOf t s.mgmt.day r = none) : decideTill card p t s r r = decline s r .noOriginal := by
  simp only [decideTill, hk, decideReverse, hg, ho]

theorem decideReverse_undo_error {o : TillOutcome} (hk : t.kind = .reverse) (hg : gateSettle r.state = none)
    (ho : originalOf t s.mgmt.day r = some x) (hu : undo card p x s r = .error o) :
    decideTill card p t s r r = decline s r o := by
  simp only [decideTill, hk, decideReverse, hg, ho, hu]

theorem undo_hold_closed {ref : HoldRef} (hk : x.kind = .hold) (hr : x.holdRef = some ref)
    (h : ∀ v, resolveHold s card ref ≠ .found v) : undo card p x s r = .error .noOriginal := by
  simp only [undo, hk, hr, Option.getD_some]
  cases hf : resolveHold s card ref with
  | found v => exact absurd hf (h v)
  | lapsed => rfl
  | missing => rfl

theorem undo_load_insufficient (hk : x.kind = .load ∨ x.kind = .activate)
    (h : r.paid < x.approved ∨ r.bonus < x.bonusGranted) : undo card p x s r = .error .insufficient := by
  rcases hk with hk | hk <;> simp only [undo, hk, if_pos h]

/-- The kind condition of an original holds, and the journal has no free entry (R101). -/
theorem undo_journalFull (full : journalFree s = 0)
    (h : x.kind = .redeem ∨ x.kind = .complete ∨
      (x.kind = .hold ∧ ∃ ref v, x.holdRef = some ref ∧ resolveHold s card ref = .found v) ∨
      (x.kind = .load ∨ x.kind = .activate) ∧ x.approved ≤ r.paid ∧ x.bonusGranted ≤ r.bonus) :
    undo card p x s r = .error .journalFull := by
  rcases h with hk | hk | ⟨hk, ref, v, hr, hf⟩ | ⟨hk, paid, bonus⟩
  · simp only [undo, hk, if_pos full]
  · simp only [undo, hk, if_pos full]
  · simp only [undo, hk, hr, Option.getD_some, hf, if_pos full]
  · have covered : ¬(r.paid < x.approved ∨ r.bonus < x.bonusGranted) := by omega
    rcases hk with hk | hk <;> simp only [undo, hk, if_neg covered, if_pos full]

end Reverse

/-- A reference that is found names an open hold of the card (R57), and every such reference is found. -/
theorem resolveHold_found_iff {s : State} {card : Nat} {ref : HoldRef} :
    (∃ v, resolveHold s card ref = .found v) ↔
      ref.slot < 16384 ∧ (s.slot ref.slot).reuse = ref.reuse ∧ (s.slot ref.slot).card = card ∧
        (s.slot ref.slot).state ≠ .free := by
  constructor
  · rintro ⟨v, hv⟩
    by_cases h : ref.slot < 16384 ∧ (s.slot ref.slot).reuse = ref.reuse ∧ (s.slot ref.slot).card = card
    · exact ⟨h.1, h.2.1, h.2.2, (resolveHold_found hv).2⟩
    · rw [resolveHold_of_missing (.inl h)] at hv
      cases hv
  · rintro ⟨h1, h2, h3, hs⟩
    exact ⟨_, resolveHold_of_open ⟨h1, h2, h3⟩ hs⟩

/-- Settles O35. -/
theorem reverseChecksInOrder : Obligations.ReverseChecksInOrder := by
  intro s it q₀ p r t q n h hk hn distinct declined named reversible stands
  have hc : exec (.reverse it.card) s = onCard it.card (takeHead (isTill q₀.kind) it.card) s := by rw [hk]; rfl
  have stands_iff (x : RecentRef) :
      stands x ↔ ∃ ref, x.holdRef = some ref ∧ ∃ v, resolveHold t it.card ref = .found v := by
    simp only [resolveHold_found_iff]; exact Iff.rfl
  refine ⟨fun hs => exec_declines h hc (decideTill_of_gateSettle (.inr (.inr hk)) (by rw [hs]; rfl)),
    fun hs => exec_declines h hc (decideTill_of_gateSettle (.inr (.inr hk)) (by rw [hs]; rfl)), fun hs => ?_⟩
  have hg := gateSettle_open hs
  refine ⟨fun none => exec_declines h hc (decideReverse_noOriginal hk hg (originalOf_eq_none hn none)), ?_⟩
  intro x hx hname can
  have original := originalOf_eq_some hn distinct hx hname can
  have errs {o : TillOutcome} (hu : undo it.card p x t q = .error o) : declined o :=
    exec_declines h hc (decideReverse_undo_error hk hg original hu)
  refine ⟨fun hold href closed => ?_, fun load low => errs (undo_load_insufficient load low), fun cond full => ?_⟩
  · obtain ⟨ref, hr⟩ := Option.ne_none_iff_exists'.1 href
    exact errs (undo_hold_closed hold hr fun v hv => closed ((stands_iff x).2 ⟨ref, hr, v, hv⟩))
  · refine errs (undo_journalFull full ?_)
    rcases cond with hk | hk | ⟨hk, st⟩ | hk
    · exact .inl hk
    · exact .inr (.inl hk)
    · obtain ⟨ref, hr, v, hv⟩ := (stands_iff x).1 st
      exact .inr (.inr (.inl ⟨hk, ref, v, hr, hv⟩))
    · exact .inr (.inr (.inr hk))

end Sys2Proof.Machine

/-! # The taking of a management command (R166), and the Program Table's commands (R4 to R8) -/

namespace Sys2Proof.Machine

/-! ## Taking a command -/

section Take
variable {s : State} {code : Nat} {c : MgmtCommand}

theorem takeCommand_of_admits (h : admits s code c = true) (rule : MgmtCommand → State → State) :
    takeCommand code rule s = rule c s.unqueued := by
  simp only [admits, Bool.and_eq_true, decide_eq_true_eq] at h
  obtain ⟨⟨head, hc⟩, level⟩ := h
  simp only [takeCommand, head, if_pos hc, if_neg (Nat.not_lt.2 level)]
  rfl

theorem code_of_admits (h : admits s code c = true) : c.code = code := by
  simp only [admits, Bool.and_eq_true, decide_eq_true_eq] at h
  exact h.1.2

/-- A command answered at once is answered with its rule's result (R166). -/
theorem takeAtOnce_of_admits (h : admits s code c = true) {rule : List Byte → State → State × MgmtResult} {u : State}
    {result : MgmtResult} (hr : rule c.fields s.unqueued = (u, result)) :
    takeCommand code (atOnce rule) s = reply c.code c.tag result u := by
  rw [takeCommand_of_admits h, atOnce, hr]

theorem takeAtOnce_refused (h : admits s code c = true) {rule : List Byte → State → State × MgmtResult} {reason : Reason}
    (hr : rule c.fields s.unqueued = refuse reason s.unqueued) :
    takeCommand code (atOnce rule) s = s.answering c (.refused reason) :=
  takeAtOnce_of_admits h hr

/-- A number within the bytes its range takes is read back, also where it exceeds the range (R181). -/
theorem takeNum_leBytes {max n v : Nat} (rest : List Byte) (hn : byteWidth max = n) (h : v < 256 ^ n) :
    takeNum max (leBytes n v ++ rest) = some (v, rest) := by
  rw [takeNum, hn, takeNumber_leBytes rest h]

theorem takeNum_bind {max n v : Nat} {α : Type} {f : Nat × List Byte → Option α} (rest : List Byte) (hn : byteWidth max = n)
    (h : v < 256 ^ n) : (takeNum max (leBytes n v ++ rest) >>= f) = f (v, rest) := by
  rw [takeNum_leBytes rest hn h]
  rfl

/-- A yes is sent as 0 and a no as 1 (log entry 9). -/
theorem takeNum_yesNo (b : Bool) (rest : List Byte) :
    takeNum 255 ([if b then 0#8 else 1#8] ++ rest) = some (yesNoCode b, rest) := by
  have sent : [if b then 0#8 else 1#8] = leBytes 1 (yesNoCode b) := by cases b <;> rfl
  rw [sent]
  exact takeNum_leBytes rest rfl (by cases b <;> decide)

end Take

/-! ## PROGRAM WRITE (R5) -/

theorem programWriteFields_settingsBytes {p : Nat} (hp : p < 256) {k : Settings} (fit : settingsFit k) (extra : List Byte) :
    programWriteFields (leBytes 1 p ++ settingsBytes k ++ extra) = some (p, k, true) := by
  obtain ⟨issuer, firstSerial, serialCount, tableBase, maxBalance, minLoad, ceiling, tip, lifetime, perCard, dayCount, dayAmount⟩ :=
    fit
  simp only [settingsBytes, List.append_assoc]
  refine (takeNum_bind _ rfl hp).trans <| (takeNum_bind _ rfl issuer).trans <| (takeNum_bind _ rfl firstSerial).trans <|
    (takeNum_bind _ rfl serialCount).trans <| (takeNum_bind _ rfl tableBase).trans <| (takeNum_bind _ rfl maxBalance).trans <|
    (takeNum_bind _ rfl minLoad).trans <| (takeNum_bind _ rfl ceiling).trans <| (takeNum_bind _ rfl tip).trans <|
    (takeNum_bind _ rfl lifetime).trans <| (takeNum_bind _ rfl perCard).trans <| (takeNum_bind _ rfl dayCount).trans <|
    (takeNum_bind _ rfl dayAmount).trans ?_
  simp only [takeNum_yesNo, yesNoOf_yesNoCode, Option.bind_eq_bind, Option.bind_some]
  rfl

/-- A program's issuer or card range changes with its settings (R5). -/
def settingsMove (old new : Settings) : Prop :=
  new.issuer ≠ old.issuer ∨ new.firstSerial ≠ old.firstSerial ∨ new.serialCount ≠ old.serialCount ∨
    new.tableBase ≠ old.tableBase

theorem rangeChanges_iff {old new : Settings} : rangeChanges old new = true ↔ settingsMove old new := by
  simp only [rangeChanges, settingsMove, Bool.or_eq_true, bne_iff_ne, or_assoc, ne_comm]

section Write
variable {s : State} {p : Nat} {k : Settings}

theorem programWriteRefusal_state (h : (s.program p).status = .live ∨ (s.program p).status = .draining) :
    programWriteRefusal s p k true = some .state := if_pos h

section Stopped
variable (stopped : ¬((s.program p).status = .live ∨ (s.program p).status = .draining))
include stopped

theorem programWriteRefusal_busy (held : programHeld s p) : programWriteRefusal s p k true = some .busy :=
  (if_neg stopped).trans (if_pos (programHeld_iff.2 held))

section NotHeld
variable (free : ¬programHeld s p)
include free

theorem programWriteRefusal_range (h : ¬settingsAllowed k) : programWriteRefusal s p k true = some .range := by
  have low : settingsInRange k = false := by simpa using mt settingsInRange_iff.1 h
  simp only [programWriteRefusal, if_neg stopped, if_neg (mt programHeld_iff.1 free), low]
  rfl

/-- The checks of a PROGRAM WRITE whose settings are allowed are of the open holds and of the other programs. -/
theorem programWriteRefusal_allowed (h : settingsAllowed k) :
    programWriteRefusal s p k true =
      if rangeChanges (s.program p).settings k && (s.program p).openHolds != 0 then some .holdsOpen
      else if overlapsOther s p k then some .overlap
      else none := by
  simp only [programWriteRefusal, if_neg stopped, if_neg (mt programHeld_iff.1 free), settingsInRange_iff.2 h]
  rfl

theorem programWriteRefusal_holdsOpen (h : settingsAllowed k) (moves : settingsMove (s.program p).settings k)
    (holds : 0 < (s.program p).openHolds) : programWriteRefusal s p k true = some .holdsOpen := by
  rw [programWriteRefusal_allowed stopped free h, rangeChanges_iff.2 moves]
  exact if_pos (by simpa using Nat.ne_of_gt holds)

section NoHolds
variable (h : settingsAllowed k) (noHolds : ¬settingsMove (s.program p).settings k ∨ (s.program p).openHolds = 0)
include h noHolds

theorem programWriteRefusal_apart (form : Tab.wfWith .initial s.programs = true) :
    (overlapsOpen s p k → programWriteRefusal s p k true = some .overlap) ∧
    (¬overlapsOpen s p k → programWriteRefusal s p k true = none) := by
  have closed : ¬(rangeChanges (s.program p).settings k && (s.program p).openHolds != 0) = true := by
    rw [Bool.and_eq_true, rangeChanges_iff, bne_iff_ne]
    exact fun both => noHolds.elim (· both.1) both.2
  rw [programWriteRefusal_allowed stopped free h, if_neg closed]
  exact ⟨fun shared => if_pos ((overlapsOther_iff form).2 shared), fun apart => if_neg (mt (overlapsOther_iff form).1 apart)⟩

end NoHolds
end NotHeld
end Stopped

section Exec
variable {c : MgmtCommand} {extra : List Byte} (h : admits s 0x20 c = true)
  (hf : c.fields = leBytes 1 p ++ settingsBytes k ++ extra) (hp : p < 256) (fit : settingsFit k)
include h hf hp fit

theorem exec_programWrite_beyond (beyond : 32 ≤ p) : exec .programWrite s = .next (s.answering c (.refused .range)) := by
  have run : programWrite c.fields s.unqueued = refuse .range s.unqueued := by
    rw [programWrite, hf, programWriteFields_settingsBytes hp fit]
    exact if_pos beyond
  exact congrArg _ (takeAtOnce_refused h run)

theorem exec_programWrite_refused (inside : p < 32) {reason : Reason} (hr : programWriteRefusal s p k true = some reason) :
    exec .programWrite s = .next (s.answering c (.refused reason)) := by
  have run : programWrite c.fields s.unqueued = refuse reason s.unqueued := by
    have hr : programWriteRefusal s.unqueued p k true = some reason := hr
    simp only [programWrite, hf, programWriteFields_settingsBytes hp fit, hr]
    exact if_neg (Nat.not_le.2 inside)
  exact congrArg _ (takeAtOnce_refused h run)

theorem exec_programWrite_written (inside : p < 32) (hr : programWriteRefusal s p k true = none) :
    exec .programWrite s =
      .next
        ((s.setProgram p
            { s.program p with
              settings := k
              initialised := if rangeChanges (s.program p).settings k then false else (s.program p).initialised }).answering
          c (.done [])) := by
  have run : programWrite c.fields s.unqueued =
      (s.unqueued.setProgram p
        { s.program p with
          settings := k
          initialised := if rangeChanges (s.program p).settings k then false else (s.program p).initialised }, .done []) := by
    have hr : programWriteRefusal s.unqueued p k true = none := hr
    simp only [programWrite, hf, programWriteFields_settingsBytes hp fit, hr]
    exact if_neg (Nat.not_le.2 inside)
  exact congrArg _ (takeAtOnce_of_admits h run)

end Exec
end Write

/-! ## PROGRAM STATE (R7) -/

section Moves
variable {s : State} {p : Nat} {target : ProgramStatus}

theorem programMove_same (hs : (s.program p).status = target) (ht : target ≠ .draining) :
    programMove s p target = .moveTo target := by
  unfold programMove
  generalize s.program p = e at hs ⊢
  obtain ⟨current, _, _, _, _, _⟩ := e
  cases hs
  cases current with
  | draining => exact absurd rfl ht
  | off | pass | loading | live => rfl

/-- The moves that R7 does not have. -/
theorem programMove_state
    (h : ((s.program p).status, target) ∈
      ([(.off, .live), (.pass, .live), (.live, .off)] : List (ProgramStatus × ProgramStatus)) ∨
        (s.program p).status = .draining) :
    programMove s p target = .refusedFor .state := by
  unfold programMove
  generalize s.program p = e at h ⊢
  obtain ⟨current, _, _, _, _, _⟩ := e
  simp only [List.mem_cons, Prod.mk.injEq, List.not_mem_nil, or_false] at h
  obtain (⟨rfl, rfl⟩ | ⟨rfl, rfl⟩ | ⟨rfl, rfl⟩) | rfl := h
  iterate 3 rfl
  cases target <;> rfl

theorem programMove_between (h : (s.program p).status = .pass ∧ target = .loading ∨ (s.program p).status = .loading ∧ target = .pass) :
    programMove s p target = .moveTo target := by
  unfold programMove
  generalize s.program p = e at h ⊢
  obtain ⟨current, _, _, _, _, _⟩ := e
  obtain ⟨hs, rfl⟩ | ⟨hs, rfl⟩ := h <;> cases hs <;> rfl

theorem programMove_opens (hs : (s.program p).status = .off) (ht : target = .pass ∨ target = .loading) :
    programMove s p target =
      if !settingsInRange (s.program p).settings then .refusedFor .range
      else if overlapsOther s p (s.program p).settings then .refusedFor .overlap
      else .moveTo target := by
  unfold programMove
  generalize s.program p = e at hs ⊢
  obtain ⟨current, _, _, _, _, _⟩ := e
  cases hs
  obtain rfl | rfl := ht <;> rfl

theorem programMove_closes (hs : (s.program p).status = .pass ∨ (s.program p).status = .loading) :
    programMove s p .off = if (s.program p).openHolds ≠ 0 then .refusedFor .holdsOpen else .moveTo .off := by
  unfold programMove
  generalize s.program p = e at hs ⊢
  obtain ⟨current, _, _, _, _, _⟩ := e
  obtain hs | hs := hs <;> cases hs <;> rfl

theorem programMove_live (hs : (s.program p).status = .loading) :
    programMove s p .live =
      if !(s.program p).initialised then .refusedFor .notInitialised
      else if overlapsOther s p (s.program p).settings then .refusedFor .overlap
      else .moveTo .live := by
  unfold programMove
  generalize s.program p = e at hs ⊢
  obtain ⟨current, _, _, _, _, _⟩ := e
  cases hs
  rfl

theorem programMove_leaves (hs : (s.program p).status = .live) (ht : target = .pass ∨ target = .loading) :
    programMove s p target = if (s.program p).openHolds ≠ 0 then .refusedFor .holdsOpen else .drain target := by
  unfold programMove
  generalize s.program p = e at hs ⊢
  obtain ⟨current, _, _, _, _, _⟩ := e
  cases hs
  obtain rfl | rfl := ht <;> rfl

end Moves

theorem programStateFields_bytes {p code : Nat} (hp : p < 256) (hc : code < 256) (extra : List Byte) :
    programStateFields (leBytes 1 p ++ leBytes 1 code ++ extra) = some (p, code) := by
  rw [List.append_assoc]
  exact (takeNum_bind _ rfl hp).trans (takeNum_bind _ rfl hc)

/-- The codes of the states that a PROGRAM STATE may name (R7, 12.6). -/
def targetCodes : List (ProgramStatus × Nat) := [(.off, 0), (.pass, 1), (.loading, 3), (.live, 4)]

theorem programTargetOf_targetCodes {target : ProgramStatus} {code : Nat} (h : (target, code) ∈ targetCodes) :
    programTargetOf code = some target ∧ target ≠ .draining ∧ num 4 (programStatusCode target) = [BitVec.ofNat 8 code] := by
  simp only [targetCodes, List.mem_cons, Prod.mk.injEq, List.not_mem_nil, or_false] at h
  obtain ⟨rfl, rfl⟩ | ⟨rfl, rfl⟩ | ⟨rfl, rfl⟩ | ⟨rfl, rfl⟩ := h <;> exact ⟨rfl, nofun, rfl⟩

theorem programTargetOf_eq_none {code : Nat} (h : code ∉ [0, 1, 3, 4]) : programTargetOf code = none := by
  unfold programTargetOf
  split <;> simp_all

section State
variable {s : State} {p code : Nat} {c : MgmtCommand} {extra : List Byte} (h : admits s 0x21 c = true)
  (hf : c.fields = leBytes 1 p ++ leBytes 1 code ++ extra) (hp : p < 256) (hc : code < 256)
include h hf hp hc

theorem exec_programState_range (beyond : 32 ≤ p ∨ code ∉ [0, 1, 3, 4]) :
    exec .programState s = .next (s.answering c (.refused .range)) := by
  have run : programState c.fields s.unqueued = refuse .range s.unqueued := by
    simp only [programState, hf, programStateFields_bytes hp hc]
    obtain beyond | unlisted := beyond
    · exact if_pos beyond
    · rw [programTargetOf_eq_none unlisted, ite_self]
  exact congrArg _ (takeAtOnce_refused h run)

section Named
variable {target : ProgramStatus} (inside : p < 32) (ht : programTargetOf code = some target)
include inside ht

theorem exec_programState_busy (held : programHeld s p) : exec .programState s = .next (s.answering c (.refused .busy)) := by
  have run : programState c.fields s.unqueued = refuse .busy s.unqueued := by
    simp only [programState, hf, programStateFields_bytes hp hc, ht]
    exact (if_neg (Nat.not_le.2 inside)).trans (if_pos (programHeld_iff.2 held))
  exact congrArg _ (takeAtOnce_refused h run)

section Free
variable (free : ¬programHeld s p)
include free

omit h in
/-- A PROGRAM STATE that meets the checks before the table of R7 makes the table's move. -/
theorem programState_moves {move : StateMove} (hm : programMove s p target = move) :
    programState c.fields s.unqueued =
      match (generalizing := false) move with
      | .refusedFor reason => refuse reason s.unqueued
      | .moveTo status => setEntry p { s.program p with status := status } s.unqueued
      | .drain t => setEntry p (drained (s.program p) t) s.unqueued := by
  have hm : programMove s.unqueued p target = move := hm
  simp only [programState, hf, programStateFields_bytes hp hc, ht, hm]
  exact (if_neg (Nat.not_le.2 inside)).trans (if_neg (mt programHeld_iff.1 free))

theorem exec_programState_refused {reason : Reason} (hm : programMove s p target = .refusedFor reason) :
    exec .programState s = .next (s.answering c (.refused reason)) :=
  congrArg _ (takeAtOnce_refused h (programState_moves hf hp hc inside ht free hm))

theorem exec_programState_moves {status : ProgramStatus} (hm : programMove s p target = .moveTo status) :
    exec .programState s =
      .next
        ((s.setProgram p { s.program p with status := status }).answering c (.done (num 4 (programStatusCode status)))) :=
  congrArg _ (takeAtOnce_of_admits h (programState_moves hf hp hc inside ht free hm))

theorem exec_programState_drains {t : ProgramStatus} (hm : programMove s p target = .drain t) :
    exec .programState s =
      .next
        ((s.setProgram p (drained (s.program p) t)).answering c
          (.done (num 4 (programStatusCode (drained (s.program p) t).status)))) :=
  congrArg _ (takeAtOnce_of_admits h (programState_moves hf hp hc inside ht free hm))

end Free
end Named
end State

/-- A command that writes one Program Table entry leaves the others, and everything else but its answer. -/
theorem entry_becomes {i : Instr} {s : State} {p : Nat} {c : MgmtCommand} {data : List Byte} {after : ProgramEntry}
    (form : Tab.wfWith .initial s.programs = true)
    (run : exec i s = .next ((s.setProgram p after).answering c (.done data))) :
    ∃ t : State, exec i s = .next (t.answering c (.done data)) ∧ t = { s with programs := t.programs } ∧
      t.program p = after ∧ ∀ n, n ≠ p → t.program n = s.program n :=
  ⟨_, run, rfl, by rw [program_setProgram form, if_pos rfl], fun n hn => by rw [program_setProgram form, if_neg hn]⟩

/-- Settles O54: each check of R5 and each row of the table of R7. -/
theorem programCommandsFollowTheTable : Obligations.ProgramCommandsFollowTheTable := by
  intro s c p extra hp form e becomes
  refine ⟨fun k h hf fit => ?_, fun code h hf hc => ?_⟩
  · intro refused moves
    refine ⟨exec_programWrite_beyond h hf hp fit, fun inside => ?_⟩
    have reject {reason : Reason} (hr : programWriteRefusal s p k true = some reason) : refused reason :=
      exec_programWrite_refused h hf hp fit inside hr
    refine ⟨fun accepting => reject (programWriteRefusal_state accepting), fun notLive notDraining => ?_⟩
    have stopped : ¬((s.program p).status = .live ∨ (s.program p).status = .draining) := not_or.2 ⟨notLive, notDraining⟩
    refine ⟨fun held => reject (programWriteRefusal_busy stopped held),
      fun free bad => reject (programWriteRefusal_range stopped free bad), fun free good =>
        ⟨fun hm holds => reject (programWriteRefusal_holdsOpen stopped free good hm holds), fun noHolds => ?_⟩⟩
    obtain ⟨shared, apart⟩ := programWriteRefusal_apart stopped free good noHolds form
    refine ⟨fun overlap => reject (shared overlap), fun clear => ?_⟩
    have written := entry_becomes form (exec_programWrite_written h hf hp fit inside (apart clear))
    refine ⟨fun hm => ?_, fun hm => ?_⟩
    · rwa [if_pos (rangeChanges_iff.2 hm)] at written
    · rwa [if_neg (mt rangeChanges_iff.1 hm)] at written
  · intro refused
    refine ⟨exec_programState_range h hf hp hc, fun target inside listed => ?_⟩
    intro moved stays reaches
    obtain ⟨ht, notDraining, sent⟩ := programTargetOf_targetCodes listed
    refine ⟨exec_programState_busy h hf hp hc inside ht, fun free => ?_⟩
    have reject {reason : Reason} (hm : programMove s p target = .refusedFor reason) : refused reason :=
      exec_programState_refused h hf hp hc inside ht free hm
    have reach (hm : programMove s p target = .moveTo target) : reaches := by
      have run := exec_programState_moves h hf hp hc inside ht free hm
      rw [sent] at run
      exact entry_becomes form run
    refine ⟨fun same => ?_, fun hs => reject (programMove_state (.inr hs)), fun hs ht => ?_, fun hs ht => ?_, fun hs ht => ?_,
      fun hs ht => reach (programMove_between (.inl ⟨hs, ht⟩)), fun hs ht => ?_,
      fun hs ht => reach (programMove_between (.inr ⟨hs, ht⟩)), fun hs ht => ?_, fun hs ht => ?_, fun hs ht => ?_⟩
    · have reached := reach (programMove_same same notDraining)
      simpa only [reaches, ← same] using reached
    · exact reject (programMove_state (.inl (by rw [hs, ht]; decide)))
    · have move := programMove_opens hs ht
      refine ⟨fun bad => reject (move.trans (if_pos ?_)), fun good overlap => reject ?_, fun good apart => reach ?_⟩
      · simpa using mt settingsInRange_iff.1 bad
      · rw [move, settingsInRange_iff.2 good, (overlapsOther_iff form).2 overlap]; rfl
      · rw [move, settingsInRange_iff.2 good]; exact if_neg (mt (overlapsOther_iff form).1 apart)
    · subst ht
      have move := programMove_closes hs
      exact ⟨fun holds => reject (move.trans (if_pos (Nat.ne_of_gt holds))),
        fun noHolds => reach (move.trans (if_neg (not_not.2 noHolds)))⟩
    · exact reject (programMove_state (.inl (by rw [hs, ht]; decide)))
    · subst ht
      have move := programMove_live hs
      refine ⟨fun no => reject (move.trans (if_pos ?_)), fun yes overlap => reject ?_, fun yes apart => reach ?_⟩
      · exact congrArg _ no
      · rw [move, show (s.program p).initialised = true from yes, (overlapsOther_iff form).2 overlap]; rfl
      · rw [move, show (s.program p).initialised = true from yes]; exact if_neg (mt (overlapsOther_iff form).1 apart)
    · exact reject (programMove_state (.inl (by rw [hs, ht]; decide)))
    · have move := programMove_leaves hs ht
      refine ⟨fun holds => reject (move.trans (if_pos (Nat.ne_of_gt holds))), fun noHolds idle => ?_, fun noHolds flying => ?_⟩
      · have run := exec_programState_drains h hf hp hc inside ‹_› free (move.trans (if_neg (not_not.2 noHolds)))
        rw [drained, if_pos idle, sent] at run
        exact entry_becomes form run
      · have run := exec_programState_drains h hf hp hc inside ‹_› free (move.trans (if_neg (not_not.2 noHolds)))
        rw [drained, if_neg (Nat.ne_of_gt flying)] at run
        exact entry_becomes form run

end Sys2Proof.Machine

/-! # The load window (R9, R19, R172 to R175) -/

namespace Sys2Proof.Machine

/-! ## Opening and closing -/

theorem loadOpenFields_bytes {p serial code : Nat} (hp : p < 256) (hs : serial < 4294967296) (hc : code < 256)
    (extra : List Byte) :
    loadOpenFields (leBytes 1 p ++ leBytes 4 serial ++ leBytes 1 code ++ extra) = some (p, serial, code) := by
  simp only [List.append_assoc]
  exact (takeNum_bind _ rfl hp).trans <| (takeNum_bind _ rfl hs).trans <| takeNum_bind _ rfl hc

/-- The direction a code of at most 1 names (R172). -/
def directionAt (code : Nat) : Direction := if code = 0 then .writing else .reading

theorem directionOf_le {code : Nat} (h : code ≤ 1) : directionOf code = some (directionAt code) := by
  interval_cases code <;> rfl

theorem directionOf_beyond {code : Nat} (h : 1 < code) : directionOf code = none := by
  match code, h with
  | _ + 2, _ => rfl

theorem directionAt_eq_writing {code : Nat} : directionAt code = .writing ↔ code = 0 := by
  unfold directionAt
  split <;> simp_all

section Open
variable {s : State} {p serial : Nat} {d : Direction}

theorem openWindow_beyond {d : Option Direction} (h : 32 ≤ p ∨ d = none) : openWindow s p serial d = .error .range := by
  cases d with
  | none => rfl
  | some d => exact if_pos (h.resolve_right nofun)

section Inside
variable (inside : p < 32)
include inside

theorem openWindow_state (h : s.mgmt.window ≠ .closed ∨ (s.program p).status ≠ .loading) :
    openWindow s p serial (some d) = .error .state := by
  refine (if_neg (Nat.not_le.2 inside)).trans ?_
  by_cases hw : s.mgmt.window = .closed
  · exact (if_neg (not_not.2 hw)).trans (if_pos (h.resolve_left (not_not.2 hw)))
  · exact if_pos hw

section Loading
variable (closed : s.mgmt.window = .closed) (loading : (s.program p).status = .loading)
include closed loading

/-- The checks of a LOAD OPEN of a LOADING program, with no window open. -/
theorem openWindow_loading :
    openWindow s p serial (some d) =
      if clearing s p then .error .busy
      else if d = .writing ∧ (s.program p).openHolds ≠ 0 then .error .holdsOpen
      else
        match cardIndexOf (s.program p).settings serial with
        | none => .error .range
        | some pointer => .ok (.opened d p pointer) :=
  (if_neg (Nat.not_le.2 inside)).trans ((if_neg (not_not.2 closed)).trans (if_neg (not_not.2 loading)))

theorem openWindow_serial (free : ¬∃ j ∈ s.tmc.clears, j.program = p) (noHolds : ¬(d = .writing ∧ (s.program p).openHolds ≠ 0)) :
    openWindow s p serial (some d) =
      match cardIndexOf (s.program p).settings serial with
      | none => .error .range
      | some pointer => .ok (.opened d p pointer) :=
  (openWindow_loading inside closed loading).trans ((if_neg (mt clearing_iff.1 free)).trans (if_neg noHolds))

end Loading
end Inside
end Open

section OpenExec
variable {s : State} {p serial code : Nat} {c : MgmtCommand} {extra : List Byte} (h : admits s 0x27 c = true)
  (hf : c.fields = leBytes 1 p ++ leBytes 4 serial ++ leBytes 1 code ++ extra) (hp : p < 256) (hs : serial < 4294967296)
  (hc : code < 256)
include h hf hp hs hc

theorem exec_loadOpen_refused {reason : Reason} (ho : openWindow s p serial (directionOf code) = .error reason) :
    exec .loadOpen s = .next (s.answering c (.refused reason)) := by
  have run : loadOpen c.fields s.unqueued = refuse reason s.unqueued := by
    have ho : openWindow s.unqueued p serial (directionOf code) = .error reason := ho
    simp only [loadOpen, hf, loadOpenFields_bytes hp hs hc, ho]
  exact congrArg _ (takeAtOnce_refused h run)

theorem exec_loadOpen_opened {w : Window} (ho : openWindow s p serial (directionOf code) = .ok w) :
    exec .loadOpen s =
      .next ({ s with mgmt := { s.mgmt with window := w } }.answering c (.done (windowData w))) := by
  have run : loadOpen c.fields s.unqueued =
      (s.unqueued.withMgmt { s.unqueued.mgmt with window := w }, .done (windowData w)) := by
    have ho : openWindow s.unqueued p serial (directionOf code) = .ok w := ho
    simp only [loadOpen, hf, loadOpenFields_bytes hp hs hc, ho]
  exact congrArg _ (takeAtOnce_of_admits h run)

end OpenExec

/-! ## Load records -/

theorem decodeLoadRecords_eq_map (n : Nat) (bytes : List Byte) :
    decodeLoadRecords n bytes = (List.range n).map fun i => decodeLoadRecord ((bytes.drop (24 * i)).take 24) := by
  induction n generalizing bytes with
  | zero => rfl
  | succ n ih =>
    rw [decodeLoadRecords, ih, List.range_succ_eq_map, List.map_cons, List.map_map]
    refine congrArg₂ _ rfl (List.map_congr_left fun i _ => ?_)
    rw [Function.comp_apply, List.drop_drop, Nat.mul_succ, Nat.add_comm]

theorem cardStateOf_isSome {code : Nat} : (cardStateOf code).isSome = true ↔ code ≤ 3 := by
  unfold cardStateOf
  split <;> simp_all
  omega

theorem digitsOf_isSome {bytes : List Byte} :
    (digitsOf bytes).isSome = true ↔ ∀ b ∈ bytes, 48 ≤ b.toNat ∧ b.toNat ≤ 57 := by
  induction bytes with
  | nil => simp [digitsOf]
  | cons b bytes ih =>
    rw [List.forall_mem_cons, ← ih, digitsOf, digitOf]
    cases digitsOf bytes <;> by_cases hb : 48 ≤ b.toNat ∧ b.toNat ≤ 57 <;> simp [hb]

theorem verifyOk_iff {v : Option (List Byte)} :
    verifyOk v = true ↔ ∀ bytes, v = some bytes → ∀ b ∈ bytes, 48 ≤ b.toNat ∧ b.toNat ≤ 57 := by
  cases v with
  | none => simp [verifyOk]
  | some bytes => simp [verifyOk, digitsOf_isSome]

theorem loadRecordOk_iff {k : Settings} {l : LoadRecord} : loadRecordOk k l = true ↔ loadAllowed k l := by
  have expiry : (l.bonus = 0 ∨ l.bonusExpiry.isSome = true) ↔ (0 < l.bonus → l.bonusExpiry ≠ none) := by
    rw [or_iff_not_imp_left, Option.isSome_iff_ne_none, Nat.pos_iff_ne_zero]
  simp only [loadRecordOk, loadAllowed, Bool.and_eq_true, Bool.or_eq_true, beq_iff_eq, decide_eq_true_eq, cardStateOf_isSome,
    verifyOk_iff, expiry, and_assoc]

/-! ## The writes of a LOAD DATA -/

/-- The load writes of the records at some offsets behind the pointer, in their order. -/
def loadWrites (p pointer : Nat) (stored : Nat → CardRecord) (good : List Nat) (s : State) : State :=
  good.foldl (fun u i => queueLoadWrite p (pointer + i) (stored i) .loadData u) s

section Writes
variable {p pointer : Nat} {stored : Nat → CardRecord}

theorem loadWrites_concat (good : List Nat) (i : Nat) (s : State) :
    loadWrites p pointer stored (good ++ [i]) s =
      queueLoadWrite p (pointer + i) (stored i) .loadData (loadWrites p pointer stored good s) := by
  rw [loadWrites, List.foldl_append]
  rfl

theorem loadWrites_frame (good : List Nat) (s : State) :
    loadWrites p pointer stored good s =
      { s with
        programs := (loadWrites p pointer stored good s).programs
        cache := (good.foldl (fun u i => invalidateCard (pointer + i) u) s).cache
        tmc :=
          { s.tmc with
            writes :=
              s.tmc.writes ++
                good.zipIdx.map fun x =>
                  { id := s.tmc.nextWrite + x.2, body := .card (pointer + x.1) (stored x.1) .loadData }
            nextWrite := s.tmc.nextWrite + good.length } } := by
  induction good using List.reverseRecOn with
  | nil => simp [loadWrites]
  | append_singleton good i ih =>
    rw [loadWrites_concat, queueLoadWrite_frame,
      invalidateCard_cache_congr (s := good.foldl (fun u i => invalidateCard (pointer + i) u) s) (by rw [ih]), ih]
    simp [List.zipIdx_append, Nat.add_assoc]

theorem foldl_invalidateCard_cache_congr (cards : List Nat) {s t : State} (h : t.cache = s.cache) :
    (cards.foldl (fun u i => invalidateCard (pointer + i) u) t).cache =
      (cards.foldl (fun u i => invalidateCard (pointer + i) u) s).cache := by
  induction cards generalizing s t with
  | nil => exact h
  | cons i cards ih => exact ih (invalidateCard_cache_congr h _)

/-- A program's entry once load writes of another program's LOAD DATA were queued over its range (R9). -/
theorem program_loadWrites {s : State} (form : Tab.wfWith .initial s.programs = true) (good : List Nat) :
    Tab.wfWith .initial (loadWrites p pointer stored good s).programs = true ∧ ∀ n,
      ((n ≠ p ∧ ∃ i ∈ good, inRange (s.program n).settings (pointer + i)) →
        (loadWrites p pointer stored good s).program n = { s.program n with initialised := false }) ∧
      (¬(n ≠ p ∧ ∃ i ∈ good, inRange (s.program n).settings (pointer + i)) →
        (loadWrites p pointer stored good s).program n = s.program n) := by
  induction good using List.reverseRecOn with
  | nil => exact ⟨form, fun n => ⟨fun ⟨_, _, hi, _⟩ => absurd hi List.not_mem_nil, fun _ => rfl⟩⟩
  | append_singleton good i ih =>
    obtain ⟨wf, ih⟩ := ih
    have programs : (loadWrites p pointer stored (good ++ [i]) s).programs =
        (uninitialiseOthers p (pointer + i) (loadWrites p pointer stored good s)).programs := by
      rw [loadWrites_concat, queueLoadWrite_frame]
    refine ⟨by rw [programs]; exact Tab.wfWith_update _ wf, fun n => ?_⟩
    obtain ⟨hit, miss⟩ := ih n
    rw [program_congr programs, program_uninitialiseOthers wf]
    by_cases before : n ≠ p ∧ ∃ i ∈ good, inRange (s.program n).settings (pointer + i)
    · rw [hit before]
      obtain ⟨hn, j, hj, range⟩ := before
      exact ⟨fun _ => by split <;> rfl, fun no => absurd ⟨hn, j, List.mem_append_left _ hj, range⟩ no⟩
    · rw [miss before]
      refine ⟨fun ⟨hn, j, hj, range⟩ => if_pos ⟨hn, ?_⟩, fun no => if_neg fun ⟨hn, range⟩ => no ⟨hn, i, by simp, range⟩⟩
      obtain hj | hj := List.mem_append.1 hj
      · exact absurd ⟨hn, j, hj, range⟩ before
      · rwa [List.mem_singleton.1 hj] at range

end Writes

/-! ## LOAD DATA -/

section Data
variable (p pointer room : Nat) (k : Settings) (record : Nat → LoadRecord) (s : State)

/-- The offsets of the records among the first `m` that a LOAD DATA writes, where the range has room for `room`. -/
def goodOffsets (m : Nat) : List Nat := (List.range (min m room)).filter fun i => loadRecordOk k (record i)

/-- How far a LOAD DATA has come after `m` records. -/
def loadProgress (m : Nat) : LoadProgress :=
  { st := loadWrites p pointer (fun i => loadedRecord p s.mgmt.day (record i)) (goodOffsets room k record m) s
    pointer := pointer + min m room
    written := (goodOffsets room k record m).length
    skipped := min m room - (goodOffsets room k record m).length
    beyond := m - min m room }

variable {p pointer room k record s}

theorem goodOffsets_length_le (m : Nat) : (goodOffsets room k record m).length ≤ min m room := by
  simpa [goodOffsets] using List.length_filter_le (fun i => loadRecordOk k (record i)) (List.range (min m room))

theorem goodOffsets_succ {m : Nat} (h : m < room) :
    goodOffsets room k record (m + 1) =
      goodOffsets room k record m ++ if loadRecordOk k (record m) then [m] else [] := by
  rw [goodOffsets, goodOffsets, Nat.min_eq_left h, Nat.min_eq_left h.le, List.range_succ, List.filter_append]
  congr 1
  split <;> simp_all

theorem goodOffsets_full {m : Nat} (h : room ≤ m) : goodOffsets room k record m = goodOffsets room k record room := by
  rw [goodOffsets, goodOffsets, Nat.min_eq_right h, Nat.min_self]

theorem loadOne_loadProgress {last : Nat} (hl : room = last - pointer) (m : Nat) :
    loadOne p last k (loadProgress p pointer room k record s m) (record m) =
      loadProgress p pointer room k record s (m + 1) := by
  have count := goodOffsets_length_le (room := room) (k := k) (record := record) m
  by_cases full : room ≤ m
  · have stop : last ≤ (loadProgress p pointer room k record s m).pointer := by
      simp only [loadProgress]; omega
    rw [loadOne, if_pos stop]
    simp only [loadProgress, goodOffsets_full full, goodOffsets_full (Nat.le_succ_of_le full), Nat.min_eq_right full,
      Nat.min_eq_right (Nat.le_succ_of_le full), Nat.succ_sub full, Nat.succ_eq_add_one]
  · have go : ¬last ≤ (loadProgress p pointer room k record s m).pointer := by
      simp only [loadProgress]; omega
    have hm : m < room := Nat.not_le.1 full
    rw [Nat.min_eq_left hm.le] at count
    rw [loadOne, if_neg go]
    split
    · next ok =>
      have day : (loadProgress p pointer room k record s m).st.mgmt.day = s.mgmt.day := by
        simp only [loadProgress]; rw [loadWrites_frame]
      rw [day]
      simp only [loadProgress, goodOffsets_succ hm, if_pos ok, Nat.min_eq_left hm.le, Nat.min_eq_left (Nat.succ_le_of_lt hm),
        loadWrites_concat, List.length_append, List.length_singleton, Nat.sub_self, Nat.add_assoc, Nat.succ_eq_add_one,
        Nat.add_sub_add_right]
    · next bad =>
      simp only [loadProgress, goodOffsets_succ hm, if_neg bad, Nat.min_eq_left hm.le, Nat.min_eq_left (Nat.succ_le_of_lt hm),
        List.append_nil, Nat.sub_self, Nat.add_assoc, Nat.succ_sub count]

theorem foldl_loadOne {last : Nat} (hl : room = last - pointer) (m : Nat) :
    ((List.range m).map record).foldl (loadOne p last k)
        { st := s, pointer := pointer, written := 0, skipped := 0, beyond := 0 } =
      loadProgress p pointer room k record s m := by
  induction m with
  | zero => simp [loadProgress, goodOffsets, loadWrites]
  | succ m ih =>
    rw [List.range_succ, List.map_append, List.foldl_append, ih]
    exact loadOne_loadProgress hl m

theorem goodOffsets_eq {good : List Nat} {m : Nat} (sorted : good.Pairwise (· < ·))
    (listed : ∀ i, i ∈ good ↔ i < min m room ∧ loadAllowed k (record i)) : goodOffsets room k record m = good := by
  refine List.Pairwise.eq_of_mem_iff (r := (· < ·)) (List.pairwise_lt_range.filter _) sorted fun i => ?_
  rw [listed, goodOffsets, List.mem_filter, List.mem_range, loadRecordOk_iff]

theorem movePointer_opened {d : Direction} (hw : s.mgmt.window = .opened d p pointer) (next : Nat) :
    movePointer next s = { s with mgmt := { s.mgmt with window := .opened d p next } } := by
  rw [movePointer, hw]
  rfl

/-- A LOAD DATA with the window open for writing takes its whole records in order (R173). -/
theorem loadData_writing (hw : s.mgmt.window = .opened .writing p pointer) (fields : List Byte)
    (hk : k = (s.program p).settings) (hroom : room = k.tableBase + k.serialCount - pointer)
    (hrecord : record = fun i => decodeLoadRecord ((fields.drop (24 * i)).take 24)) {g : LoadProgress}
    (hg : loadProgress p pointer room k record s (fields.length / 24) = g) :
    loadData fields s =
      (movePointer g.pointer g.st,
        .done (num 42 g.written ++ num 42 g.skipped ++ num 42 g.beyond
          ++ num 1 (yesNoCode (fields.length % 24 != 0)) ++ num 16777216 g.pointer)) := by
  subst hk hrecord hg
  simp only [loadData, hw, decodeLoadRecords_eq_map, foldl_loadOne hroom]

end Data

/-- Whether an incomplete tail was discarded goes as yes 0 and no 1 (log entry 51). -/
theorem partialTail_sent (n : Nat) : num 1 (yesNoCode (n % 24 != 0)) = [if n % 24 = 0 then 1#8 else 0#8] := by
  by_cases whole : n % 24 = 0
  · rw [if_pos whole, whole]; rfl
  · rw [if_neg whole, bne_iff_ne.2 whole]; rfl

theorem reply_eq_answering {s u : State} {c : MgmtCommand} (h : u.central = s.unqueued.central) (result : MgmtResult) :
    reply c.code c.tag result u = { u with central := s.central }.answering c result := by
  have link : u.linkUnit .central = s.unqueued.central.link := congrArg (·.link) h
  rw [reply, handCentral, link]
  simp only [State.setLinkUnit, h]
  rfl

/-! ## LOAD FETCH -/

theorem foldl_queueRead (l : List ReadBody) (s : State) :
    l.foldl (fun s b => queueRead b s) s = { s with tmc := { s.tmc with reads := s.tmc.reads ++ l.map (queuedRead s) } } := by
  induction l generalizing s with
  | nil => simp
  | cons b l ih =>
    rw [List.foldl_cons, ih, List.map_cons, List.append_cons]
    rfl

theorem loadFetchRoom_eq : loadFetchRoom = 6 := by decide

section Fetch
variable {s : State} {c : MgmtCommand} (h : admits s 0x29 c = true)
include h

theorem exec_loadFetch : exec .loadFetch s = .next (loadFetch c s.unqueued) :=
  congrArg _ (takeCommand_of_admits h loadFetch)

section Reading
variable {p pointer : Nat} (hw : s.mgmt.window = .opened .reading p pointer)
include hw

theorem exec_loadFetch_atEnd (atEnd : (s.program p).settings.tableBase + (s.program p).settings.serialCount ≤ pointer) :
    exec .loadFetch s = .next (s.answering c (.done (leBytes 4 pointer ++ [0#8] ++ [0#8]))) := by
  have hw : s.unqueued.mgmt.window = .opened .reading p pointer := hw
  have reached : windowEnd s.unqueued ≤ pointer := by rw [windowEnd, hw]; exact atEnd
  have data : loadFetchData s.unqueued pointer 0 pointer none = leBytes 4 pointer ++ [0#8] ++ [0#8] := by
    rw [loadFetchData, decide_eq_false (Nat.not_lt.2 reached)]
    rfl
  rw [exec_loadFetch h, loadFetch]
  simp only [hw, Nat.sub_eq_zero_of_le reached, Nat.min_zero, if_pos, data]
  rfl

theorem exec_loadFetch_reads {count : Nat}
    (hcount : count =
      min (min s.mgmt.returnSize 6) ((s.program p).settings.tableBase + (s.program p).settings.serialCount - pointer))
    (pos : 0 < count) :
    exec .loadFetch s =
      .next
        { s.unqueued with
          mgmt := { s.mgmt with reading := some (.window c.tag pointer count) }
          tmc :=
            { s.tmc with
              reads := s.tmc.reads ++ (List.range count).map fun i => queuedRead s (.window (pointer + i)) } } := by
  have hw' : s.unqueued.mgmt.window = .opened .reading p pointer := hw
  have room : min (min s.unqueued.mgmt.returnSize loadFetchRoom) (windowEnd s.unqueued - pointer) = count := by
    rw [hcount, loadFetchRoom_eq, windowEnd, hw']
    rfl
  rw [exec_loadFetch h, loadFetch]
  simp only [hw, hw', room, if_neg (Nat.ne_of_gt pos), foldl_queueRead, countUp_eq_range', List.range'_eq_map_range,
    List.map_map]
  rfl

end Reading
end Fetch

/-! ## LOAD CLEAR -/

section Clear
variable {s : State} {p : Nat} {c : MgmtCommand} {extra : List Byte} (h : admits s 0x2B c = true)
  (hf : c.fields = leBytes 1 p ++ extra) (hp : p < 256)
include h hf hp

theorem exec_loadClear :
    exec .loadClear s =
      .next
        (if 32 ≤ p then s.answering c (.refused .range)
        else
          match loadClearRefusal s p with
          | some reason => s.answering c (.refused reason)
          | none => startClear c p s.unqueued) := by
  have named : oneNumber 31 c.fields = some p := by rw [oneNumber, hf, takeNum_leBytes (n := 1) extra rfl hp]; rfl
  refine congrArg _ ((takeCommand_of_admits h loadClear).trans ?_)
  simp only [loadClear, named]
  rfl

theorem exec_loadClear_beyond (beyond : 32 ≤ p) : exec .loadClear s = .next (s.answering c (.refused .range)) := by
  rw [exec_loadClear h hf hp, if_pos beyond]

theorem exec_loadClear_refused (inside : p < 32) {reason : Reason} (hr : loadClearRefusal s p = some reason) :
    exec .loadClear s = .next (s.answering c (.refused reason)) := by
  rw [exec_loadClear h hf hp, if_neg (Nat.not_le.2 inside), hr]

theorem exec_loadClear_starts (inside : p < 32) (hr : loadClearRefusal s p = none) :
    exec .loadClear s = .next (startClear c p s.unqueued) := by
  rw [exec_loadClear h hf hp, if_neg (Nat.not_le.2 inside), hr]

end Clear

/-- Settles O56: each command of the load window, by the lemmas about it. -/
theorem loadWindowCommands : Obligations.LoadWindowCommands := by
  intro s c extra refused
  refine ⟨fun p serial code h hp hs hc hf => ?_, fun h => ?_, fun h => ⟨fun notOpen => ?_, fun p pointer good hw form => ?_⟩,
    fun h => ⟨fun notOpen => ?_, fun p pointer hw => ?_⟩, fun p h hp hf form => ?_⟩
  · intro e inLoad clearing inRange pointer
    have reject {reason : Reason} (ho : openWindow s p serial (directionOf code) = .error reason) : refused .loadOpen reason :=
      exec_loadOpen_refused h hf hp hs hc ho
    refine ⟨fun beyond => reject (openWindow_beyond (beyond.imp_right directionOf_beyond)),
      fun inside low state => reject ?_, ?_, ?_, ?_⟩
    · rw [directionOf_le low, openWindow_state inside state]
    · rintro ⟨inside, low, closed, loading⟩ busy
      exact reject (by rw [directionOf_le low, openWindow_loading inside closed loading, if_pos (clearing_iff.2 busy)])
    · rintro ⟨inside, low, closed, loading⟩ free writing holds
      refine reject ?_
      rw [directionOf_le low, openWindow_loading inside closed loading, if_neg (mt clearing_iff.1 free),
        if_pos ⟨directionAt_eq_writing.2 writing, Nat.ne_of_gt holds⟩]
    · rintro ⟨inside, low, closed, loading⟩ free noHolds
      have noHolds : ¬(directionAt code = .writing ∧ (s.program p).openHolds ≠ 0) := by
        rw [directionAt_eq_writing]
        rintro ⟨hw, holds⟩
        exact noHolds.elim (by omega) holds
      have opens := openWindow_serial (serial := serial) (d := directionAt code) inside closed loading free noHolds
      rw [← directionOf_le low] at opens
      refine ⟨fun out => reject ?_, fun within => ?_⟩
      · rw [opens, cardIndexOf, if_neg out]
      · rw [cardIndexOf, if_pos within] at opens
        rw [exec_loadOpen_opened h hf hp hs hc opens]
        interval_cases code <;> rfl
  · exact congrArg _ (takeAtOnce_of_admits (rule := loadClose) h rfl)
  · have run : loadData c.fields s.unqueued = refuse .state s.unqueued := by
      unfold loadData
      split
      · exact absurd ‹_› (notOpen _ _)
      · rfl
    exact congrArg _ (takeAtOnce_refused h run)
  · intro k record whole taken sorted listed stored
    have good_eq : goodOffsets (k.tableBase + k.serialCount - pointer) k record whole = good := goodOffsets_eq sorted listed
    have progress : loadProgress p pointer (k.tableBase + k.serialCount - pointer) k record s.unqueued whole =
        { st := loadWrites p pointer stored good s.unqueued, pointer := pointer + taken, written := good.length,
          skipped := taken - good.length, beyond := whole - taken } := by
      rw [loadProgress, good_eq]
      rfl
    have run := takeAtOnce_of_admits h (loadData_writing (s := s.unqueued) hw c.fields rfl rfl rfl progress)
    obtain ⟨-, others⟩ := program_loadWrites (p := p) (pointer := pointer) (stored := stored) (s := s.unqueued) form good
    have frame := loadWrites_frame (p := p) (pointer := pointer) (stored := stored) good s.unqueued
    rw [foldl_invalidateCard_cache_congr good (s := s) (t := s.unqueued) rfl] at frame
    generalize loadWrites p pointer stored good s.unqueued = u at run others frame
    rw [movePointer_opened (d := .writing) (p := p) (pointer := pointer) (by rw [frame]; exact hw),
      reply_eq_answering (s := s) (by rw [frame])] at run
    rw [partialTail_sent] at run
    refine ⟨{ u with
        central := s.central, mgmt := { u.mgmt with window := .opened .writing p (pointer + taken) } }, congrArg _ run, ?_,
      fun n => ?_⟩
    · rw [frame]; rfl
    · have entry := others n
      simp only [inRange_iff] at entry
      exact entry
  · refine (exec_loadFetch h).trans ?_
    unfold loadFetch
    split
    · exact absurd ‹_› (notOpen _ _)
    · rfl
  · intro last count
    exact ⟨exec_loadFetch_atEnd h hw, exec_loadFetch_reads h hw rfl⟩
  · intro e clearing
    refine ⟨exec_loadClear_beyond h hf hp, fun inside => ?_⟩
    have reject {reason : Reason} (hr : loadClearRefusal s p = some reason) : refused .loadClear reason :=
      exec_loadClear_refused h hf hp inside hr
    refine ⟨fun state => reject (if_pos state), fun loading busy => reject ?_, fun loading free opened => reject ?_,
      fun loading free closed holds => reject ?_, fun loading free closed noHolds => ?_⟩
    · exact (if_neg (not_not.2 loading)).trans (if_pos (clearing_iff.2 busy))
    · exact (if_neg (not_not.2 loading)).trans <| (if_neg (mt clearing_iff.1 free)).trans (if_pos opened)
    · exact (if_neg (not_not.2 loading)).trans <| (if_neg (mt clearing_iff.1 free)).trans <|
        (if_neg (not_not.2 closed)).trans (if_pos (Nat.ne_of_gt holds))
    · have starts := exec_loadClear_starts h hf hp inside <|
        (if_neg (not_not.2 loading)).trans <| (if_neg (mt clearing_iff.1 free)).trans <|
          (if_neg (not_not.2 closed)).trans (if_neg (not_not.2 noHolds))
      refine ⟨{ s.setProgram p { s.program p with initialised := false } with
          tmc :=
            { s.tmc with
              clears := s.tmc.clears ++
                [{ program := p, tag := c.tag, base := (s.program p).settings.tableBase,
                   count := (s.program p).settings.serialCount, queued := 0, completed := 0 }] } }, starts, rfl, ?_, ?_⟩
      · exact (program_setProgram form p p _).trans (if_pos rfl)
      · exact fun n hn => (program_setProgram form p n _).trans (if_neg hn)

end Sys2Proof.Machine

/-! # The queued writes that complete at an engine reset (R29, R113, R135, R137, R139, R144) -/

namespace Sys2Proof.Machine

/-! ## What a completed write of a card leaves -/

/-- Freeing a busy entry may queue a fetch, and nothing else of the memory controller moves. -/
def tmcBesideReads (t : Tmc) : Tmc := { t with reads := [] }

theorem startFetch_tmc (s : State) (card : Nat) : tmcBesideReads (startFetch s card).tmc = tmcBesideReads s.tmc := by
  unfold startFetch
  split
  · rfl
  · rename_i h
    simp only [takeWay, Option.map_eq_some_iff] at h
    obtain ⟨_, _, e⟩ := h
    cases e
    rfl

theorem startWaiting_tmc (set : Nat) (s : State) : tmcBesideReads (startWaiting set s).tmc = tmcBesideReads s.tmc := by
  unfold startWaiting
  generalize (s.busy.filter _).map _ = cards
  induction cards generalizing s with
  | nil => rfl
  | cons card cards ih => exact (ih _).trans (startFetch_tmc s card)

theorem freeIfDone_tmc (card : Nat) (s : State) : tmcBesideReads (freeIfDone card s).tmc = tmcBesideReads s.tmc := by
  unfold freeIfDone
  split
  · rfl
  · split
    · unfold freeEntry
      split
      · rfl
      · refine (startWaiting_tmc _ _).trans ?_
        split <;> rfl
    · rfl

/-- DRAM, the journal's marks, and the queued writes. -/
def dramParts (s : State) : Tab CardRecord × Tab JournalEntry × Journal × List QueuedWrite :=
  (s.cards, s.ring, s.journal, s.tmc.writes)

/-- The restore in progress and the quarantine list. -/
def restoreParts (s : State) : Option RestoreJob × List Nat := (s.tmc.restore, s.tmc.quarantine)

/-- The Program Table and the LOAD CLEARs in progress. -/
def clearParts (s : State) : Tab ProgramEntry × List ClearJob := (s.programs, s.tmc.clears)

/-- What the completions of queued writes leave as it is (R139). -/
def drainParts (s : State) :=
  (s.stores, s.central, s.promotions, s.slots, s.freeList, s.expiryList, s.time, s.watch, s.mgmt.day, s.resetN, s.tblen,
    s.resetPending, s.pending, s.powerOns, s.tmc.corrected, { s.journal with written := 0, noted := [] })

theorem tmc_fields_of_eq {t u : Tmc} (h : tmcBesideReads t = tmcBesideReads u) :
    t.writes = u.writes ∧ t.restore = u.restore ∧ t.quarantine = u.quarantine ∧ t.clears = u.clears ∧
      t.corrected = u.corrected := by
  simp only [tmcBesideReads, Tmc.mk.injEq] at h
  tauto

section Card
variable (card : Nat) (r : CardRecord) (s : State)

theorem storeCard_parts :
    restoreParts (storeCard card r s) = restoreParts s ∧ clearParts (storeCard card r s) = clearParts s ∧
      drainParts (storeCard card r s) = drainParts s := ⟨rfl, rfl, rfl⟩

theorem completeCardWrite_parts :
    dramParts (completeCardWrite card r s) = dramParts (storeCard card r s) ∧
      restoreParts (completeCardWrite card r s) = restoreParts s ∧ clearParts (completeCardWrite card r s) = clearParts s ∧
      drainParts (completeCardWrite card r s) = drainParts s := by
  obtain ⟨writes, restore, quarantine, clears, corrected⟩ := tmc_fields_of_eq <|
    freeIfDone_tmc card (updateBusy card (fun x => { x with writes := x.writes - 1 }) (storeCard card r s))
  refine ⟨?_, ?_, ?_, ?_⟩
  · simp [completeCardWrite, dramParts, writes]
  · simp only [completeCardWrite, restoreParts, restore, quarantine]; rfl
  · simp only [completeCardWrite, clearParts, freeIfDone_programs, clears]; rfl
  · simp only [completeCardWrite, drainParts, corrected, freeIfDone_stores, freeIfDone_central, freeIfDone_promotions,
      freeIfDone_slots, freeIfDone_freeList, freeIfDone_expiryList, freeIfDone_time, freeIfDone_watch, freeIfDone_mgmt,
      freeIfDone_resetN, freeIfDone_tblen, freeIfDone_resetPending, freeIfDone_pending, freeIfDone_powerOns,
      freeIfDone_journal]
    rfl

theorem cardWriteDone_parts :
    restoreParts (cardWriteDone card s) = restoreParts s ∧ clearParts (cardWriteDone card s) = clearParts s ∧
      drainParts (cardWriteDone card s) = drainParts s := by
  unfold cardWriteDone
  split
  · exact (completeCardWrite_parts ..).2
  · exact storeCard_parts ..
  all_goals exact ⟨rfl, rfl, rfl⟩

theorem replyEnded_parts (code tag : Nat) (result : MgmtResult) :
    dramParts (replyEnded code tag result s) = dramParts s ∧ restoreParts (replyEnded code tag result s) = restoreParts s ∧
      clearParts (replyEnded code tag result s) = clearParts s := by
  simp [dramParts, restoreParts, clearParts]

variable {s}

/-- No answer is sent once an engine reset is under way (R139). -/
theorem replyEnded_drainParts (h : s.resetPending = true) (code tag : Nat) (result : MgmtResult) :
    drainParts (replyEnded code tag result s) = drainParts s := by
  rw [replyEnded, if_pos h]
  rfl

theorem endClear_parts (h : s.resetPending = true) (c : ClearJob) :
    dramParts (endClear c s) = dramParts s ∧ restoreParts (endClear c s) = restoreParts s ∧
      drainParts (endClear c s) = drainParts s := by
  obtain ⟨dram, restore, -⟩ := replyEnded_parts
    ((s.withTmc { s.tmc with clears := s.tmc.clears.filter fun x => x.program != c.program }).setProgram c.program
      { s.program c.program with initialised := true })
    codeLoadClear c.tag (.done (num 31 c.program ++ num 16777216 c.count))
  exact ⟨dram, restore, replyEnded_drainParts (by exact h) _ _ _⟩

theorem clearWriteDone_parts (h : s.resetPending = true) (p : Nat) :
    dramParts (clearWriteDone p card r s) = dramParts (storeCard card r s) ∧
      restoreParts (clearWriteDone p card r s) = restoreParts s ∧ drainParts (clearWriteDone p card r s) = drainParts s := by
  simp only [clearWriteDone]
  split
  · exact ⟨rfl, rfl, rfl⟩
  · split
    · exact endClear_parts (by exact h) _
    · exact ⟨rfl, rfl, rfl⟩

theorem clearWriteComplete_parts (h : s.resetPending = true) :
    restoreParts (clearWriteComplete card s) = restoreParts s ∧ drainParts (clearWriteComplete card s) = drainParts s := by
  unfold clearWriteComplete
  split
  · exact (clearWriteDone_parts _ _ h _).2
  · exact ⟨rfl, rfl⟩

end Card

section Restore
variable {s : State}

theorem endRestore_parts (j : RestoreJob) (r : CardRecord) (seq : Nat) :
    dramParts (endRestore j r seq s) = dramParts s ∧
      restoreParts (endRestore j r seq s) = (none, s.tmc.quarantine.erase j.card) ∧
      clearParts (endRestore j r seq s) = clearParts s :=
  replyEnded_parts (s.withTmc { s.tmc with restore := none, quarantine := s.tmc.quarantine.erase j.card })
    codeCardRestore j.tag (.done (encodeCardRecord r ++ num counterMax seq))

theorem endRestore_drainParts (h : s.resetPending = true) (j : RestoreJob) (r : CardRecord) (seq : Nat) :
    drainParts (endRestore j r seq s) = drainParts s :=
  replyEnded_drainParts (s := s.withTmc { s.tmc with restore := none, quarantine := s.tmc.quarantine.erase j.card }) h _ _ _

/-- The completion of a restored record's write ends the restore, where the write is the oldest of its card. -/
theorem restoreWriteDone_ends {j : RestoreJob} {r : CardRecord} (hj : s.tmc.restore = some j) (hw : j.written ≠ none)
    (ho : oldestCardWrite j.card s = some (r, .restore)) :
    dramParts (restoreWriteDone s) = dramParts (storeCard j.card r s) ∧
      restoreParts (restoreWriteDone s) = (none, s.tmc.quarantine.erase j.card) := by
  obtain ⟨⟨q, seq⟩, hw⟩ := Option.ne_none_iff_exists'.1 hw
  simp only [restoreWriteDone, hj, hw, ho]
  obtain ⟨dram, restore, -⟩ := endRestore_parts (s := storeCard j.card r s) j q seq
  exact ⟨dram, restore⟩

theorem restoreWriteDone_clearParts : clearParts (restoreWriteDone s) = clearParts s := by
  unfold restoreWriteDone
  split
  · rfl
  · split
    · exact (endRestore_parts ..).2.2
    · rfl

theorem restoreWriteDone_drainParts (h : s.resetPending = true) : drainParts (restoreWriteDone s) = drainParts s := by
  unfold restoreWriteDone
  split
  · rfl
  · split
    · exact endRestore_drainParts (by exact h) _ _ _
    · rfl

theorem restoreWriteDone_cases :
    restoreWriteDone s = s ∨ ∃ j r, s.tmc.restore = some j ∧ oldestCardWrite j.card s = some (r, .restore) ∧
      dramParts (restoreWriteDone s) = dramParts (storeCard j.card r s) := by
  rcases hj : s.tmc.restore with _ | j
  · left; simp only [restoreWriteDone, hj]
  rcases hw : j.written with _ | x
  · left; simp only [restoreWriteDone, hj, hw]
  rcases ho : oldestCardWrite j.card s with _ | ⟨r, who⟩
  · left; simp only [restoreWriteDone, hj, hw, ho]
  cases who with
  | restore => exact .inr ⟨j, r, rfl, ho, (restoreWriteDone_ends hj (by simp [hw]) ho).1⟩
  | serialiser | loadData | loadClear => left; simp only [restoreWriteDone, hj, hw, ho]

end Restore

theorem journalWriteDone_of_find {seq position : Nat} {s : State} {w : QueuedWrite} {e : JournalEntry}
    (hf : s.tmc.writes.find? (writesSeq seq) = some w) (hb : w.body = .journal position e) :
    journalWriteDone seq s =
      ((s.withRing (Tab.insert s.ring position e)).withJournal (markWritten seq s.journal)).withTmc
        { s.tmc with writes := s.tmc.writes.eraseP (writesSeq seq) } := by
  simp only [journalWriteDone, hf, hb]

theorem markWritten_frame (seq : Nat) (j : Journal) :
    { markWritten seq j with written := 0, noted := [] } = { j with written := 0, noted := [] } := by
  unfold markWritten
  split <;> rfl

theorem journalWriteDone_cases (seq : Nat) (s : State) :
    journalWriteDone seq s = s ∨ ∃ position e,
      journalWriteDone seq s =
        ((s.withRing (Tab.insert s.ring position e)).withJournal (markWritten seq s.journal)).withTmc
          { s.tmc with writes := s.tmc.writes.eraseP (writesSeq seq) } := by
  rcases hf : s.tmc.writes.find? (writesSeq seq) with _ | w
  · left; simp only [journalWriteDone, hf]
  rcases hb : w.body with _ | ⟨position, e⟩
  · left; simp only [journalWriteDone, hf, hb]
  · exact .inr ⟨position, e, journalWriteDone_of_find hf hb⟩

theorem journalWriteDone_parts (seq : Nat) (s : State) :
    restoreParts (journalWriteDone seq s) = restoreParts s ∧ clearParts (journalWriteDone seq s) = clearParts s ∧
      drainParts (journalWriteDone seq s) = drainParts s := by
  obtain h | ⟨position, e, h⟩ := journalWriteDone_cases seq s <;> rw [h]
  · exact ⟨rfl, rfl, rfl⟩
  · refine ⟨rfl, rfl, ?_⟩
    have marks := markWritten_frame seq s.journal
    simp only [drainParts, State.withTmc, State.withJournal, State.withRing, marks]

/-! ## The completion of one queued write -/

section Complete
variable {s : State} (h : s.resetPending = true) (w : QueuedWrite)

include h in
/-- A queued write's completion leaves the rest of the part (R139). -/
theorem completeWrite_drainParts : drainParts (completeWrite s w) = drainParts s := by
  unfold completeWrite
  split
  · exact (cardWriteDone_parts ..).2.2
  · exact (cardWriteDone_parts ..).2.2
  · exact (clearWriteComplete_parts _ h).2
  · exact restoreWriteDone_drainParts h
  · exact (journalWriteDone_parts ..).2.2

theorem completeWrite_clearParts (hw : ∀ p, clearWriteOf p w = false) : clearParts (completeWrite s w) = clearParts s := by
  obtain ⟨id, body⟩ := w
  cases body with
  | journal position e => exact (journalWriteDone_parts ..).2.1
  | card card r who =>
    cases who with
    | serialiser | loadData => exact (cardWriteDone_parts ..).2.1
    | restore => exact restoreWriteDone_clearParts
    | loadClear p => exact absurd (hw p) (by simp [clearWriteOf])

include h in
theorem completeWrite_restoreParts (hw : restoreWrite w = false) : restoreParts (completeWrite s w) = restoreParts s := by
  obtain ⟨id, body⟩ := w
  cases body with
  | journal position e => exact (journalWriteDone_parts ..).1
  | card card r who =>
    cases who with
    | serialiser | loadData => exact (cardWriteDone_parts ..).1
    | loadClear p => exact (clearWriteComplete_parts _ h).1
    | restore => cases hw

variable {w}

theorem oldestCardWrite_of_find {card index : Nat} {r : CardRecord} {who : CardWriter}
    (hf : s.tmc.writes.find? (writesCard card) = some w) (hb : w.body = .card index r who) :
    oldestCardWrite card s = some (r, who) := by
  simp only [oldestCardWrite, hf, hb]

variable {card : Nat} {r : CardRecord} {who : CardWriter} (hb : w.body = .card card r who) (hr : restoreWrite w = false)
include h hb hr

/-- The oldest write of a card stores its record, where no restore queued it. -/
theorem completeWrite_stores (hf : s.tmc.writes.find? (writesCard card) = some w) :
    dramParts (completeWrite s w) = dramParts (storeCard card r s) := by
  have oldest := oldestCardWrite_of_find hf hb
  obtain ⟨id, body⟩ := w
  cases hb
  cases who with
  | serialiser =>
    simp only [completeWrite, cardWriteDone, oldest]
    exact (completeCardWrite_parts ..).1
  | loadData => simp only [completeWrite, cardWriteDone, oldest]
  | loadClear p =>
    simp only [completeWrite, clearWriteComplete, oldest]
    exact (clearWriteDone_parts _ _ h p).1
  | restore => cases hr

/-- The completion of a write of a card stores a record of that card, or nothing. -/
theorem completeWrite_card_cases :
    dramParts (completeWrite s w) = dramParts s ∨ ∃ q, dramParts (completeWrite s w) = dramParts (storeCard card q s) := by
  obtain ⟨id, body⟩ := w
  cases hb
  cases who with
  | serialiser | loadData =>
    simp only [completeWrite, cardWriteDone]
    split
    · exact .inr ⟨_, (completeCardWrite_parts ..).1⟩
    · exact .inr ⟨_, rfl⟩
    all_goals exact .inl rfl
  | loadClear p =>
    simp only [completeWrite, clearWriteComplete]
    split
    · exact .inr ⟨_, (clearWriteDone_parts _ _ h _).1⟩
    · exact .inl rfl
  | restore => cases hr

end Complete

end Sys2Proof.Machine

/-! # DRAM after the drain of the queued writes (R135, R139) -/

namespace Sys2Proof.Machine

/-! ## Queues seen through a key -/

section Queue
variable {α : Type} {p q : α → Bool}

theorem filter_eraseP_self (l : List α) : (l.eraseP p).filter p = (l.filter p).tail := by
  induction l with
  | nil => rfl
  | cons x l ih => by_cases hx : p x <;> simp [hx, ih]

theorem filter_eraseP_of_disjoint (h : ∀ x, p x = true → q x = false) (l : List α) :
    (l.eraseP p).filter q = l.filter q := by
  induction l with
  | nil => rfl
  | cons x l ih =>
    by_cases hx : p x
    · simp [hx, h x hx]
    · simp [hx, List.filter_cons, ih]

variable {l rest : List α} {w : α} (h : l.filter p = (w :: rest).filter p)
include h

/-- The oldest element with a key is the first that is left. -/
theorem find?_of_filter_cons (hw : p w = true) : l.find? p = some w := by
  rw [← List.head?_filter, h, List.filter_cons_of_pos hw]
  rfl

theorem filter_eraseP_of_filter_cons (hw : p w = true) : (l.eraseP p).filter p = rest.filter p := by
  rw [filter_eraseP_self, h, List.filter_cons_of_pos hw]
  rfl

theorem filter_of_filter_cons (hw : p w = false) : l.filter p = rest.filter p := by
  rw [h, List.filter_cons_of_neg (by simp [hw])]

end Queue

theorem writesCard_ne {card other : Nat} (hne : other ≠ card) {w : QueuedWrite} (hw : writesCard other w = true) :
    writesCard card w = false := by
  unfold writesCard at hw ⊢
  split <;> simp_all

theorem writesSeq_ne {seq other : Nat} (hne : other ≠ seq) {w : QueuedWrite} (hw : writesSeq other w = true) :
    writesSeq seq w = false := by
  unfold writesSeq at hw ⊢
  split <;> simp_all

theorem writesSeq_of_writesCard {card seq : Nat} {w : QueuedWrite} (hw : writesCard card w = true) : writesSeq seq w = false := by
  unfold writesCard at hw
  unfold writesSeq
  split <;> simp_all

theorem writesCard_of_writesSeq {card seq : Nat} {w : QueuedWrite} (hw : writesSeq seq w = true) : writesCard card w = false := by
  unfold writesSeq at hw
  unfold writesCard
  split <;> simp_all

/-! ## What a queued write stores -/

/-- What a queued write stores at a card. -/
def cardStored (card : Nat) (w : QueuedWrite) : Option CardRecord :=
  match w.body with
  | .card index r _ => if index = card then some r else none
  | .journal _ _ => none

/-- What a queued write stores at a ring position. -/
def entryStored (position : Nat) (w : QueuedWrite) : Option JournalEntry :=
  match w.body with
  | .journal p e => if p = position then some e else none
  | .card _ _ _ => none

theorem lastCardWrite_cons (card : Nat) (w : QueuedWrite) (ws : List QueuedWrite) :
    lastCardWrite card (w :: ws) = (lastCardWrite card ws).or (cardStored card w) := by
  rw [lastCardWrite, cardStored]
  cases lastCardWrite card ws <;> cases w.body <;> rfl

theorem lastJournalWrite_cons (position : Nat) (w : QueuedWrite) (ws : List QueuedWrite) :
    lastJournalWrite position (w :: ws) = (lastJournalWrite position ws).or (entryStored position w) := by
  rw [lastJournalWrite, entryStored]
  cases lastJournalWrite position ws <;> cases w.body <;> rfl

theorem cardStored_eq_none {card : Nat} {w : QueuedWrite} (hw : writesCard card w = false) : cardStored card w = none := by
  unfold writesCard at hw
  unfold cardStored
  split <;> simp_all

/-! ## The cards -/

/-- The restored record's write of a card can complete in its turn (R113): none is left, or it is the only one left, and that
of the restore in progress. -/
def RestoreFlows (card : Nat) (s : State) (rest : List QueuedWrite) : Prop :=
  (∀ w ∈ rest, writesCard card w = true → restoreWrite w = false) ∨
  (rest.countP restoreWrite = 1 ∧ (∃ w ∈ rest, writesCard card w = true ∧ restoreWrite w = true) ∧
    ∃ j, s.tmc.restore = some j ∧ j.card = card ∧ j.written ≠ none)

/-- The queue holds the writes of a card that are left, and each can complete in its turn. -/
structure CardFlows (card : Nat) (s : State) (rest : List QueuedWrite) : Prop where
  queued : s.tmc.writes.filter (writesCard card) = rest.filter (writesCard card)
  restore : RestoreFlows card s rest

theorem restoreWaits_iff {card : Nat} {s : State} :
    restoreWaits card s = true ↔ ∃ w ∈ s.tmc.writes, writesCard card w = true ∧ restoreWrite w = true := by
  rw [restoreWaits, List.any_eq_true]
  refine exists_congr fun w => and_congr_right fun _ => ?_
  unfold writesCard restoreWrite
  obtain ⟨id, body⟩ := w
  cases body with
  | journal position e => simp
  | card index r who => cases who <;> simp

theorem cardFlows_of_restore {card : Nat} {s : State} (h : restoreWaits card s = false ∨ restoresDrain s) :
    CardFlows card s s.tmc.writes := by
  refine ⟨rfl, ?_⟩
  by_cases waits : restoreWaits card s = true
  · obtain no | ⟨one, j, hj, written, waitsJ⟩ := h.resolve_left (by simp [waits])
    · exact .inl fun w hw _ => no w hw
    · obtain ⟨w, hw, hc, hr⟩ := restoreWaits_iff.1 waits
      obtain ⟨v, hv, hcv, hrv⟩ := restoreWaits_iff.1 waitsJ
      have same : j.card = card := by
        by_contra hne
        obtain ⟨x, hx⟩ := List.length_eq_one_iff.1 ((List.countP_eq_length_filter ..).symm.trans one)
        have hwx := hx ▸ List.mem_filter.2 ⟨hw, hr⟩
        have hvx := hx ▸ List.mem_filter.2 ⟨hv, hrv⟩
        rw [List.mem_singleton] at hwx hvx
        rw [hvx, ← hwx, writesCard_ne (Ne.symm hne) hc] at hcv
        cases hcv
      exact .inr ⟨one, ⟨w, hw, hc, hr⟩, j, hj, same, written⟩
  · exact .inl fun w hw hc => by
      by_contra hr
      exact waits (restoreWaits_iff.2 ⟨w, hw, hc, by simpa using hr⟩)

theorem body_of_writesCard {card : Nat} {w : QueuedWrite} (hw : writesCard card w = true) :
    ∃ r who, w.body = .card card r who := by
  unfold writesCard at hw
  split at hw
  · rename_i r who hb
    exact ⟨r, who, by rw [hb, beq_iff_eq.1 hw]⟩
  · cases hw

theorem mem_of_oldestCardWrite {card : Nat} {s : State} {r : CardRecord} {who : CardWriter}
    (h : oldestCardWrite card s = some (r, who)) :
    ∃ w ∈ s.tmc.writes.filter (writesCard card), w.body = .card card r who := by
  unfold oldestCardWrite at h
  split at h
  · rename_i w hf
    have hw := List.find?_some hf
    obtain ⟨q, writer, hb⟩ := body_of_writesCard hw
    simp only [hb, Option.some.injEq, Prod.mk.injEq] at h
    obtain ⟨rfl, rfl⟩ := h
    exact ⟨w, List.mem_filter.2 ⟨List.mem_of_find?_eq_some hf, hw⟩, hb⟩
  · cases h

section Step
variable {card : Nat} {s t : State} {w : QueuedWrite} {rest : List QueuedWrite}

theorem dramParts_eq {r : CardRecord} {other : Nat} (h : dramParts t = dramParts (storeCard other r s)) :
    t.cards = Tab.insert s.cards other r ∧ t.ring = s.ring ∧ t.journal = s.journal ∧
      t.tmc.writes = s.tmc.writes.eraseP (writesCard other) := by
  simp only [dramParts, Prod.mk.injEq] at h
  exact h

/-- A completion that stores another card leaves the card and its queued writes. -/
theorem leaves_of_storeCard {r : CardRecord} {other : Nat} (hne : other ≠ card)
    (h : dramParts t = dramParts (storeCard other r s)) :
    Tab.find t.cards card = Tab.find s.cards card ∧
      t.tmc.writes.filter (writesCard card) = s.tmc.writes.filter (writesCard card) := by
  obtain ⟨cards, -, -, writes⟩ := dramParts_eq h
  rw [cards, writes]
  exact ⟨Tab.find_insert_other _ _ (Ne.symm hne), filter_eraseP_of_disjoint (fun _ => writesCard_ne hne) _⟩

theorem RestoreFlows.of_other (h : RestoreFlows card s (w :: rest)) (hr : restoreWrite w = false)
    (same : restoreParts t = restoreParts s) : RestoreFlows card t rest := by
  obtain noRestore | ⟨one, ⟨v, hv, hc, hrv⟩, j, hj, named⟩ := h
  · exact .inl fun v hv => noRestore v (List.mem_cons_of_mem _ hv)
  · obtain rfl | hv := List.mem_cons.1 hv
    · rw [hr] at hrv; cases hrv
    · rw [List.countP_cons_of_neg (by simp [hr])] at one
      exact .inr ⟨one, ⟨v, hv, hc, hrv⟩, j, (congrArg Prod.fst same).trans hj, named⟩

/-- Once a restored record's write has its turn, no other of the card is left, and where it is of the card, it is that of the
restore in progress. -/
theorem RestoreFlows.of_restore (h : RestoreFlows card s (w :: rest)) (hr : restoreWrite w = true) :
    (∀ v ∈ rest, writesCard card v = true → restoreWrite v = false) ∧
      (writesCard card w = true → ∃ j, s.tmc.restore = some j ∧ j.card = card ∧ j.written ≠ none) := by
  obtain noRestore | ⟨one, -, job⟩ := h
  · refine ⟨fun v hv => noRestore v (List.mem_cons_of_mem _ hv), fun hw => ?_⟩
    rw [noRestore w List.mem_cons_self hw] at hr
    cases hr
  · rw [List.countP_cons_of_pos hr, Nat.succ_inj, List.countP_eq_zero] at one
    exact ⟨fun v hv _ => by simpa using one v hv, fun _ => job⟩

variable (hp : s.resetPending = true) (flows : CardFlows card s (w :: rest))
include hp flows

/-- The completion of a write that is not of the card leaves the card and its queued writes. -/
theorem completeWrite_leaves (hw : writesCard card w = false) :
    Tab.find (completeWrite s w).cards card = Tab.find s.cards card ∧
      (completeWrite s w).tmc.writes.filter (writesCard card) = s.tmc.writes.filter (writesCard card) := by
  have same {t : State} (h : dramParts t = dramParts s) :
      Tab.find t.cards card = Tab.find s.cards card ∧
        t.tmc.writes.filter (writesCard card) = s.tmc.writes.filter (writesCard card) := by
    simp only [dramParts, Prod.mk.injEq] at h
    obtain ⟨cards, -, -, writes⟩ := h
    rw [cards, writes]
    exact ⟨rfl, rfl⟩
  rcases hb : w.body with ⟨other, r, who⟩ | ⟨position, e⟩
  · have hne : other ≠ card := by simpa [writesCard, hb] using hw
    by_cases hr : restoreWrite w = true
    · have run : completeWrite s w = restoreWriteDone s := by
        cases who with
        | restore => simp only [completeWrite, hb]
        | serialiser | loadData | loadClear => simp [restoreWrite, hb] at hr
      rw [run]
      obtain same' | ⟨j, q, hj, oldest, dram⟩ := restoreWriteDone_cases (s := s)
      · exact same (congrArg _ same')
      · refine leaves_of_storeCard (fun hc => ?_) dram
        subst hc
        obtain ⟨noRestore, -⟩ := flows.restore.of_restore hr
        obtain ⟨v, hv, hvb⟩ := mem_of_oldestCardWrite oldest
        rw [flows.queued, List.filter_cons_of_neg (by simp [hw]), List.mem_filter] at hv
        have notRestore := noRestore v hv.1 hv.2
        simp [restoreWrite, hvb] at notRestore
    · obtain same' | ⟨q, dram⟩ := completeWrite_card_cases hp hb (by simpa using hr)
      · exact same same'
      · exact leaves_of_storeCard hne dram
  · have run : completeWrite s w = journalWriteDone e.seq s := by simp only [completeWrite, hb]
    rw [run]
    obtain same' | ⟨position, e', run'⟩ := journalWriteDone_cases e.seq s
    · rw [same']; exact ⟨rfl, rfl⟩
    · rw [run']
      exact ⟨rfl, filter_eraseP_of_disjoint (fun _ => writesCard_of_writesSeq) _⟩

/-- The completion of a write of the card, in its turn, stores its record. -/
theorem completeWrite_stores_card (hw : writesCard card w = true) :
    ∃ r, cardStored card w = some r ∧ dramParts (completeWrite s w) = dramParts (storeCard card r s) := by
  obtain ⟨r, who, hb⟩ := body_of_writesCard hw
  have oldest := find?_of_filter_cons flows.queued hw
  refine ⟨r, by simp [cardStored, hb], ?_⟩
  by_cases hr : restoreWrite w = true
  · cases who with
    | restore =>
      obtain ⟨j, hj, rfl, written⟩ := (flows.restore.of_restore hr).2 hw
      have run : completeWrite s w = restoreWriteDone s := by simp only [completeWrite, hb]
      rw [run]
      exact (restoreWriteDone_ends hj written (oldestCardWrite_of_find oldest hb)).1
    | serialiser | loadData | loadClear => simp [restoreWrite, hb] at hr
  · exact completeWrite_stores hp hb (by simpa using hr) oldest

/-- A completed write leaves what the card will hold when every write has completed. -/
theorem CardFlows.step :
    CardFlows card (completeWrite s w) rest ∧
      (lastCardWrite card rest).or (Tab.find (completeWrite s w).cards card) =
        (lastCardWrite card (w :: rest)).or (Tab.find s.cards card) := by
  have restore : RestoreFlows card (completeWrite s w) rest := by
    by_cases hr : restoreWrite w = true
    · exact .inl (flows.restore.of_restore hr).1
    · have hr : restoreWrite w = false := by simpa using hr
      exact flows.restore.of_other hr (completeWrite_restoreParts hp w hr)
  by_cases hw : writesCard card w = true
  · obtain ⟨r, stored, dram⟩ := completeWrite_stores_card hp flows hw
    obtain ⟨cards, -, -, writes⟩ := dramParts_eq dram
    refine ⟨⟨by rw [writes]; exact filter_eraseP_of_filter_cons flows.queued hw, restore⟩, ?_⟩
    rw [cards, Tab.find_insert_same, lastCardWrite_cons, stored, Option.or_assoc]
    rfl
  · have hw : writesCard card w = false := by simpa using hw
    obtain ⟨found, queued⟩ := completeWrite_leaves hp flows hw
    refine ⟨⟨queued.trans (filter_of_filter_cons flows.queued hw), restore⟩, ?_⟩
    rw [found, lastCardWrite_cons, cardStored_eq_none hw, Option.or_none]

end Step

/-! ## The drain -/

/-- What holds of the queued writes, and passes from each to those behind it, holds at the end of the drain. -/
theorem drainWrites_induction {P : State → List QueuedWrite → Prop}
    (step : ∀ s w rest, P s (w :: rest) → P (completeWrite s w) rest) {s : State} (h : P s s.tmc.writes) :
    P (drainWrites s) [] := by
  have run : ∀ (l : List QueuedWrite) (u : State), P u l → P (l.foldl completeWrite u) [] := by
    intro l
    induction l with
    | nil => exact fun _ h => h
    | cons w l ih => exact fun u h => ih _ (step u w l h)
  exact run _ s h

theorem completeWrite_resetPending {s : State} (h : s.resetPending = true) (w : QueuedWrite) :
    (completeWrite s w).resetPending = true := by
  have parts := completeWrite_drainParts h w
  simp only [drainParts, Prod.mk.injEq] at parts
  obtain ⟨-, -, -, -, -, -, -, -, -, -, -, reset, -⟩ := parts
  exact reset.trans h

section Drain
variable {s : State} (hp : s.resetPending = true)
include hp

theorem drainWrites_drainParts : drainParts (drainWrites s) = drainParts s :=
  (drainWrites_induction (P := fun u _ => u.resetPending = true ∧ drainParts u = drainParts s)
    (fun _ w _ ⟨hu, same⟩ => ⟨completeWrite_resetPending hu w, (completeWrite_drainParts hu w).trans same⟩) ⟨hp, rfl⟩).2

/-- Each card a queued write wrote holds the last of them (R139). -/
theorem find_cards_drainWrites {card : Nat} (h : restoreWaits card s = false ∨ restoresDrain s) :
    Tab.find (drainWrites s).cards card = (lastCardWrite card s.tmc.writes).or (Tab.find s.cards card) := by
  have done := drainWrites_induction
    (P := fun u rest => u.resetPending = true ∧ CardFlows card u rest ∧
      (lastCardWrite card rest).or (Tab.find u.cards card) = (lastCardWrite card s.tmc.writes).or (Tab.find s.cards card))
    (fun u w rest ⟨hu, flows, value⟩ =>
      have ⟨flows', value'⟩ := flows.step hu
      ⟨completeWrite_resetPending hu w, flows', value'.trans value⟩)
    ⟨hp, cardFlows_of_restore h, rfl⟩
  obtain ⟨-, -, value⟩ := done
  simpa [lastCardWrite] using value

end Drain

end Sys2Proof.Machine

/-! # The journal, the restore and the LOAD CLEARs after the drain (R113, R137, R139, R144) -/

namespace Sys2Proof.Machine

/-! ## The ring -/

/-- The queue holds the writes of journal entries that are left. -/
def EntryFlows (s : State) (rest : List QueuedWrite) : Prop :=
  ∀ seq, s.tmc.writes.filter (writesSeq seq) = rest.filter (writesSeq seq)

/-- The completion of a write of a card leaves the ring, the journal's marks and the writes of entries. -/
theorem completeWrite_card_leaves {s : State} (hp : s.resetPending = true) {w : QueuedWrite} {card : Nat} {r : CardRecord}
    {who : CardWriter} (hb : w.body = .card card r who) :
    (completeWrite s w).ring = s.ring ∧ (completeWrite s w).journal = s.journal ∧
      ∀ seq, (completeWrite s w).tmc.writes.filter (writesSeq seq) = s.tmc.writes.filter (writesSeq seq) := by
  have stored : dramParts (completeWrite s w) = dramParts s ∨
      ∃ other q, dramParts (completeWrite s w) = dramParts (storeCard other q s) := by
    by_cases hr : restoreWrite w = true
    · cases who with
      | restore =>
        have run : completeWrite s w = restoreWriteDone s := by simp only [completeWrite, hb]
        rw [run]
        obtain same | ⟨j, q, -, -, dram⟩ := restoreWriteDone_cases (s := s)
        · exact .inl (congrArg _ same)
        · exact .inr ⟨_, _, dram⟩
      | serialiser | loadData | loadClear => simp [restoreWrite, hb] at hr
    · exact (completeWrite_card_cases hp hb (by simpa using hr)).imp_right fun ⟨q, dram⟩ => ⟨card, q, dram⟩
  obtain same | ⟨other, q, dram⟩ := stored
  · simp only [dramParts, Prod.mk.injEq] at same
    obtain ⟨-, ring, journal, writes⟩ := same
    exact ⟨ring, journal, fun _ => by rw [writes]⟩
  · obtain ⟨-, ring, journal, writes⟩ := dramParts_eq dram
    exact ⟨ring, journal, fun _ => by rw [writes]; exact filter_eraseP_of_disjoint (fun _ => writesSeq_of_writesCard) _⟩

section Entries
variable {s : State} {w : QueuedWrite} {rest : List QueuedWrite} (flows : EntryFlows s (w :: rest))
include flows

/-- The write of a journal entry completes in its turn. -/
theorem completeWrite_entry {position : Nat} {e : JournalEntry} (hb : w.body = .journal position e) :
    completeWrite s w =
      ((s.withRing (Tab.insert s.ring position e)).withJournal (markWritten e.seq s.journal)).withTmc
        { s.tmc with writes := s.tmc.writes.eraseP (writesSeq e.seq) } := by
  have run : completeWrite s w = journalWriteDone e.seq s := by simp only [completeWrite, hb]
  rw [run]
  exact journalWriteDone_of_find (find?_of_filter_cons (flows e.seq) (by simp [writesSeq, hb])) hb

theorem EntryFlows.step (hp : s.resetPending = true) : EntryFlows (completeWrite s w) rest := by
  intro seq
  rcases hb : w.body with ⟨card, r, who⟩ | ⟨position, e⟩
  · obtain ⟨-, -, queued⟩ := completeWrite_card_leaves hp hb
    exact (queued seq).trans (filter_of_filter_cons (flows seq) (by simp [writesSeq, hb]))
  · rw [completeWrite_entry flows hb]
    by_cases hs : e.seq = seq
    · subst hs
      exact filter_eraseP_of_filter_cons (flows e.seq) (by simp [writesSeq, hb])
    · refine (filter_eraseP_of_disjoint (fun _ => writesSeq_ne hs) _).trans ?_
      exact filter_of_filter_cons (flows seq) (by simp [writesSeq, hb, hs])

theorem find_ring_completeWrite (hp : s.resetPending = true) (position : Nat) :
    (lastJournalWrite position rest).or (Tab.find (completeWrite s w).ring position) =
      (lastJournalWrite position (w :: rest)).or (Tab.find s.ring position) := by
  rw [lastJournalWrite_cons]
  rcases hb : w.body with ⟨card, r, who⟩ | ⟨stored, e⟩
  · obtain ⟨ring, -⟩ := completeWrite_card_leaves hp hb
    simp only [ring, entryStored, hb, Option.or_none]
  · have ring : (completeWrite s w).ring = Tab.insert s.ring stored e := by rw [completeWrite_entry flows hb]; rfl
    rw [ring]
    by_cases h : stored = position
    · subst h
      simp [entryStored, hb]
    · rw [Tab.find_insert_other _ _ (Ne.symm h)]
      simp [entryStored, hb, h]

end Entries

/-! ## The written mark -/

/-- The sequences that are noted, or whose writes are still to complete, are the successors of the written mark up to
`newest` (R144). -/
def MarkClosing (newest written : Nat) (noted queued : List Nat) : Prop :=
  ∃ n, (noted ++ queued).Perm ((List.range n).map fun k => successor^[k + 1] written) ∧ successor^[n] written = newest

theorem successors_succ (n written : Nat) :
    ((List.range (n + 1)).map fun k => successor^[k + 1] written) =
      successor written :: (List.range n).map fun k => successor^[k + 1] (successor written) := by
  rw [List.range_succ_eq_map, List.map_cons, List.map_map]
  rfl

section Mark
variable {newest written : Nat} {noted queued : List Nat}

/-- The successor of the written mark leaves the sequences, and the mark moves to it. -/
theorem MarkClosing.advance (h : MarkClosing newest written noted queued)
    (hm : successor written ∈ noted ++ queued) {noted' queued' : List Nat}
    (left : ((noted ++ queued).erase (successor written)).Perm (noted' ++ queued')) :
    MarkClosing newest (successor written) noted' queued' := by
  obtain ⟨n, perm, reach⟩ := h
  obtain _ | n := n
  · rw [perm.mem_iff] at hm
    simp at hm
  · refine ⟨n, left.symm.trans ?_, reach⟩
    have erased := perm.erase (successor written)
    rwa [successors_succ, List.erase_cons_head] at erased

/-- The mark moves across the noted sequences that follow it, and stops where the next one is not noted. -/
theorem markClosing_advanceMark (fuel : Nat) (h : MarkClosing newest written noted queued) (hf : noted.length ≤ fuel) :
    MarkClosing newest (advanceMark fuel written noted).1 (advanceMark fuel written noted).2 queued ∧
      successor (advanceMark fuel written noted).1 ∉ (advanceMark fuel written noted).2 := by
  induction fuel generalizing written noted with
  | zero =>
    rw [List.length_eq_zero_iff.1 (Nat.le_zero.1 hf)] at h ⊢
    exact ⟨h, List.not_mem_nil⟩
  | succ fuel ih =>
    rw [advanceMark]
    split
    · next hm =>
      have hm : successor written ∈ noted := by simpa using hm
      refine ih (h.advance (List.mem_append_left _ hm) (.of_eq (List.erase_append_left _ hm))) ?_
      rw [List.length_erase_of_mem hm]
      omega
    · next hm => exact ⟨h, by simpa using hm⟩

theorem markClosing_markWritten {j : Journal} {seq : Nat} (h : MarkClosing newest j.written j.noted (seq :: queued))
    (hn : successor j.written ∉ j.noted) :
    MarkClosing newest (markWritten seq j).written (markWritten seq j).noted queued ∧
      successor (markWritten seq j).written ∉ (markWritten seq j).noted := by
  unfold markWritten
  split
  · next hs =>
    refine markClosing_advanceMark _ ?_ le_rfl
    subst hs
    refine h.advance (by simp) ?_
    rw [List.erase_append_right _ hn, List.erase_cons_head]
  · next hs =>
    refine ⟨by simpa [MarkClosing] using h, ?_⟩
    simpa [hn] using Ne.symm hs

/-- With no write left, the mark stands at the newest entry. -/
theorem MarkClosing.closed (h : MarkClosing newest written noted []) (hn : successor written ∉ noted) :
    written = newest ∧ noted = [] := by
  obtain ⟨n, perm, reach⟩ := h
  rw [List.append_nil] at perm
  obtain _ | n := n
  · exact ⟨reach, List.perm_nil.1 perm⟩
  · rw [successors_succ] at perm
    exact absurd (perm.mem_iff.2 List.mem_cons_self) hn

end Mark

section Drain
variable {s : State} (hp : s.resetPending = true)
include hp

theorem find_ring_drainWrites (position : Nat) :
    Tab.find (drainWrites s).ring position = (lastJournalWrite position s.tmc.writes).or (Tab.find s.ring position) := by
  have done := drainWrites_induction
    (P := fun u rest => u.resetPending = true ∧ EntryFlows u rest ∧
      (lastJournalWrite position rest).or (Tab.find u.ring position) =
        (lastJournalWrite position s.tmc.writes).or (Tab.find s.ring position))
    (fun u w rest ⟨hu, flows, value⟩ =>
      ⟨completeWrite_resetPending hu w, flows.step hu, (find_ring_completeWrite flows hu position).trans value⟩)
    ⟨hp, fun _ => rfl, rfl⟩
  obtain ⟨-, -, value⟩ := done
  simpa [lastJournalWrite] using value

theorem markClosing_completeWrite {w : QueuedWrite} {rest : List QueuedWrite} {newest : Nat} (flows : EntryFlows s (w :: rest))
    (h : MarkClosing newest s.journal.written s.journal.noted (queuedSequences (w :: rest)))
    (hn : successor s.journal.written ∉ s.journal.noted) :
    MarkClosing newest (completeWrite s w).journal.written (completeWrite s w).journal.noted (queuedSequences rest) ∧
      successor (completeWrite s w).journal.written ∉ (completeWrite s w).journal.noted := by
  rcases hb : w.body with ⟨card, r, who⟩ | ⟨position, e⟩
  · obtain ⟨-, journal, -⟩ := completeWrite_card_leaves hp hb
    rw [journal]
    rw [queuedSequences, List.filterMap_cons_none (by simp only [hb])] at h
    exact ⟨h, hn⟩
  · have journal : (completeWrite s w).journal = markWritten e.seq s.journal := by rw [completeWrite_entry flows hb]; rfl
    rw [journal]
    rw [queuedSequences, List.filterMap_cons_some (b := e.seq) (by simp only [hb])] at h
    exact markClosing_markWritten h hn

/-- The written mark ends at the newest entry (R151). -/
theorem journal_drainWrites
    (h : MarkClosing s.journal.newest s.journal.written s.journal.noted (queuedSequences s.tmc.writes))
    (hn : successor s.journal.written ∉ s.journal.noted) :
    (drainWrites s).journal.written = s.journal.newest ∧ (drainWrites s).journal.noted = [] := by
  have done := drainWrites_induction
    (P := fun u rest => u.resetPending = true ∧ EntryFlows u rest ∧
      MarkClosing s.journal.newest u.journal.written u.journal.noted (queuedSequences rest) ∧
      successor u.journal.written ∉ u.journal.noted)
    (fun u w rest ⟨hu, flows, closing, next⟩ =>
      ⟨completeWrite_resetPending hu w, flows.step hu, markClosing_completeWrite hu flows closing next⟩)
    ⟨hp, fun _ => rfl, h, hn⟩
  obtain ⟨-, -, closing, next⟩ := done
  exact closing.closed next

/-! ## The restore -/

theorem quarantine_drainWrites (h : ∀ w ∈ s.tmc.writes, restoreWrite w = false) :
    (drainWrites s).tmc.quarantine = s.tmc.quarantine := by
  have done := drainWrites_induction
    (P := fun u rest => u.resetPending = true ∧ (∀ w ∈ rest, restoreWrite w = false) ∧
      u.tmc.quarantine = s.tmc.quarantine)
    (fun u w rest ⟨hu, noRestore, same⟩ =>
      ⟨completeWrite_resetPending hu w, fun v hv => noRestore v (List.mem_cons_of_mem _ hv),
        (congrArg Prod.snd (completeWrite_restoreParts hu w (noRestore w List.mem_cons_self))).trans same⟩)
    ⟨hp, h, rfl⟩
  exact done.2.2

end Drain

/-- The restore in progress has its card on the quarantine list until the one write that is left of a restored record has
completed, and then no more (R113). -/
def RestoreEnds (j : RestoreJob) (quarantine : List Nat) (s : State) (rest : List QueuedWrite) : Prop :=
  (∀ w ∈ rest, restoreWrite w = false) ∧ s.tmc.quarantine = quarantine.erase j.card ∨
  rest.countP restoreWrite = 1 ∧ (∃ w ∈ rest, writesCard j.card w = true ∧ restoreWrite w = true) ∧
    s.tmc.restore = some j ∧ s.tmc.quarantine = quarantine

theorem RestoreEnds.step {j : RestoreJob} {quarantine : List Nat} {s : State} (hp : s.resetPending = true)
    (written : j.written ≠ none) {w : QueuedWrite} {rest : List QueuedWrite} (flows : CardFlows j.card s (w :: rest))
    (h : RestoreEnds j quarantine s (w :: rest)) : RestoreEnds j quarantine (completeWrite s w) rest := by
  by_cases hr : restoreWrite w = true
  · obtain ⟨noRestore, -⟩ | ⟨one, ⟨v, hv, hc, hrv⟩, hj, rfl⟩ := h
    · rw [noRestore w List.mem_cons_self] at hr
      cases hr
    · rw [List.countP_cons_of_pos hr, Nat.succ_inj, List.countP_eq_zero] at one
      have noRestore : ∀ v ∈ rest, restoreWrite v = false := fun v hv => by simpa using one v hv
      obtain rfl | hv := List.mem_cons.1 hv
      · obtain ⟨r, who, hb⟩ := body_of_writesCard hc
        cases who with
        | restore =>
          have run : completeWrite s v = restoreWriteDone s := by simp only [completeWrite, hb]
          have oldest := oldestCardWrite_of_find (find?_of_filter_cons flows.queued hc) hb
          rw [run]
          exact .inl ⟨noRestore, congrArg Prod.snd (restoreWriteDone_ends hj written oldest).2⟩
        | serialiser | loadData | loadClear => simp [restoreWrite, hb] at hr
      · rw [noRestore v hv] at hrv
        cases hrv
  · have hr : restoreWrite w = false := by simpa using hr
    have same := completeWrite_restoreParts hp w hr
    obtain ⟨noRestore, erased⟩ | ⟨one, ⟨v, hv, hc, hrv⟩, hj, kept⟩ := h
    · exact .inl ⟨fun v hv => noRestore v (List.mem_cons_of_mem _ hv), (congrArg Prod.snd same).trans erased⟩
    · obtain rfl | hv := List.mem_cons.1 hv
      · rw [hr] at hrv
        cases hrv
      · rw [List.countP_cons_of_neg (by simp [hr])] at one
        exact .inr ⟨one, ⟨v, hv, hc, hrv⟩, (congrArg Prod.fst same).trans hj, (congrArg Prod.snd same).trans kept⟩

/-- The card whose restored record's write was queued leaves the quarantine list (R113, R139). -/
theorem quarantine_drainWrites_restore {s : State} (hp : s.resetPending = true) {j : RestoreJob}
    (hj : s.tmc.restore = some j) (waits : restoreWaits j.card s = true) (drains : restoresDrain s) :
    (drainWrites s).tmc.quarantine = s.tmc.quarantine.erase j.card := by
  obtain ⟨w, hw, hc, hr⟩ := restoreWaits_iff.1 waits
  have flows := cardFlows_of_restore (card := j.card) (.inr drains)
  obtain noRestore | ⟨one, i, hi, written, -⟩ := drains
  · rw [noRestore w hw] at hr
    cases hr
  · rw [hj, Option.some.injEq] at hi
    subst hi
    have done := drainWrites_induction
      (P := fun u rest => u.resetPending = true ∧ CardFlows j.card u rest ∧ RestoreEnds j s.tmc.quarantine u rest)
      (fun u w rest ⟨hu, flows, ends⟩ =>
        ⟨completeWrite_resetPending hu w, (flows.step hu).1, ends.step hu written flows⟩)
      ⟨hp, flows, .inr ⟨one, ⟨w, hw, hc, hr⟩, hj, rfl⟩⟩
    obtain ⟨-, -, ⟨-, erased⟩ | ⟨one, -⟩⟩ := done
    · exact erased
    · cases one

end Sys2Proof.Machine

/-! # The programs after the drain (R12, R137), and the engine reset's effect (R178) -/

namespace Sys2Proof.Machine

/-! ## The completion of a LOAD CLEAR's write -/

theorem clearOf_congr {s t : State} (h : t.tmc.clears = s.tmc.clears) (p : Nat) : clearOf p t = clearOf p s := by
  rw [clearOf, clearOf, h]

theorem program_of_clearOf {p : Nat} {s : State} {c : ClearJob} (h : clearOf p s = some c) : c.program = p := by
  simpa using List.find?_some h

theorem clearOf_updateClear (p q : Nat) (f : ClearJob → ClearJob) (hf : ∀ c, (f c).program = c.program) (s : State) :
    clearOf p (updateClear q f s) = (clearOf p s).map fun c => if p = q then f c else c := by
  have key : ((fun c : ClearJob => c.program == p) ∘ fun c => if c.program = q then f c else c) = fun c => c.program == p := by
    funext c
    simp only [Function.comp_apply]
    split <;> simp [hf]
  unfold clearOf updateClear
  refine List.find?_map.trans ?_
  rw [key]
  refine Option.map_congr fun c hc => ?_
  rw [show c.program = p by simpa using List.find?_some hc]

theorem clearOf_endClear (p : Nat) (c : ClearJob) (s : State) :
    clearOf p (endClear c s) = if p = c.program then none else clearOf p s := by
  have clears : (endClear c s).tmc.clears = s.tmc.clears.filter fun x => x.program != c.program := by
    rw [endClear, replyEnded_tmc]; rfl
  rw [clearOf, clears, List.find?_filter]
  split
  · next h => exact List.find?_eq_none.2 fun x _ => by simp [h]
  · next h =>
    refine congrArg (List.find? · _) (funext fun x => ?_)
    by_cases hx : x.program = p <;> simp [hx, h]

theorem programs_endClear (c : ClearJob) (s : State) :
    (endClear c s).programs = (s.setProgram c.program { s.program c.program with initialised := true }).programs := by
  rw [endClear, replyEnded_programs]
  rfl

/-- A LOAD CLEAR once one more of its writes has completed. -/
def oneMore (c : ClearJob) : ClearJob := { c with completed := c.completed + 1 }

/-- The last write of a LOAD CLEAR is the one that completes. -/
def lastOfClear (p : Nat) (s : State) : Prop := ∃ c, clearOf p s = some c ∧ c.completed + 1 = c.count

section ClearWrite
variable {q card : Nat} {r : CardRecord} {s : State}

theorem clearWriteDone_of_last (h : lastOfClear q s) :
    ∃ c, c.program = q ∧
      clearWriteDone q card r s =
        endClear c (updateClear q oneMore (storeCard card r s)) := by
  obtain ⟨c, hc, last⟩ := h
  have hc' : clearOf q (storeCard card r s) = some c := hc
  refine ⟨c, program_of_clearOf hc, ?_⟩
  simp only [clearWriteDone, hc', if_pos last]
  rfl

theorem clearWriteDone_of_not_last (h : ¬lastOfClear q s) :
    clearWriteDone q card r s = storeCard card r s ∧ clearOf q s = none ∨
      clearWriteDone q card r s = updateClear q oneMore (storeCard card r s) := by
  rcases hc : clearOf q s with _ | c
  · have hc' : clearOf q (storeCard card r s) = none := hc
    left
    simp only [clearWriteDone, hc', and_self]
  · have hc' : clearOf q (storeCard card r s) = some c := hc
    right
    simp only [clearWriteDone, hc', if_neg fun last => h ⟨c, hc, last⟩]
    rfl

theorem programs_clearWriteDone :
    (lastOfClear q s →
      (clearWriteDone q card r s).programs = (s.setProgram q { s.program q with initialised := true }).programs) ∧
    (¬lastOfClear q s → (clearWriteDone q card r s).programs = s.programs) := by
  refine ⟨fun h => ?_, fun h => ?_⟩
  · obtain ⟨c, rfl, run⟩ := clearWriteDone_of_last (card := card) (r := r) h
    rw [run, programs_endClear]
    rfl
  · obtain ⟨run, -⟩ | run := clearWriteDone_of_not_last (card := card) (r := r) h <;> rw [run] <;> rfl

theorem clearOf_clearWriteDone_other {p : Nat} (hp : p ≠ q) : clearOf p (clearWriteDone q card r s) = clearOf p s := by
  have updated : clearOf p (updateClear q oneMore (storeCard card r s)) =
      clearOf p s := by
    rw [clearOf_updateClear p q oneMore fun _ => rfl]
    simp only [if_neg hp, Option.map_id_fun']
    rfl
  by_cases h : lastOfClear q s
  · obtain ⟨c, rfl, run⟩ := clearWriteDone_of_last (card := card) (r := r) h
    rw [run, clearOf_endClear, if_neg hp, updated]
  · obtain ⟨run, -⟩ | run := clearWriteDone_of_not_last (card := card) (r := r) h <;> rw [run]
    · rfl
    · exact updated

theorem clearOf_clearWriteDone_same :
    (lastOfClear q s → clearOf q (clearWriteDone q card r s) = none) ∧
    (¬lastOfClear q s →
      clearOf q (clearWriteDone q card r s) = (clearOf q s).map oneMore) := by
  refine ⟨fun h => ?_, fun h => ?_⟩
  · obtain ⟨c, rfl, run⟩ := clearWriteDone_of_last (card := card) (r := r) h
    rw [run, clearOf_endClear, if_pos rfl]
  · obtain ⟨run, idle⟩ | run := clearWriteDone_of_not_last (card := card) (r := r) h <;> rw [run]
    · rw [idle]
      exact idle
    · rw [clearOf_updateClear q q oneMore fun _ => rfl]
      simp only [if_true]
      rfl

end ClearWrite

/-! ## The Program Table through the drain -/

/-- A completed write leaves the Program Table and the LOAD CLEARs, or is one of a LOAD CLEAR. -/
theorem completeWrite_clear_cases (s : State) (w : QueuedWrite) :
    clearParts (completeWrite s w) = clearParts s ∨ ∃ q card r, completeWrite s w = clearWriteDone q card r s := by
  rcases hb : w.body with ⟨card, r, _ | _ | q | _⟩ | ⟨position, e⟩
  case card.loadClear =>
    have run : completeWrite s w = clearWriteComplete card s := by simp only [completeWrite, hb]
    rw [run, clearWriteComplete]
    split
    · exact .inr ⟨_, _, _, rfl⟩
    · exact .inl rfl
  all_goals exact .inl (completeWrite_clearParts w fun p => by simp [clearWriteOf, hb])

theorem completeWrite_clear {s : State} {w : QueuedWrite} {p : Nat} (hw : clearWriteOf p w = true) {rest : List QueuedWrite}
    (flows : ∀ card, CardFlows card s (w :: rest)) : ∃ card r, completeWrite s w = clearWriteDone p card r s := by
  obtain ⟨id, body⟩ := w
  cases body with
  | journal position e => cases hw
  | card card r who =>
    cases who with
    | loadClear q =>
      obtain rfl : q = p := by simpa [clearWriteOf] using hw
      have oldest := oldestCardWrite_of_find (find?_of_filter_cons (flows card).queued (by simp [writesCard])) rfl
      exact ⟨card, r, by simp only [completeWrite, clearWriteComplete, oldest]⟩
    | serialiser | loadData | restore => cases hw

/-- The entries of the Program Table differ at most in `initialised`. -/
structure SameButInitialised (s t : State) : Prop where
  form : Tab.wfWith .initial t.programs = true
  entry : ∀ p, { t.program p with initialised := false } = { s.program p with initialised := false }

theorem completeWrite_sameButInitialised {s u : State} (h : SameButInitialised s u) (w : QueuedWrite) :
    SameButInitialised s (completeWrite u w) := by
  have same {t : State} (ht : t.programs = u.programs) : SameButInitialised s t :=
    ⟨by rw [ht]; exact h.form, fun p => by rw [program_congr ht]; exact h.entry p⟩
  obtain parts | ⟨q, card, r, run⟩ := completeWrite_clear_cases u w
  · exact same (congrArg Prod.fst parts)
  rw [run]
  obtain ⟨ended, not_ended⟩ := programs_clearWriteDone (q := q) (card := card) (r := r) (s := u)
  by_cases last : lastOfClear q u
  · refine ⟨by rw [ended last]; exact wfWith_setProgram h.form _ _, fun p => ?_⟩
    rw [program_congr (ended last), program_setProgram h.form]
    split
    · next hp => subst hp; exact h.entry p
    · exact h.entry p
  · exact same (not_ended last)

theorem program_clearWriteDone_other {s : State} (form : Tab.wfWith .initial s.programs = true) {p q : Nat} (hp : p ≠ q)
    (card : Nat) (r : CardRecord) : (clearWriteDone q card r s).program p = s.program p := by
  obtain ⟨ended, not_ended⟩ := programs_clearWriteDone (q := q) (card := card) (r := r) (s := s)
  by_cases last : lastOfClear q s
  · rw [program_congr (ended last), program_setProgram form, if_neg hp]
  · rw [program_congr (not_ended last)]

/-- A program with no LOAD CLEAR in progress keeps its entry. -/
theorem completeWrite_notClearing {s : State} (form : Tab.wfWith .initial s.programs = true) {p : Nat}
    (h : clearOf p s = none) (w : QueuedWrite) :
    clearOf p (completeWrite s w) = none ∧ (completeWrite s w).program p = s.program p := by
  obtain parts | ⟨q, card, r, run⟩ := completeWrite_clear_cases s w
  · rw [clearOf_congr (congrArg Prod.snd parts), program_congr (congrArg Prod.fst parts)]
    exact ⟨h, rfl⟩
  rw [run]
  by_cases hp : p = q
  · subst hp
    have going : ¬lastOfClear p s := fun ⟨c, hc, _⟩ => by rw [h] at hc; cases hc
    refine ⟨?_, program_congr (programs_clearWriteDone.2 going) p⟩
    rw [clearOf_clearWriteDone_same.2 going, h]
    rfl
  · exact ⟨(clearOf_clearWriteDone_other hp).trans h, program_clearWriteDone_other form hp card r⟩

/-- The next `n` writes of a LOAD CLEAR that complete are enough, and end it. -/
abbrev endsWithin (c : ClearJob) (n : Nat) : Prop := c.completed < c.count ∧ c.count ≤ c.completed + n

/-- The LOAD CLEAR of a program is in progress, and the writes that are left end it where `ends` says so, or it has ended. -/
def ClearRuns (p : Nat) (ends : Prop) (s : State) (rest : List QueuedWrite) : Prop :=
  (∃ c, clearOf p s = some c ∧ (endsWithin c (rest.countP (clearWriteOf p)) ↔ ends)) ∨
  (clearOf p s = none ∧ (s.program p).initialised = true ∧ ends)

section Runs
variable {p : Nat} {ends : Prop} {s : State} {w : QueuedWrite} {rest : List QueuedWrite}
  (form : Tab.wfWith .initial s.programs = true) (flows : ∀ card, CardFlows card s (w :: rest))
  (h : ClearRuns p ends s (w :: rest))
include form flows h

theorem ClearRuns.of_clearWrite (hw : clearWriteOf p w = true) : ClearRuns p ends (completeWrite s w) rest := by
  obtain ⟨card, r, run⟩ := completeWrite_clear hw flows
  obtain ⟨c, hc, iff⟩ | ⟨idle, initialised, yes⟩ := h
  · rw [List.countP_cons_of_pos hw] at iff
    rw [run]
    by_cases last : c.completed + 1 = c.count
    · have last' : lastOfClear p s := ⟨c, hc, last⟩
      refine .inr ⟨clearOf_clearWriteDone_same.1 last', ?_, iff.1 (by unfold endsWithin; omega)⟩
      rw [program_congr (programs_clearWriteDone.1 last'), program_setProgram form, if_pos rfl]
    · have going : ¬lastOfClear p s := by
        rintro ⟨d, hd, last'⟩
        rw [hc, Option.some.injEq] at hd
        exact last (hd ▸ last')
      refine .inl ⟨oneMore c, by rw [clearOf_clearWriteDone_same.2 going, hc]; rfl, ?_⟩
      rw [← iff]
      simp only [endsWithin, oneMore]
      omega
  · obtain ⟨idle, entry⟩ := completeWrite_notClearing form idle w
    exact .inr ⟨idle, by rw [entry]; exact initialised, yes⟩

theorem ClearRuns.of_other (hw : clearWriteOf p w = false) : ClearRuns p ends (completeWrite s w) rest := by
  have leaves : clearOf p (completeWrite s w) = clearOf p s ∧ (completeWrite s w).program p = s.program p := by
    by_cases other : ∃ q, clearWriteOf q w = true
    · obtain ⟨q, hq⟩ := other
      have hp : p ≠ q := by
        rintro rfl
        rw [hw] at hq
        cases hq
      obtain ⟨card, r, run⟩ := completeWrite_clear hq flows
      rw [run]
      exact ⟨clearOf_clearWriteDone_other hp, program_clearWriteDone_other form hp card r⟩
    · have parts := completeWrite_clearParts w (s := s) fun q => by simpa using not_exists.1 other q
      exact ⟨clearOf_congr (congrArg Prod.snd parts) p, program_congr (congrArg Prod.fst parts) p⟩
  obtain ⟨clear, entry⟩ := leaves
  rw [ClearRuns, List.countP_cons_of_neg (by simp [hw])] at h
  rwa [ClearRuns, clear, entry]

theorem ClearRuns.step : ClearRuns p ends (completeWrite s w) rest := by
  by_cases hw : clearWriteOf p w = true
  · exact h.of_clearWrite form flows hw
  · exact h.of_other form flows (by simpa using hw)

end Runs

section Drain
variable {s : State}

theorem drainWrites_sameButInitialised (form : Tab.wfWith .initial s.programs = true) :
    SameButInitialised s (drainWrites s) :=
  drainWrites_induction (P := fun u _ => SameButInitialised s u) (fun _ w _ h => completeWrite_sameButInitialised h w)
    ⟨form, fun _ => rfl⟩

theorem drainWrites_notClearing (form : Tab.wfWith .initial s.programs = true) {p : Nat} (h : clearOf p s = none) :
    clearOf p (drainWrites s) = none ∧ (drainWrites s).program p = s.program p := by
  have done := drainWrites_induction
    (P := fun u _ => SameButInitialised s u ∧ clearOf p u = none ∧ u.program p = s.program p)
    (fun u w _ ⟨same, idle, entry⟩ =>
      have ⟨idle', entry'⟩ := completeWrite_notClearing same.form idle w
      ⟨completeWrite_sameButInitialised same w, idle', entry'.trans entry⟩)
    ⟨⟨form, fun _ => rfl⟩, h, rfl⟩
  exact done.2

/-- Where every write can complete in its turn, the queued writes of a LOAD CLEAR end it or leave it in progress (R137). -/
theorem drainWrites_clearing (hp : s.resetPending = true) (form : Tab.wfWith .initial s.programs = true) {p : Nat}
    {c : ClearJob} (h : clearOf p s = some c) (drains : restoresDrain s) :
    (clearOf p (drainWrites s)).isSome = true ∧ ¬endsWithin c (s.tmc.writes.countP (clearWriteOf p)) ∨
    clearOf p (drainWrites s) = none ∧ ((drainWrites s).program p).initialised = true ∧
      endsWithin c (s.tmc.writes.countP (clearWriteOf p)) := by
  have done := drainWrites_induction
    (P := fun u rest => u.resetPending = true ∧ SameButInitialised s u ∧ (∀ card, CardFlows card u rest) ∧
      ClearRuns p (endsWithin c (s.tmc.writes.countP (clearWriteOf p))) u rest)
    (fun u w rest ⟨hu, same, flows, runs⟩ =>
      ⟨completeWrite_resetPending hu w, completeWrite_sameButInitialised same w, fun card => ((flows card).step hu).1,
        runs.step same.form flows⟩)
    ⟨hp, ⟨form, fun _ => rfl⟩, fun _ => cardFlows_of_restore (.inr drains), .inl ⟨c, h, .rfl⟩⟩
  obtain ⟨-, -, -, ⟨d, hd, iff⟩ | ended⟩ := done
  · refine .inl ⟨by rw [hd]; rfl, fun yes => ?_⟩
    have := iff.2 yes
    simp only [endsWithin, List.countP_nil] at this
    omega
  · exact .inr ended

end Drain

/-! ## The engine reset's effect -/

theorem abandoned_iff (p : Nat) (s : State) : (s.tmc.clears.any fun c => c.program == p) = (clearOf p s).isSome := by
  rw [clearOf, List.isSome_find?]

theorem storeUnit_engineValues (s : State) (l : StoreLink) : (engineValues s).storeUnit l = resetStore (s.storeUnit l) := by
  cases l <;> rfl

theorem linkUnit_engineValues (s : State) (l : Link) : (engineValues s).linkUnit l = resetLink (s.linkUnit l) := by
  cases l with
  | store l => cases l <;> rfl
  | central => rfl

theorem storeUnit_congr {s t : State} (h : t.stores = s.stores) (l : StoreLink) : t.storeUnit l = s.storeUnit l := by
  cases l <;> simp only [State.storeUnit, h]

theorem linkUnit_congr {s t : State} (hs : t.stores = s.stores) (hc : t.central = s.central) (l : Link) :
    t.linkUnit l = s.linkUnit l := by
  cases l with
  | store l => simp only [State.linkUnit, storeUnit_congr hs]
  | central => simp only [State.linkUnit, hc]

/-- The cache is empty after an engine reset (R126). -/
theorem wayAt_engineValues (s : State) (card w : Nat) :
    ((engineValues s).wayAt card w).valid = false ∧ ((engineValues s).wayAt card w).pinned = false := by
  have empty : (engineValues s).wayAt card w = wayOf .empty w := rfl
  rw [empty]
  unfold wayOf
  split <;> exact ⟨rfl, rfl⟩

theorem journal_eq_of_marks {j k : Journal} (h : { j with written := 0, noted := [] } = { k with written := 0, noted := [] }) :
    j = { k with written := j.written, noted := j.noted } := by
  cases j
  simp only [Journal.mk.injEq] at h ⊢
  tauto

theorem restoreWrite_eq_false {s : State} (h : ∀ card, restoreWaits card s = false) : ∀ w ∈ s.tmc.writes, restoreWrite w = false := by
  intro w hw
  rcases hb : w.body with ⟨card, r, who⟩ | ⟨position, e⟩
  · by_contra hr
    have waits := restoreWaits_iff (card := card).2 ⟨w, hw, by simp [writesCard, hb], by simpa using hr⟩
    rw [h card] at waits
    cases waits
  · simp only [restoreWrite, hb]

section Effect
variable {s : State}

theorem exec_engineResetEffect_waits (h : s.resetPending = false ∨ resetAnswerWaits s = true) :
    exec .engineResetEffect s = .next s := by
  refine congrArg _ (if_neg ?_)
  rw [Bool.and_eq_true, Bool.not_eq_true']
  rintro ⟨pending, sent⟩
  obtain h | h := h
  · rw [h] at pending; cases pending
  · rw [h] at sent; cases sent

theorem exec_engineResetEffect (hp : s.resetPending = true) (ha : resetAnswerWaits s = false) :
    exec .engineResetEffect s = .next (engineValues (drainWrites s)) :=
  congrArg _ (if_pos (by rw [hp, ha]; rfl))

/-- A Program Table entry after an engine reset (R12, R137). -/
theorem program_engineReset (hp : s.resetPending = true) (form : Tab.wfWith .initial s.programs = true) (p : Nat) :
    let e := s.program p
    let f := (engineValues (drainWrites s)).program p
    f.settings = e.settings ∧ f.openHolds = e.openHolds ∧ f.inFlight = 0 ∧ f.drainTarget = none ∧
      (e.status ≠ .draining → f.status = e.status) ∧
      (∀ d, e.status = .draining → e.drainTarget = some d → f.status = d) ∧
      (clearOf p s = none → f.initialised = e.initialised) ∧
      (∀ c, clearOf p s = some c → restoresDrain s →
        f.initialised = decide (c.completed < c.count ∧ c.count ≤ c.completed + s.tmc.writes.countP (clearWriteOf p))) := by
  obtain ⟨formed, entry⟩ := drainWrites_sameButInitialised form
  have entry := entry p
  simp only [ProgramEntry.mk.injEq] at entry
  obtain ⟨status, target, settings, -, holds, -⟩ := entry
  simp only [program_engineValues formed, resetEntry, abandoned_iff, status, target, settings, holds, true_and]
  refine ⟨fun hs => if_neg hs, fun d hs hd => ?_, fun idle => ?_, fun c hc drains => ?_⟩
  · rw [if_pos hs, hd]
    rfl
  · obtain ⟨idle, entry⟩ := drainWrites_notClearing form idle
    rw [idle, entry]
    simp
  · obtain ⟨going, no⟩ | ⟨ended, yes, ends⟩ := drainWrites_clearing hp form hc drains
    · rw [going, decide_eq_false no]
      simp
    · rw [ended, yes, decide_eq_true ends]
      rfl

end Effect

/-- Settles O5: the queued writes complete, then each block takes its engine-reset values. -/
theorem engineResetTakesEffect : Obligations.EngineResetTakesEffect := by
  intro s
  refine ⟨exec_engineResetEffect_waits, fun hp ha form slotForm => ⟨_, exec_engineResetEffect hp ha, rfl, ?_⟩⟩
  have parts := drainWrites_drainParts hp
  simp only [drainParts, Prod.mk.injEq] at parts
  obtain ⟨stores, central, promotions, slots, freeList, expiryList, time, watch, day, resetN, tblen, -, pending, powerOns,
    corrected, journal⟩ := parts
  refine ⟨fun l => ?_, fun l => ?_, rfl, rfl, rfl, wayAt_engineValues _, fun n => rfl, program_engineReset hp form, fun n => ?_,
    ?_, ?_, rfl, rfl, rfl, rfl, corrected, fun noRestore => ?_, fun j hj waits drains => ?_, fun card flows => ?_,
    find_ring_drainWrites hp, ?_, fun n _ perm next reach => ?_, promotions, freeList, expiryList, time, resetN, tblen, pending,
    powerOns⟩
  · rw [linkUnit_engineValues, linkUnit_congr stores central]
    rfl
  · rw [storeUnit_engineValues, storeUnit_congr stores]
    exact ⟨rfl, rfl⟩
  · rw [slot_engineValues (by rw [slots]; exact slotForm), slot_congr slots]
    rfl
  · change ({ clearedStatus (drainWrites s).watch with park := [] } : WatchUnit) = _
    rw [watch]
    rfl
  · change resetMgmt (drainWrites s).mgmt = _
    rw [resetMgmt, day]
  · exact quarantine_drainWrites hp (restoreWrite_eq_false noRestore)
  · exact quarantine_drainWrites_restore hp hj waits drains
  · exact find_cards_drainWrites hp flows
  · change (drainWrites s).journal = { s.journal with
      written := (drainWrites s).journal.written, noted := (drainWrites s).journal.noted }
    exact journal_eq_of_marks journal
  · exact journal_drainWrites hp ⟨n, perm, reach⟩ next

end Sys2Proof.Machine

/-! # Every step keeps the limits -/

namespace Sys2Proof.Machine

/-! ## The limits of each block -/

/-- The Busy Card List stands within its sizes (R25, R26). -/
def BusyWithin (l : List BusyEntry) : Prop :=
  l.length ≤ 256 ∧ l.Pairwise (fun a b => a.card ≠ b.card) ∧ ∀ e ∈ l, e.waiting.length ≤ 8 ∧ e.writes ≤ 65535

/-- A Store Link Unit stands within its limits (R153, R161 to R163). -/
structure StoreWithin (u : StoreUnit) : Prop where
  intake : u.intake.length ≤ 64
  dropped : u.link.dropped ≤ 65535
  active : paceAllowed u.pacer.active
  staged : paceAllowed u.pacer.staged
  sent : u.pacer.sent ≤ 15

/-- The Central Link Unit stands within its limits (R153, R166). -/
def CentralWithin (u : CentralUnit) : Prop := u.fifo.length ≤ 16 ∧ u.link.dropped ≤ 65535

/-- The quarantine list and the correctable-error count stand within their limits (R134, R136). -/
def TmcWithin (t : Tmc) : Prop := (t.quarantine.length ≤ 32 ∧ t.quarantine.Nodup) ∧ t.corrected ≤ 65535

/-- The journal's counts stand within their ranges (R142, R143). -/
def JournalWithin (j : Journal) : Prop :=
  j.occupancy ≤ 1048576 ∧ j.position < 1048576 ∧ (1 ≤ j.next ∧ j.next ≤ 4294967295) ∧ (1 ≤ j.oldest ∧ j.oldest ≤ 4294967295)

/-- The timebase stands within its ranges (R68). -/
def TimeWithin (t : Timebase) : Prop :=
  t.divider ≤ 24999 ∧ t.milliseconds ≤ 999 ∧ t.secondPhase ≤ 59 ∧ t.seconds ≤ 4294967295 ∧ t.minutes ≤ 4294967295

/-- The Watch Unit stands within its limits (R116, R119, R120). -/
structure WatchWithin (w : WatchUnit) : Prop where
  park : Tab.wf w.park = true ∧ ∀ e ∈ w.park, e.1 < 16
  hits : w.status0.count ≤ 65535 ∧ w.status1.count ≤ 65535 ∧ w.status2.count ≤ 65535 ∧ w.status3.count ≤ 65535
  timeout : 1 ≤ w.timeout ∧ w.timeout ≤ 60

/-- The day, the access level and the return size stand within their ranges (R95, R168, R169). -/
def MgmtWithin (tblen : Bool) (m : Mgmt) : Prop :=
  m.day ≤ 65535 ∧ m.level ≤ 2 ∧ (tblen = false → m.level ≤ 1) ∧ 1 ≤ m.returnSize ∧ m.returnSize ≤ 64

/-- The Card Cache has its canonical form and 1,024 sets (R127). -/
def CacheWithin (c : Tab CacheSet) : Prop := Tab.wfWith .empty c = true ∧ ∀ e ∈ c, e.1 < 1024

/-- The Promotion Table has its canonical form and 64 entries (R88). -/
def PromotionsWithin (t : Tab Promotion) : Prop := Tab.wfWith .initial t = true ∧ ∀ e ∈ t, e.1 < 64

/-- Every part of the state but the timebase stands within its limits, and the timebase meets `T`: a tick moves the timebase
past its ranges before the work of the longer tick brings it back (R68). -/
structure Within (T : Timebase → Prop) (s : State) : Prop where
  programs : Tab.wfWith .initial s.programs = true
  promotions : PromotionsWithin s.promotions
  slots : Tab.wfWith .initial s.slots = true
  cache : CacheWithin s.cache
  cards : Tab.wf s.cards = true
  ring : Tab.wf s.ring = true
  busy : BusyWithin s.busy
  stores : ∀ l, StoreWithin (s.storeUnit l)
  central : CentralWithin s.central
  blocked : s.dispatcher.blocked.Nodup
  tmc : TmcWithin s.tmc
  journal : JournalWithin s.journal
  time : T s.time
  watch : WatchWithin s.watch
  mgmt : MgmtWithin s.tblen s.mgmt

theorem withinLimits_iff {s : State} : WithinLimits s ↔ Within TimeWithin s := by
  constructor
  · intro h
    exact
      { h with
        stores := fun l =>
          ⟨h.queues.1 l, h.counts.2 (.store l), (h.pacers l).1, (h.pacers l).2.1, (h.pacers l).2.2⟩
        central := ⟨h.queues.2, h.counts.2 .central⟩
        tmc := ⟨h.quarantine, h.counts.1⟩
        watch := ⟨h.park, h.hits, h.timeout⟩
        mgmt := ⟨h.day, h.access⟩ }
  · intro h
    exact
      { h with
        park := h.watch.park
        hits := h.watch.hits
        timeout := h.watch.timeout
        queues := ⟨fun l => (h.stores l).intake, h.central.1⟩
        quarantine := h.tmc.1
        counts := ⟨h.tmc.2, fun l => match l with
          | .store k => (h.stores k).dropped
          | .central => h.central.2⟩
        day := h.mgmt.1
        access := h.mgmt.2
        pacers := fun l => ⟨(h.stores l).active, (h.stores l).staged, (h.stores l).sent⟩ }

/-! ## One rule for each update of a field -/

section Updates
variable {T : Timebase → Prop} {s : State} (h : Within T s)
include h

theorem Within.withPending (v : List Instr) : Within T (s.withPending v) := { h with programs := h.programs }

theorem Within.withResetN (v : Bool) : Within T (s.withResetN v) := { h with programs := h.programs }

theorem Within.withResetPending (v : Bool) : Within T (s.withResetPending v) := { h with programs := h.programs }

theorem Within.withFreeList (v : List Nat) : Within T (s.withFreeList v) := { h with programs := h.programs }

theorem Within.withExpiryList (v : List Nat) : Within T (s.withExpiryList v) := { h with programs := h.programs }

theorem Within.withBusy {v : List BusyEntry} (hv : BusyWithin v) : Within T (s.withBusy v) := { h with busy := hv }

theorem Within.withDispatcher {v : Dispatcher} (hv : v.blocked.Nodup) : Within T (s.withDispatcher v) :=
  { h with blocked := hv }

theorem Within.withPrograms {v : Tab ProgramEntry} (hv : Tab.wfWith .initial v = true) : Within T (s.withPrograms v) :=
  { h with programs := hv }

theorem Within.withPromotions {v : Tab Promotion} (hv : PromotionsWithin v) : Within T (s.withPromotions v) :=
  { h with promotions := hv }

theorem Within.withSlots {v : Tab HoldSlot} (hv : Tab.wfWith .initial v = true) : Within T (s.withSlots v) :=
  { h with slots := hv }

theorem Within.withCache {v : Tab CacheSet} (hv : CacheWithin v) : Within T (s.withCache v) := { h with cache := hv }

theorem Within.withTmc {v : Tmc} (hv : TmcWithin v) : Within T (s.withTmc v) := { h with tmc := hv }

theorem Within.withCards {v : Tab CardRecord} (hv : Tab.wf v = true) : Within T (s.withCards v) :=
  { h with cards := hv }

theorem Within.withRing {v : Tab JournalEntry} (hv : Tab.wf v = true) : Within T (s.withRing v) := { h with ring := hv }

theorem Within.withJournal {v : Journal} (hv : JournalWithin v) : Within T (s.withJournal v) := { h with journal := hv }

theorem Within.withWatch {v : WatchUnit} (hv : WatchWithin v) : Within T (s.withWatch v) := { h with watch := hv }

theorem Within.withMgmt {v : Mgmt} (hv : MgmtWithin s.tblen v) : Within T (s.withMgmt v) := { h with mgmt := hv }

theorem Within.withStores {v : StoreUnits} (hv : ∀ l, StoreWithin (storeUnitOf v l)) : Within T (s.withStores v) :=
  { h with stores := hv }

theorem Within.withCentral {v : CentralUnit} (hv : CentralWithin v) : Within T (s.withCentral v) :=
  { h with central := hv }

theorem Within.withTime {T' : Timebase → Prop} {v : Timebase} (hv : T' v) : Within T' (s.withTime v) := { h with time := hv }

end Updates

/-! ## Lists and tables -/

theorem wf_insert {α : Type} {t : Tab α} {key : Nat} {v : α} (h : Tab.wf t = true) : Tab.wf (Tab.insert t key v) = true :=
  Tab.rising_insert key v h

theorem mem_set {α : Type} [DecidableEq α] {initial : α} {t : Tab α} {key : Nat} {v : α} {e : Nat × α}
    (h : e ∈ Tab.set initial t key v) : e = (key, v) ∨ e ∈ t := by
  unfold Tab.set at h
  split at h
  · exact .inr (Tab.mem_erase h)
  · exact Tab.mem_insert h

theorem CacheWithin.set {t : Tab CacheSet} (h : CacheWithin t) {n : Nat} (hn : n < 1024) (c : CacheSet) :
    CacheWithin (Tab.set .empty t n c) := by
  refine ⟨Tab.wfWith_set n c h.1, fun e he => ?_⟩
  rcases mem_set he with rfl | he
  · exact hn
  · exact h.2 e he

theorem CacheWithin.update {t : Tab CacheSet} (h : CacheWithin t) (f : Nat → CacheSet → CacheSet) :
    CacheWithin (Tab.update .empty f t) := by
  refine ⟨Tab.wfWith_update f h.1, fun e he => ?_⟩
  obtain ⟨-, v, hv, -⟩ := Tab.mem_update he
  exact h.2 (e.1, v) hv

theorem PromotionsWithin.set {t : Tab Promotion} (h : PromotionsWithin t) {n : Nat} (hn : n < 64) (v : Promotion) :
    PromotionsWithin (Tab.set .initial t n v) := by
  refine ⟨Tab.wfWith_set n v h.1, fun e he => ?_⟩
  rcases mem_set he with rfl | he
  · exact hn
  · exact h.2 e he

theorem saturating_le (n m : Nat) : saturating n m ≤ 65535 := Nat.min_le_left _ _

/-- A change of the entries of a card that keeps their card and their sizes (R25). -/
theorem BusyWithin.map {l : List BusyEntry} (h : BusyWithin l) {card : Nat} {f : BusyEntry → BusyEntry}
    (hc : ∀ x, (f x).card = x.card)
    (hf : ∀ x ∈ l, x.card = card → (f x).waiting.length ≤ 8 ∧ (f x).writes ≤ 65535) :
    BusyWithin (l.map fun e => if e.card = card then f e else e) := by
  have same : ∀ x : BusyEntry, (if x.card = card then f x else x).card = x.card := fun x => by split <;> simp [hc]
  refine ⟨by simpa using h.1, ?_, fun e he => ?_⟩
  · exact List.pairwise_map.2 (h.2.1.imp fun {a b} hab => by rwa [same, same])
  · obtain ⟨x, hx, rfl⟩ := List.mem_map.1 he
    split
    · exact hf x hx ‹_›
    · exact h.2.2 x hx

theorem BusyWithin.filter {l : List BusyEntry} (h : BusyWithin l) (p : BusyEntry → Bool) : BusyWithin (l.filter p) :=
  ⟨(List.length_filter_le p l).trans h.1, h.2.1.filter p, fun e he => h.2.2 e (List.mem_of_mem_filter he)⟩

/-- A new entry of a card that has none. -/
theorem BusyWithin.concat {l : List BusyEntry} (h : BusyWithin l) {e : BusyEntry} (room : l.length < 256)
    (new : ∀ x ∈ l, x.card ≠ e.card) (he : e.waiting.length ≤ 8 ∧ e.writes ≤ 65535) : BusyWithin (l ++ [e]) := by
  refine ⟨by simpa using room, ?_, fun x hx => ?_⟩
  · exact List.pairwise_append.2 ⟨h.2.1, List.pairwise_singleton _ _, fun a ha b hb => List.mem_singleton.1 hb ▸ new a ha⟩
  · rcases List.mem_append.1 hx with hx | hx
    · exact h.2.2 x hx
    · exact List.mem_singleton.1 hx ▸ he

/-! ## Link units -/

theorem storeUnitOf_setStoreUnitOf (u : StoreUnits) (l k : StoreLink) (v : StoreUnit) :
    storeUnitOf (setStoreUnitOf u l v) k = if k = l then v else storeUnitOf u k := by
  cases l <;> cases k <;> rfl

/-- The unit of a store link once that of one is replaced. -/
theorem storeUnit_setStoreUnit (s : State) (l k : StoreLink) (v : StoreUnit) :
    (s.setStoreUnit l v).storeUnit k = if k = l then v else s.storeUnit k :=
  storeUnitOf_setStoreUnitOf s.stores l k v

theorem handTo_dropped {u : LinkUnit} (h : u.dropped ≤ 65535) (p : OutParcel) : (handTo u p).dropped ≤ 65535 := by
  unfold handTo
  split
  · exact h
  · split
    · exact saturating_le _ _
    · exact h

section Units
variable {T : Timebase → Prop} {s : State} (h : Within T s)
include h

theorem Within.setStoreUnit (l : StoreLink) {v : StoreUnit} (hv : StoreWithin v) : Within T (s.setStoreUnit l v) := by
  refine h.withStores fun k => ?_
  rw [storeUnitOf_setStoreUnitOf]
  split
  · exact hv
  · exact h.stores k

theorem Within.setLinkUnit (l : Link) {v : LinkUnit} (hv : v.dropped ≤ 65535) : Within T (s.setLinkUnit l v) := by
  cases l with
  | store k => exact h.setStoreUnit k { h.stores k with dropped := hv }
  | central => exact h.withCentral ⟨h.central.1, hv⟩

theorem Within.linkDropped : ∀ l, (s.linkUnit l).dropped ≤ 65535
  | .store l => (h.stores l).dropped
  | .central => h.central.2

theorem handStore_within (l : StoreLink) (p : OutParcel) : Within T (handStore l p s) :=
  h.setLinkUnit _ (handTo_dropped (h.stores l).dropped p)

theorem handCentral_within (p : OutParcel) : Within T (handCentral p s) :=
  h.setLinkUnit .central (handTo_dropped (h.central.2) p)

theorem reply_within (code tag : Nat) (result : MgmtResult) : Within T (reply code tag result s) := handCentral_within h _

theorem startCommand_within (code tag : Nat) : Within T (startCommand code tag s) := h.withMgmt h.mgmt

theorem endCommand_within (code tag : Nat) : Within T (endCommand code tag s) := h.withMgmt h.mgmt

theorem replyStarted_within (code tag : Nat) (result : MgmtResult) : Within T (replyStarted code tag result s) :=
  reply_within (endCommand_within h code tag) code tag result

theorem replyEnded_within (code tag : Nat) (result : MgmtResult) : Within T (replyEnded code tag result s) := by
  unfold replyEnded
  split
  · exact endCommand_within h code tag
  · exact replyStarted_within h code tag result

theorem sendNotice_within : Within T (sendNotice s) := handCentral_within h _

theorem raiseNotice_within (k : NoticeKind) (overflow : Bool) : Within T (raiseNotice k overflow s) := by
  have raised (p q : BitVec 8) : Within T (s.withMgmt { s.mgmt with pending := p, qualifiers := q }) :=
    h.withMgmt (v := { s.mgmt with pending := p, qualifiers := q }) h.mgmt
  unfold raiseNotice
  dsimp only
  generalize (if overflow then overflowMask k else 0#8) = qualifier
  split
  · exact sendNotice_within (raised _ _)
  · exact raised _ _

theorem answerBare_within (t : TillRequest) (o : TillOutcome) : Within T (answerBare t o s) := handStore_within h _ _

theorem answerTaken_within (t : TillRequest) (o : TillOutcome) (repeated : Bool) (approved : Option Nat)
    (holdRef : Option HoldRef) (journalSeq : Option Nat) (shown : CardRecord) :
    Within T (answerTaken t o repeated approved holdRef journalSeq shown s) := handStore_within h _ _

theorem answerDrop_within (dropTag : Option Nat) (result : MgmtResult) : Within T (answerDrop dropTag result s) := by
  cases dropTag with
  | none => exact h
  | some tag => exact replyStarted_within h _ tag result

/-! ## Table memory and the journal -/

theorem queueWrite_within (body : WriteBody) : Within T (queueWrite body s) := h.withTmc h.tmc

theorem queueRead_within (body : ReadBody) : Within T (queueRead body s) := h.withTmc h.tmc

theorem countCorrected_within (n : Nat) : Within T (countCorrected n s) :=
  h.withTmc ⟨h.tmc.1, saturating_le _ _⟩

theorem storeCard_within (card : Nat) (r : CardRecord) : Within T (storeCard card r s) :=
  (h.withCards (wf_insert h.cards)).withTmc h.tmc

/-- An append to a journal with a free entry (R142, R143). -/
theorem appendJournal_within (e : JournalEntry) (free : journalFree s ≠ 0) : Within T (appendJournal e s) := by
  obtain ⟨-, -, next, oldest⟩ := h.journal
  have room : s.journal.occupancy + 1 ≤ 1048576 := by simp only [journalFree, ringSize] at free; omega
  have marks : 1 ≤ successor s.journal.next ∧ successor s.journal.next ≤ 4294967295 := by
    unfold successor counterMax; split <;> omega
  have queued := fun b => queueWrite_within (h.withJournal (v := { s.journal with
    next := successor s.journal.next
    oldest := if s.journal.occupancy = 0 then s.journal.next else s.journal.oldest
    newest := s.journal.next
    occupancy := s.journal.occupancy + 1
    position := (s.journal.position + 1) % ringSize })
    ⟨room, Nat.mod_lt _ (by decide), marks, by dsimp only; split; exacts [next, oldest]⟩) b
  simp only [appendJournal]
  split
  · exact raiseNotice_within (queued _) _ _
  · split
    · exact raiseNotice_within (queued _) _ _
    · exact queued _

/-! ## Programs, slots and the Card Cache -/

theorem Within.setProgram (p : Nat) (e : ProgramEntry) : Within T (s.setProgram p e) :=
  h.withPrograms (wfWith_setProgram h.programs p e)

theorem Within.setSlot (n : Nat) (v : HoldSlot) : Within T (s.setSlot n v) := h.withSlots (wfWith_setSlot h.slots n v)

theorem Within.setCacheSet (card : Nat) (c : CacheSet) : Within T (s.setCacheSet (setOf card) c) :=
  h.withCache (CacheWithin.set h.cache (Nat.mod_lt _ (by decide)) c)

theorem Within.setWayAt (card w : Nat) (v : Way) : Within T (s.setWayAt card w v) := h.setCacheSet card _

theorem invalidateCard_within (card : Nat) : Within T (invalidateCard card s) := by
  unfold invalidateCard
  split
  · exact h
  · exact h.setWayAt card _ _

theorem countIn_within (p : Option Nat) : Within T (countIn p s) := by
  cases p with
  | none => exact h
  | some n => exact h.setProgram n _

theorem countOut_within (p : Option Nat) : Within T (countOut p s) := by
  cases p with
  | none => exact h
  | some n => simp only [countOut]; split <;> exact h.setProgram n _

theorem unissue_within (card : Nat) (ref : HoldRef) : Within T (unissue card ref s) := by
  simp only [unissue]
  split
  · exact h.setSlot _ _
  · exact h

theorem allocateHold_within (p n : Nat) (v : HoldSlot) : Within T (allocateHold p n v s) :=
  (((h.setSlot n v).withFreeList _).withExpiryList _).setProgram p _

theorem closeHold_within (card n : Nat) (reason : CloseReason) (paidReturn bonusReturn ceiling : Nat) (r : CardRecord) :
    Within T (closeHold card n reason paidReturn bonusReturn ceiling s r).st :=
  (((h.setSlot n _).withExpiryList _).withFreeList _).setProgram _ _

/-! ## The Busy Card List -/

/-- A card has one busy entry (R25). -/
theorem Within.eq_of_busyOf {card : Nat} {e x : BusyEntry} (he : s.busyOf card = some e) (hx : x ∈ s.busy)
    (hc : x.card = card) : x = e :=
  List.inj_on_of_nodup_map (List.pairwise_map.2 h.busy.2.1) hx (List.mem_of_find?_eq_some he) (hc.trans (busyOf_card he).symm)

/-- A change of a card's entry that keeps its card and adds neither to its waiting list nor to its writes. -/
theorem updateBusy_within (card : Nat) {f : BusyEntry → BusyEntry} (hc : ∀ x, (f x).card = x.card)
    (hw : ∀ x, (f x).waiting.length ≤ x.waiting.length) (hn : ∀ x, (f x).writes ≤ x.writes) :
    Within T (updateBusy card f s) :=
  h.withBusy <| h.busy.map hc fun x hx _ =>
    ⟨(hw x).trans (h.busy.2.2 x hx).1, (hn x).trans (h.busy.2.2 x hx).2⟩

theorem takeWay_within {card w : Nat} {t : State} (ht : takeWay card s = some (w, t)) : Within T t := by
  obtain ⟨v, -, hv⟩ := Option.map_eq_some_iff.1 ht
  cases hv
  exact h.setCacheSet card _

theorem startFetch_within (card : Nat) : Within T (startFetch s card) := by
  unfold startFetch
  split
  · exact h
  · refine queueRead_within (updateBusy_within (takeWay_within h ‹_›) card ?_ ?_ ?_) _
    exacts [fun _ => rfl, fun _ => le_rfl, fun _ => le_rfl]

end Units

theorem Within.foldl {T : Timebase → Prop} {α : Type} {f : State → α → State} (hf : ∀ s a, Within T s → Within T (f s a)) (l : List α)
    {s : State} (h : Within T s) : Within T (l.foldl f s) := by
  induction l generalizing s with
  | nil => exact h
  | cons a l ih => exact ih (hf s a h)

section Busy
variable {T : Timebase → Prop} {s : State} (h : Within T s)
include h

theorem startWaiting_within (set : Nat) : Within T (startWaiting set s) :=
  h.foldl (fun _ card h => startFetch_within h card) _

theorem freeEntry_within (card : Nat) : Within T (freeEntry card s) := by
  unfold freeEntry
  split
  · exact h
  · have removed := h.withBusy (h.busy.filter fun x => x.card != card)
    refine startWaiting_within (Within.withDispatcher ?_ List.nodup_nil) _
    split
    · exact removed
    · exact removed.setWayAt card _ _

theorem freeIfDone_within (card : Nat) : Within T (freeIfDone card s) := by
  unfold freeIfDone
  split
  · exact h
  · split
    · exact freeEntry_within h card
    · exact h

/-- A new entry of a card that has none, in a list with room (R26). -/
theorem newEntry_within (it : Item) (none : s.busyOf it.card = none) (room : s.busy.length < 256) :
    Within T (newEntry it s) := by
  have new : ∀ x ∈ s.busy, x.card ≠ it.card := by simpa [State.busyOf] using none
  have joins (t : State) (ht : Within T t) (hb : t.busy = s.busy) (state : EntryState) (way : Option Nat) :
      Within T (t.withBusy (t.busy ++
        [{ card := it.card, state := state, current := .none, waiting := [it], writes := 0, way := way }])) := by
    rw [hb]
    exact ht.withBusy (h.busy.concat room new ⟨Nat.le_add_left 1 7, Nat.zero_le _⟩)
  simp only [newEntry]
  split
  · exact joins _ (h.setWayAt it.card _ _) rfl _ _
  · split
    · rename_i ht
      obtain ⟨v, -, hv⟩ := Option.map_eq_some_iff.1 ht
      cases hv
      exact queueRead_within (joins _ (takeWay_within h ht) rfl _ _) _
    · exact joins s h rfl _ _

theorem handOver_within (it : Item) : Within T (handOver it s).2 := by
  unfold handOver
  split
  · exact h
  · split
    · rename_i e he
      split
      · exact h
      · rename_i room
        refine countIn_within (h.withBusy (h.busy.map ?_ fun x hx hcard => ?_)) _
        · exact fun _ => rfl
        · obtain rfl := h.eq_of_busyOf he hx hcard
          simp only [waitingListSize, Nat.not_le] at room
          exact ⟨by simpa using room, (h.busy.2.2 x hx).2⟩
    · split
      · exact h
      · exact countIn_within (newEntry_within h it ‹_› (Nat.not_le.1 ‹_›)) _

end Busy

/-! ## The end of a decision event -/

/-- A journal above its reserve has a free entry (R145). -/
theorem journalFree_of_above_reserve {s : State} (free : ¬journalFree s ≤ journalReserve) : journalFree s ≠ 0 := by
  unfold journalReserve at free; omega

/-- A CARD WRITE that changes value passes its checks only where the journal has a free entry (R110). -/
theorem journalFree_of_cardWrite_passes {c : Settings} {s : State} {held : Bool} {r : CardRecord} {f : CardWriteFields}
    (h : cardWriteRefusal c s held r f = none) (moves : f.paid ≠ r.paid ∨ f.bonus ≠ r.bonus) : journalFree s ≠ 0 := by
  intro full
  unfold cardWriteRefusal at h
  rw [if_pos (⟨moves, full⟩ : _ ∧ _)] at h
  split_ifs at h

theorem emptyParkId_lt {w : WatchUnit} {id : Nat} (h : emptyParkId w = some id) : id < 16 :=
  List.mem_range.1 (List.mem_of_find?_eq_some h)

section Decisions
variable {T : Timebase → Prop} {s : State} (h : Within T s)
include h

theorem settleRecord_within (card : Nat) (before after : CardRecord) : Within T (settleRecord card before after s) := by
  simp only [settleRecord]
  split
  · exact h
  · split
    · exact h
    · have counted (t : State) (ht : Within T t) :
          Within T (updateBusy card (fun x => { x with writes := raisedWrites s x.writes }) t) :=
        ht.withBusy (ht.busy.map (fun _ => rfl) fun x hx _ => ⟨(ht.busy.2.2 x hx).1, raisedWrites_le s x.writes⟩)
      refine queueWrite_within (counted _ ?_) _
      split
      · exact h.setWayAt card _ _
      · exact h

theorem finishItem_within (it : Item) (before after : CardRecord) : Within T (finishItem it before after s) :=
  freeIfDone_within (countOut_within (settleRecord_within h it.card before after) _) _

/-! ## The decisions -/

/-- The roll appends its entry where the journal has a free one (R35, R99). -/
theorem applyRoll_within {card : Nat} {r r' : CardRecord} {s' : State} (hr : applyRoll card s r = .applied s' r') :
    Within T s' := by
  simp only [applyRoll] at hr
  split at hr
  · cases hr; exact h
  · split at hr
    · split at hr
      · cases hr
      · cases hr; exact appendJournal_within h _ ‹_›
    · cases hr; exact h

theorem rolledFor_within (card : Nat) (r : CardRecord) : Within T (rolledFor card s r).1 := by
  unfold rolledFor
  split
  · exact applyRoll_within h ‹_›
  · exact h

theorem declineVerify_within (before after : CardRecord) : Within T (declineVerify s before after).st := by
  show Within T (if after.state = before.state then s else raiseNotice .cardSuspended false s)
  split
  · exact h
  · exact raiseNotice_within h _ _

theorem decideRedeem_within (card p : Nat) (t : TillRequest) (r : CardRecord) : Within T (decideRedeem card p t s r).st := by
  simp only [decideRedeem]
  split
  · exact h
  · split
    · exact declineVerify_within h _ _
    · split
      · exact h
      · split
        · exact h
        · split
          · exact h
          · exact appendJournal_within h _ (journalFree_of_above_reserve ‹_›)

theorem decideHold_within (card p : Nat) (t : TillRequest) (r : CardRecord) : Within T (decideHold card p t s r).st := by
  simp only [decideHold]
  split
  · exact h
  · split
    · exact declineVerify_within h _ _
    · split
      · exact h
      · split
        · exact h
        · split
          · exact h
          · split
            · exact h
            · rename_i free
              split
              · exact h
              · exact appendJournal_within (allocateHold_within h p _ _) _ (journalFree_of_above_reserve free)

theorem decideComplete_within (card p : Nat) (t : TillRequest) (r : CardRecord) :
    Within T (decideComplete card p t s r).st := by
  simp only [decideComplete]
  split
  · exact h
  · split
    · exact h
    · exact h
    · split
      · exact h
      · split
        · exact h
        · exact appendJournal_within (closeHold_within h ..) _ ‹_›

theorem decideRelease_within (card p : Nat) (t : TillRequest) (r : CardRecord) :
    Within T (decideRelease card p t s r).st := by
  simp only [decideRelease]
  split
  · exact h
  · split
    · exact h
    · exact h
    · split
      · exact h
      · exact appendJournal_within (closeHold_within h ..) _ ‹_›

theorem loadSteps_within (kind : JournalKind) (card p : Nat) (t : TillRequest) (r : CardRecord) :
    Within T (loadSteps kind card p t s r).st := by
  simp only [loadSteps]
  split
  · exact h
  · split
    · exact h
    · split
      · exact h
      · exact appendJournal_within h _ (journalFree_of_above_reserve ‹_›)

theorem undoHold_within (card : Nat) (ref : HoldRef) (hold : HoldSlot) (ceiling : Nat) (r : CardRecord) :
    Within T (undoHold card ref hold ceiling s r).st :=
  closeHold_within h card ref.slot .release hold.paidPart hold.bonusPart ceiling r

/-- What a reversal settles keeps the limits, and the journal as it stands has a free entry (R101). -/
theorem undo_within {card p : Nat} {x : RecentRef} {r : CardRecord} {v : Reversed} (hu : undo card p x s r = .ok v) :
    Within T v.st ∧ journalFree v.st ≠ 0 := by
  simp only [undo] at hu
  split at hu
  · split at hu <;> cases hu
    exact ⟨h, ‹_›⟩
  · split at hu <;> cases hu
    exact ⟨h, ‹_›⟩
  · split at hu
    · split at hu <;> cases hu
      exact ⟨undoHold_within h .., ‹_›⟩
    · cases hu
    · cases hu
  iterate 2
    split at hu
    · cases hu
    · split at hu <;> cases hu
      exact ⟨h, ‹_›⟩
  all_goals cases hu

theorem decideReverse_within (card p : Nat) (t : TillRequest) (r : CardRecord) :
    Within T (decideReverse card p t s r).st := by
  unfold decideReverse
  split
  · exact h
  · split
    · exact h
    · split
      · exact h
      · obtain ⟨settled, free⟩ := undo_within h ‹_›
        exact appendJournal_within settled _ free

theorem decideTill_within (card p : Nat) (t : TillRequest) (r shown : CardRecord) :
    Within T (decideTill card p t s r shown).st := by
  unfold decideTill
  split
  · exact h
  · unfold decideActivate; split
    · exact h
    · exact loadSteps_within h ..
  · unfold decideLoad; split
    · exact h
    · exact loadSteps_within h ..
  · exact decideRedeem_within h ..
  · exact decideHold_within h ..
  · exact decideComplete_within h ..
  · exact decideRelease_within h ..
  · exact decideReverse_within h ..
  · exact h

/-! ## The takings at a card -/

theorem decideStep_within (it : Item) (t : TillRequest) (before r shown : CardRecord) :
    Within T (decideStep it t before s r shown) :=
  finishItem_within (answerTaken_within (decideTill_within h ..) ..) it before _

theorem recordHits_within (m : BitVec 4) (card : Nat) : WatchWithin (recordHits m card s.watch) := by
  obtain ⟨hit0, hit1, hit2, hit3⟩ := h.watch.hits
  have hit {b : Bool} {w : WatchStatus} (hw : w.count ≤ 65535) : (recordHit b card w).count ≤ 65535 := by
    unfold recordHit
    split
    · exact saturating_le _ _
    · exact hw
  exact ⟨h.watch.park, ⟨hit hit0, hit hit1, hit hit2, hit hit3⟩, h.watch.timeout⟩

theorem parkItem_within (it : Item) {id : Nat} (hid : id < 16) (matched parking : BitVec 4) (before after : CardRecord) :
    Within T (parkItem it id matched parking before after s) := by
  have parked (e : ParkEntry) : Within T (s.withWatch { s.watch with park := Tab.insert s.watch.park id e }) := by
    refine h.withWatch ⟨⟨wf_insert h.watch.park.1, fun x hx => ?_⟩, h.watch.hits, h.watch.timeout⟩
    rcases Tab.mem_insert hx with rfl | hx
    · exact hid
    · exact h.watch.park.2 x hx
  refine raiseNotice_within (updateBusy_within (settleRecord_within (parked _) ..) it.card ?_ ?_ ?_) _ _
  exacts [fun _ => rfl, fun _ => le_rfl, fun _ => le_rfl]

theorem watchStep_within (it : Item) (t : TillRequest) (before r shown : CardRecord) :
    Within T (watchStep it t before s r shown) := by
  simp only [watchStep]
  have hit := raiseNotice_within (h.withWatch (recordHits_within h (matchMask s.watch it.card t.kind) it.card)) .watchHit false
  split
  · exact decideStep_within h ..
  · split
    · exact decideStep_within hit ..
    · split
      · exact parkItem_within hit it (emptyParkId_lt ‹_›) ..
      · exact finishItem_within (raiseNotice_within (answerTaken_within hit ..) _ _) ..

theorem rollStep_within (it : Item) (t : TillRequest) (r : CardRecord) : Within T (rollStep it t s r) := by
  unfold rollStep
  split
  · exact watchStep_within (applyRoll_within h ‹_›) ..
  · split
    · exact watchStep_within h ..
    · exact finishItem_within (answerTaken_within h ..) ..

theorem takeTillItem_within (it : Item) (t : TillRequest) (r : CardRecord) : Within T (takeTillItem it t s r) := by
  unfold takeTillItem
  split
  · exact finishItem_within (answerTaken_within h ..) ..
  · split
    · refine finishItem_within ?_ ..
      split <;> exact answerTaken_within h ..
    · exact rollStep_within h ..

theorem takeLapse_within (it : Item) (ref : HoldRef) (dropTag : Option Nat) (r : CardRecord) :
    Within T (takeLapse it ref dropTag s r) := by
  unfold takeLapse
  split
  · exact finishItem_within (answerDrop_within (unissue_within h ..) ..) ..
  · have rolled := applyRoll_within h ‹_›
    dsimp only
    split
    · split
      · exact finishItem_within (answerDrop_within (unissue_within rolled ..) ..) ..
      · exact finishItem_within (answerDrop_within (appendJournal_within (closeHold_within rolled ..) _ ‹_›) ..) ..
    · exact finishItem_within (answerDrop_within rolled ..) ..

theorem takeCardWrite_within (it : Item) (tag : Nat) (f : CardWriteFields) (r : CardRecord) :
    Within T (takeCardWrite it tag f s r) := by
  have rolled := rolledFor_within h it.card r
  simp only [takeCardWrite]
  split
  · exact finishItem_within (replyStarted_within rolled ..) ..
  · rename_i passes
    split
    · exact finishItem_within (replyStarted_within rolled ..) ..
    · rename_i moves
      have free := journalFree_of_cardWrite_passes passes (not_and_or.1 moves)
      exact finishItem_within (replyStarted_within (appendJournal_within rolled _ free) ..) ..

theorem takeItem_within (it : Item) : Within T (takeItem it s) := by
  simp only [takeItem]
  split
  · exact h
  · split
    · exact takeTillItem_within h ..
    · exact takeLapse_within h ..
    · exact finishItem_within (replyStarted_within (rolledFor_within h ..) ..) ..
    · exact finishItem_within (replyStarted_within (rolledFor_within h ..) ..) ..
    · exact finishItem_within (replyStarted_within (rolledFor_within h ..) ..) ..
    · exact takeCardWrite_within h ..

theorem takeHead_within (named : Item → Bool) (card : Nat) : Within T (takeHead named card s) := by
  unfold takeHead
  split
  · split
    · refine takeItem_within (updateBusy_within h card ?_ ?_ ?_) _
      exacts [fun _ => rfl, fun _ => by simp, fun _ => le_rfl]
    · exact h
  · exact h

end Decisions

section Blocks
variable {T : Timebase → Prop} {s : State} (h : Within T s)
include h

/-! ## The Dispatcher -/

theorem handOver_eq_within {it : Item} {s' : State} {v : HandOver} (hv : handOver it s = (v, s')) : Within T s' := by
  simpa only [hv] using handOver_within h it

theorem answerWithdrawn_within (it : Item) : Within T (answerWithdrawn s it) := by
  unfold answerWithdrawn
  split
  · exact countOut_within (answerBare_within h _ _) _
  all_goals exact h

/-- A parked card's entry is ACTIVE again and its park entry gone (R36, R38, R122). -/
theorem unparked_within {w : Tab ParkEntry} (hw : Tab.wf w = true ∧ ∀ e ∈ w, e.1 < 16) (card : Nat) :
    Within T (updateBusy card (fun x => { x with state := .active, current := none })
      (s.withWatch { s.watch with park := w })) := by
  refine updateBusy_within ?_ card (fun _ => rfl) (fun _ => le_rfl) fun _ => le_rfl
  exact h.withWatch ⟨hw, h.watch.hits, h.watch.timeout⟩

theorem withdrawCurrent_within (card : Nat) (target : Option Item) : Within T (withdrawCurrent card target s) := by
  cases target with
  | none => exact h
  | some it =>
    refine answerWithdrawn_within (unparked_within h ⟨Tab.rising_filter _ h.watch.park.1, fun e he => ?_⟩ card) it
    exact h.watch.park.2 e (List.mem_of_mem_filter he)

theorem withdrawTargets_within (t : TillRequest) (card : Nat) (e : BusyEntry) : Within T (withdrawTargets t card e s) := by
  refine freeIfDone_within (answerBare_within (Within.foldl (fun _ it h => answerWithdrawn_within h it) _ ?_) _ _) card
  refine updateBusy_within (withdrawCurrent_within h card _) card ?_ ?_ ?_
  exacts [fun _ => rfl, fun x => List.length_filter_le _ _, fun _ => le_rfl]

theorem dispatchItem_within {t : TillRequest} {p card : Nat} {s' : State} (hd : dispatchItem t p card s = .consumed s') :
    Within T s' := by
  unfold dispatchItem at hd
  split at hd <;> cases hd
  · exact handOver_eq_within h ‹_›
  · exact answerBare_within h _ _
  · exact answerBare_within h _ _

theorem dispatchWithdraw_within {t : TillRequest} {p card : Nat} {s' : State}
    (hd : dispatchWithdraw t p card s = .consumed s') : Within T s' := by
  simp only [dispatchWithdraw] at hd
  split at hd
  · exact dispatchItem_within h hd
  · split at hd
    · cases hd; exact withdrawTargets_within h ..
    · split at hd
      · cases hd; exact answerBare_within h _ _
      · exact dispatchItem_within h hd

theorem forward_within (q : Request) (t : TillRequest) : Within T (forward q t s) := by
  unfold forward
  split
  · exact handCentral_within h _
  · exact answerBare_within h _ _

theorem dispatchLive_within {t : TillRequest} {p card : Nat} {s' : State} (hd : dispatchLive t p card s = .consumed s') :
    Within T s' := by
  unfold dispatchLive at hd
  split at hd
  · cases hd; exact answerBare_within h _ _
  · split at hd
    · cases hd; exact answerBare_within h _ _
    · split at hd
      · exact dispatchWithdraw_within h hd
      · exact dispatchItem_within h hd

theorem dispatchRequest_within {q : Request} {s' : State} (hd : dispatchRequest q s = .consumed s') : Within T s' := by
  unfold dispatchRequest at hd
  split at hd
  · cases hd; exact handStore_within h _ _
  · split at hd
    · cases hd; exact forward_within h ..
    · split at hd
      · cases hd; exact forward_within h ..
      · split at hd
        · cases hd; exact answerBare_within h _ _
        · exact dispatchLive_within h hd

theorem popIntake_within (l : StoreLink) : Within T (popIntake l s) := by
  have u := h.stores l
  exact h.setStoreUnit l { u with intake := by simpa using Nat.le_succ_of_le u.intake }

theorem blockLink_within (l : StoreLink) : Within T (blockLink l s) := by
  unfold blockLink
  split
  · exact h
  · rename_i new
    exact h.withDispatcher (List.nodup_append_comm.2 (List.nodup_cons.2 ⟨by simpa using new, h.blocked⟩))

theorem dispatchFrom_within (l : StoreLink) : Within T (dispatchFrom l s) := by
  have served : Within T (s.withDispatcher { s.dispatcher with last := l }) := h.withDispatcher h.blocked
  simp only [dispatchFrom]
  split
  · exact h
  · split
    · exact popIntake_within (dispatchRequest_within served ‹_›) l
    · exact blockLink_within served l

theorem dispatchNext_within : Within T (dispatchNext s) := by
  unfold dispatchNext
  split
  · split
    · exact dispatchFrom_within h _
    · exact h
  · exact h

/-! ## The links -/

theorem recordError_within (l : Link) (k : LinkError) : Within T (recordError l k s) := by
  simp only [recordError]
  split
  · exact h
  · refine raiseNotice_within ?_ _ _
    exact h.setLinkUnit l (h.linkDropped l)

theorem recordCorrected_within (l : Link) (corrected : Bool) : Within T (recordCorrected l corrected s) := by
  unfold recordCorrected
  split
  · exact recordError_within h _ _
  · exact h

theorem Within.setPacer (l : StoreLink) {p : Pacer} (active : paceAllowed p.active) (staged : paceAllowed p.staged)
    (sent : p.sent ≤ 15) : Within T (s.setPacer l p) :=
  h.setStoreUnit l { h.stores l with active := active, staged := staged, sent := sent }

theorem pacerArrival_within (l : StoreLink) : Within T (pacerArrival l s) := by
  have u := h.stores l
  simp only [pacerArrival]
  split
  · refine handStore_within ?_ _ _
    exact h.setPacer l u.active u.staged (Nat.le_add_left 1 14)
  · exact h

/-- The staged settings become active at the expiry (R162, R163). -/
theorem pacerExpire_within (l : StoreLink) : Within T (pacerExpire l s) := by
  have u := h.stores l
  simp only [pacerExpire]
  split
  · exact h
  · exact h.setPacer l u.staged u.staged u.sent
  · split
    · refine handStore_within ?_ _ _
      exact h.setPacer l u.staged u.staged (Nat.min_le_left _ _)
    · exact h.setPacer l u.staged u.staged (Nat.zero_le _)

theorem pacerTick_within (l : StoreLink) : Within T (pacerTick l s) := by
  have u := h.stores l
  simp only [pacerTick]
  split
  · exact h
  · split
    · exact pacerExpire_within h l
    · exact h.setPacer l u.active u.staged u.sent

theorem joinIntake_within (l : StoreLink) (q : Request) : Within T (joinIntake l q s) := by
  simp only [joinIntake]
  split
  · exact handStore_within h _ _
  · rename_i room
    refine pacerArrival_within ?_ l
    refine h.setStoreUnit l { h.stores l with intake := ?_ }
    simpa [intakeSize] using room

theorem joinFifo_within (c : MgmtCommand) : Within T (joinFifo c s) := by
  unfold joinFifo
  split
  · exact reply_within h ..
  · rename_i room
    exact h.withCentral ⟨by simpa [fifoSize] using room, h.central.2⟩

theorem handOn_within (l : Link) (n : Nat) (payload : List Byte) : Within T (handOn l n payload s) := by
  unfold handOn
  split
  · split
    · exact joinIntake_within h ..
    · exact recordError_within h ..
  · split
    · exact handStore_within h ..
    · split
      · exact joinFifo_within h ..
      · exact recordError_within h ..

theorem receiveFramed_within (l : Link) (n : Nat) (bytes : List Byte) : Within T (receiveFramed l n bytes s) := by
  unfold receiveFramed
  split
  · exact h
  · split
    · exact recordError_within h ..
    · split
      · exact recordError_within h ..
      · exact handOn_within h ..

theorem receive_within (l : Link) (bytes : List Byte) : Within T (receive l bytes s) := by
  unfold receive
  split
  · exact h
  · split
    · exact recordError_within h ..
    · exact recordError_within (recordCorrected_within h ..) ..
    · exact receiveFramed_within (recordCorrected_within h ..) ..

theorem sendParcel_within (l : Link) : Within T (sendParcel l s) := by
  simp only [sendParcel]
  split
  · exact h
  · split
    · exact h.setLinkUnit l (h.linkDropped l)
    · exact h

theorem carrierOn_within (l : Link) : Within T (carrierOn l s) := by
  have raised : Within T (s.setLinkUnit l { s.linkUnit l with up := true }) := h.setLinkUnit l (h.linkDropped l)
  simp only [carrierOn]
  split
  · exact h
  · split
    · exact raised
    · split
      · exact sendNotice_within raised
      · exact raised

theorem carrierOff_within (l : Link) : Within T (carrierOff l s) := by
  simp only [carrierOff]
  split
  · exact h
  · split
    · exact h.setLinkUnit .central (saturating_le _ _)
    · rename_i k _
      have u := h.stores k
      refine Within.withDispatcher ?_ (h.blocked.filter _)
      exact h.setStoreUnit k ⟨Nat.zero_le _, saturating_le _ _, u.active, u.staged, Nat.zero_le _⟩

/-! ## The timebase -/

theorem referParked_within (id : Nat) (p : ParkEntry) : Within T (referParked id p s) := by
  have opened := unparked_within h (w := Tab.erase s.watch.park id)
    ⟨Tab.rising_erase id h.watch.park.1, fun e he => h.watch.park.2 e (Tab.mem_erase he)⟩ p.card
  refine freeIfDone_within (countOut_within ?_ _) p.card
  split
  · exact answerTaken_within opened ..
  · exact opened

theorem watchTimeouts_within : Within T (watchTimeouts s) := by
  simp only [watchTimeouts]
  split
  · exact h
  · exact raiseNotice_within (h.foldl (fun _ e h => referParked_within h e.1 e.2) _) _ _

theorem makeDue_within (n : Nat) : Within T (makeDue s n) := h.setSlot n _

theorem dueHolds_within : Within T (dueHolds s) := (h.foldl (fun _ n h => makeDue_within h n) _).withExpiryList _

theorem issueLapse_within (n : Nat) : Within T (issueLapse s n) := by
  simp only [issueLapse]
  split
  · exact (handOver_eq_within h ‹_›).setSlot n _
  · exact h

theorem issueLapses_within : Within T (issueLapses s) := by
  unfold issueLapses
  split
  · exact h.foldl (fun _ n h => issueLapse_within h n) _
  · exact h

end Blocks

/-- Where the timebase comes back into its ranges, every part of the state stands within its limits. -/
theorem Within.mono {T T' : Timebase → Prop} {s : State} (h : Within T s) (ht : T' s.time) : Within T' s :=
  { h with time := ht }

theorem TimeWithin.newSecond {t : Timebase} (h : TimeWithin t) : TimeWithin { t with milliseconds := 0 } := by
  obtain ⟨divider, -, rest⟩ := h
  exact ⟨divider, Nat.zero_le _, rest⟩

theorem TimeWithin.newMinute {t : Timebase} (h : TimeWithin t) : TimeWithin { t with secondPhase := 0 } := by
  obtain ⟨divider, milliseconds, -, rest⟩ := h
  exact ⟨divider, milliseconds, Nat.zero_le _, rest⟩

/-- The minute tick starts a minute anew, also where the sixtieth second has been counted (R68). -/
theorem minuteTick_within {T : Timebase → Prop} {s : State} (h : Within T s)
    (started : TimeWithin { s.time with secondPhase := 0 }) : Within TimeWithin (minuteTick s) := by
  obtain ⟨divider, milliseconds, phase, seconds, minutes⟩ := started
  unfold minuteTick
  split
  · exact h.withTime ⟨divider, milliseconds, phase, seconds, minutes⟩
  · rename_i more
    refine issueLapses_within (dueHolds_within (h.withTime ⟨divider, milliseconds, phase, seconds, ?_⟩))
    simp only [counterMax] at minutes more ⊢
    omega

/-- The second tick starts a second anew, also where the thousandth millisecond has been counted (R68). -/
theorem secondTick_within {T : Timebase → Prop} {s : State} (h : Within T s)
    (started : TimeWithin { s.time with milliseconds := 0 }) : Within TimeWithin (secondTick s) := by
  obtain ⟨divider, milliseconds, phase, seconds, minutes⟩ := started
  have more (full : s.time.seconds ≠ counterMax) : s.time.seconds + 1 ≤ 4294967295 := by
    simp only [counterMax] at seconds full ⊢
    omega
  simp only [secondTick]
  split
  · exact h.withTime ⟨divider, milliseconds, phase, seconds, minutes⟩
  · rename_i full
    have ticked := watchTimeouts_within (h.withTime (T' := (· = { s.time with
      milliseconds := 0, seconds := s.time.seconds + 1, secondPhase := s.time.secondPhase + 1 })) rfl)
    split
    · refine minuteTick_within ticked ?_
      rw [ticked.time]
      exact ⟨divider, milliseconds, Nat.zero_le _, more full, minutes⟩
    · refine ticked.mono ?_
      rw [ticked.time]
      exact ⟨divider, milliseconds, Nat.not_le.1 ‹_›, more full, minutes⟩

theorem millisecondTick_within {s : State} (h : Within TimeWithin s) : Within TimeWithin (millisecondTick s) := by
  obtain ⟨-, milliseconds, phase, seconds, minutes⟩ := h.time
  have ticked := pacerTick_within (pacerTick_within (pacerTick_within (pacerTick_within
    (h.withTime (T' := (· = { s.time with divider := 0, milliseconds := s.time.milliseconds + 1 })) rfl) .s0) .s1) .s2) .s3
  simp only [millisecondTick]
  split
  · refine secondTick_within ticked ?_
    rw [ticked.time]
    exact ⟨Nat.zero_le _, Nat.zero_le _, phase, seconds, minutes⟩
  · refine ticked.mono ?_
    rw [ticked.time]
    exact ⟨Nat.zero_le _, Nat.not_le.1 ‹_›, phase, seconds, minutes⟩

theorem clockCycle_within {s : State} (h : Within TimeWithin s) : Within TimeWithin (clockCycle s) := by
  obtain ⟨-, milliseconds, phase, seconds, minutes⟩ := h.time
  unfold clockCycle
  split
  · exact millisecondTick_within h
  · exact h.withTime ⟨Nat.not_le.1 ‹_›, milliseconds, phase, seconds, minutes⟩


/-- A number that stands in a command's fields has no more bytes than its range needs (R181). -/
theorem oneNumber_lt {max n : Nat} {bs : List Byte} (h : oneNumber max bs = some n) : n < 256 ^ byteWidth max := by
  unfold oneNumber takeNum takeNumber at h
  split at h
  · cases h
  · cases h
    refine (leNat_lt _).trans_le (Nat.pow_le_pow_right (by decide) ?_)
    simp

theorem watchWithin_setWatchSlot {w : WatchUnit} (h : WatchWithin w) (n : Nat) (v : WatchSlot) : WatchWithin (setWatchSlot w n v) := by
  unfold setWatchSlot
  split <;> exact ⟨h.park, h.hits, h.timeout⟩

theorem clampPace_allowed (p : PacerSettings) : paceAllowed (clampPace p) := by
  unfold paceAllowed clampPace clamp
  dsimp only
  split <;> omega

section Memory
variable {T : Timebase → Prop} {s : State} (h : Within T s)
include h

/-! ## DRAM reads and writes -/

theorem takeRead_within {b : ReadBody} {s' : State} (ht : takeRead b s = some s') : Within T s' := by
  unfold takeRead at ht
  split at ht
  · cases ht
  · split at ht <;> cases ht
    exact h.withTmc h.tmc

theorem takeReads_within {bs : List ReadBody} {s' : State} (ht : takeReads bs s = some s') : Within T s' := by
  induction bs generalizing s with
  | nil => cases ht; exact h
  | cons b bs ih =>
    simp only [takeReads] at ht
    split at ht
    · cases ht
    · exact ih (takeRead_within h ‹_›) ht

/-- A card joins the quarantine list only where it is not on it and the list has room (R136). -/
theorem quarantineRule_within (card : Nat) (mayList : Bool) : Within T (quarantineRule card mayList s) := by
  unfold quarantineRule
  split
  · exact raiseNotice_within h _ _
  · rename_i out
    split
    · rename_i room
      have new : card ∉ s.tmc.quarantine := by
        intro listed
        simp [quarantined_iff.2 listed] at out
      have listed : TmcWithin { s.tmc with quarantine := s.tmc.quarantine ++ [card] } :=
        ⟨⟨by simpa [quarantineSize] using room,
          List.nodup_append_comm.2 (List.nodup_cons.2 ⟨by simpa using new, h.tmc.1.2⟩)⟩, h.tmc.2⟩
      exact raiseNotice_within (invalidateCard_within (h.withTmc listed) card) _ _
    · exact raiseNotice_within h _ _

theorem dismissItem_within (it : Item) : Within T (dismissItem s it) := by
  refine countOut_within ?_ _
  split
  · exact answerBare_within h ..
  · exact answerDrop_within (unissue_within h ..) ..
  all_goals exact replyStarted_within h ..

/-- A fetched record stands in its way and its entry is ACTIVE (R28). -/
theorem activated_within (card way : Nat) (v : Way) :
    Within T (updateBusy card (fun x => { x with state := .active }) (s.setWayAt card way v)) :=
  updateBusy_within (h.setWayAt card way v) card (fun _ => rfl) (fun _ => le_rfl) fun _ => le_rfl

theorem fetchData_within (card : Nat) (corrected : Bool) : Within T (fetchData card corrected s) := by
  simp only [fetchData]
  split
  · exact h
  · have taken := takeRead_within h ‹_›
    have counted := countCorrected_within taken 1
    cases corrected with
    | false =>
      split
      · exact taken
      · exact activated_within taken ..
    | true =>
      split
      · exact counted
      · exact activated_within counted ..

theorem fetchLost_within (card : Nat) : Within T (fetchLost card s) := by
  simp only [fetchLost]
  split
  · exact h
  · have ruled := quarantineRule_within (takeRead_within h ‹_›) card true
    split
    · exact ruled
    · exact freeEntry_within (ruled.foldl (fun _ it h => dismissItem_within h it) _) card

theorem cardWriteDone_within (card : Nat) : Within T (cardWriteDone card s) := by
  unfold cardWriteDone
  split
  · refine freeIfDone_within (updateBusy_within (storeCard_within h card _) card ?_ ?_ ?_) card
    exacts [fun _ => rfl, fun _ => le_rfl, fun _ => Nat.sub_le _ _]
  · exact storeCard_within h ..
  all_goals exact h

theorem journalWriteDone_within (seq : Nat) : Within T (journalWriteDone seq s) := by
  unfold journalWriteDone
  split
  · exact h
  · split
    · exact h
    · have marked : JournalWithin (markWritten seq s.journal) := by
        unfold markWritten
        split <;> exact h.journal
      exact ((h.withRing (wf_insert h.ring)).withJournal marked).withTmc h.tmc

/-! ## Loads, clears and restores -/

theorem queueLoadWrite_within (p card : Nat) (r : CardRecord) (who : CardWriter) :
    Within T (queueLoadWrite p card r who s) := by
  have queued := invalidateCard_within (queueWrite_within h (.card card r who)) card
  exact queued.withPrograms (Tab.wfWith_update _ queued.programs)

theorem updateClear_within (p : Nat) (f : ClearJob → ClearJob) : Within T (updateClear p f s) := h.withTmc h.tmc

theorem clearQueueNext_within (p : Nat) : Within T (clearQueueNext p s) := by
  unfold clearQueueNext
  split
  · exact h
  · split
    · exact updateClear_within (queueLoadWrite_within h ..) ..
    · exact h

theorem endClear_within (c : ClearJob) : Within T (endClear c s) := by
  refine replyEnded_within (Within.setProgram ?_ _ _) _ _ _
  exact h.withTmc h.tmc

theorem clearWriteComplete_within (card : Nat) : Within T (clearWriteComplete card s) := by
  unfold clearWriteComplete
  split
  · have stored := storeCard_within h card ‹_›
    simp only [clearWriteDone]
    split
    · exact stored
    · split
      · exact endClear_within (updateClear_within stored ..) _
      · exact updateClear_within stored ..
  · exact h

theorem refuseRestore_within (job : RestoreJob) (reason : Reason) : Within T (refuseRestore job reason s) :=
  replyStarted_within (h.withTmc (v := { s.tmc with restore := none }) h.tmc) _ _ _

theorem scanEnd_within : Within T (scanEnd s) := by
  unfold scanEnd
  split
  · exact h
  · split
    · simp only [completeScan]
      split
      · exact refuseRestore_within h ..
      · split
        · exact refuseRestore_within h ..
        · have appended := fun e => appendJournal_within h e ‹_›
          refine Within.withTmc (queueWrite_within (appended _) _) ?_
          exact (appended _).tmc
    · exact h

theorem restoreWriteDone_within : Within T (restoreWriteDone s) := by
  unfold restoreWriteDone
  split
  · exact h
  · split
    · refine replyEnded_within (Within.withTmc (storeCard_within h ..) ?_) _ _ _
      exact ⟨⟨List.length_erase_le.trans h.tmc.1.1, h.tmc.1.2.erase _⟩, h.tmc.2⟩
    · exact h

/-! ## The Management Unit's reads -/

theorem endRead_within (code tag : Nat) (result : MgmtResult) : Within T (endRead code tag result s) :=
  reply_within (h.withMgmt (v := { s.mgmt with reading := none }) h.mgmt) _ _ _

theorem directDone_within (outcome : ReadOutcome) : Within T (directDone outcome s) := by
  simp only [directDone]
  split
  · split
    · exact h
    · have taken := takeRead_within h ‹_›
      cases outcome with
      | data => exact endRead_within taken ..
      | corrected => exact endRead_within (countCorrected_within taken 1) ..
      | uncorrectable => exact endRead_within (quarantineRule_within taken ..) ..
  · exact h

theorem journalReadDone_within (outcomes : List ReadOutcome) : Within T (journalReadDone outcomes s) := by
  simp only [journalReadDone]
  split
  · split
    · split
      · exact h
      · have counted := countCorrected_within (takeReads_within h ‹_›) (correctedIn outcomes)
        split
        · exact endRead_within (raiseNotice_within counted ..) ..
        · exact endRead_within counted ..
    · exact h
  · exact h

theorem movePointer_within (pointer : Nat) : Within T (movePointer pointer s) := h.withMgmt h.mgmt

theorem loadFetchDone_within (outcomes : List ReadOutcome) : Within T (loadFetchDone outcomes s) := by
  simp only [loadFetchDone]
  split
  · split
    · split
      · exact h
      · have moved := fun p => movePointer_within (countCorrected_within (takeReads_within h ‹_›) (correctedIn outcomes)) p
        split
        · exact endRead_within (quarantineRule_within (moved _) ..) ..
        · exact endRead_within (moved _) ..
    · exact h
  · exact h

end Memory


section Commands
variable {T : Timebase → Prop} {s : State} (h : Within T s)
include h

/-! ## The taking of a command -/

theorem popCommand_within : Within T (popCommand s) :=
  h.withCentral ⟨by simpa using Nat.le_succ_of_le h.central.1, h.central.2⟩

theorem takeCommand_within {rule : MgmtCommand → State → State} (hr : ∀ c s, Within T s → Within T (rule c s)) (code : Nat) :
    Within T (takeCommand code rule s) := by
  unfold takeCommand
  split
  · exact h
  · split
    · split
      · exact reply_within (popCommand_within h) ..
      · exact hr _ _ (popCommand_within h)
    · exact h

theorem takeAtOnce_within {rule : List Byte → State → State × MgmtResult}
    (hr : ∀ fields s, Within T s → Within T (rule fields s).1) (code : Nat) :
    Within T (takeCommand code (atOnce rule) s) :=
  takeCommand_within h (fun c s h => reply_within (hr c.fields s h) ..) code

theorem startItem_within (code tag : Nat) (it : Item) : Within T (startItem code tag it s) := by
  unfold startItem
  split
  · exact startCommand_within (handOver_eq_within h ‹_›) ..
  all_goals exact reply_within h ..

theorem foldl_queueRead_within (l : List ReadBody) : Within T (l.foldl (fun s b => queueRead b s) s) :=
  h.foldl (fun _ b h => queueRead_within h b) l

/-! ## The commands not answered at once -/

theorem cardRead_within (c : MgmtCommand) : Within T (cardRead c s) := by
  unfold cardRead
  split
  · exact reply_within h ..
  · split
    · exact startItem_within h ..
    · refine queueRead_within (h.withMgmt ?_) _
      exact h.mgmt

theorem cardCorrection_within (c : MgmtCommand) (name : Option CardName) (body : ItemBody) :
    Within T (cardCorrection c name body s) := by
  unfold cardCorrection
  split
  · exact reply_within h ..
  · split
    · exact reply_within h ..
    · exact startItem_within h ..

theorem cardWrite_within (c : MgmtCommand) : Within T (cardWrite c s) := by
  unfold cardWrite
  split
  · exact reply_within h ..
  · exact cardCorrection_within h ..

theorem journalRead_within (c : MgmtCommand) : Within T (journalRead c s) := by
  simp only [journalRead]
  split
  · exact reply_within h ..
  · split
    · exact reply_within h ..
    · split
      · exact reply_within h ..
      · refine foldl_queueRead_within (h.withMgmt ?_) _
        exact h.mgmt

theorem watchRelease_within (c : MgmtCommand) : Within T (watchRelease c s) := by
  simp only [watchRelease]
  split
  · exact reply_within h ..
  · split
    · exact reply_within h ..
    · split
      · exact reply_within h ..
      · split
        · have answered := reply_within h c.code c.tag
          split
          · refine takeItem_within (unparked_within (answered _) ⟨Tab.rising_erase _ h.watch.park.1, fun e he => ?_⟩ _) _
            exact h.watch.park.2 e (Tab.mem_erase he)
          · exact referParked_within (answered _) ..
        · exact reply_within h ..

theorem noticeEnable_within (c : MgmtCommand) : Within T (noticeEnable c s) := by
  simp only [noticeEnable]
  split
  · exact reply_within h ..
  · rename_i mask _
    have answered := reply_within (h.withMgmt (v := { s.mgmt with enabled := mask }) h.mgmt) c.code c.tag (.done [mask])
    split
    · exact sendNotice_within answered
    · exact answered

theorem dropDue_within (n : Nat) : Within T (dropDue n s) := by
  unfold dropDue
  split
  · exact (makeDue_within h n).withExpiryList _
  · exact h

theorem issueDrop_within (c : MgmtCommand) (ref : HoldRef) : Within T (issueDrop c ref s) := by
  simp only [issueDrop]
  split
  · exact startCommand_within ((handOver_eq_within h ‹_›).setSlot ..) ..
  all_goals exact reply_within h ..

theorem holdDrop_within (c : MgmtCommand) : Within T (holdDrop c s) := by
  simp only [holdDrop]
  split
  · exact reply_within h ..
  · split
    · exact issueDrop_within (dropDue_within h _) ..
    · exact reply_within h ..

theorem cardRestore_within (c : MgmtCommand) : Within T (cardRestore c s) := by
  unfold cardRestore
  split
  · exact reply_within h ..
  · split
    · exact reply_within h ..
    · refine startCommand_within (h.withTmc ?_) ..
      exact h.tmc

theorem loadFetch_within (c : MgmtCommand) : Within T (loadFetch c s) := by
  simp only [loadFetch]
  split
  · split
    · exact reply_within h ..
    · refine foldl_queueRead_within (h.withMgmt ?_) _
      exact h.mgmt
  · exact reply_within h ..

theorem loadClear_within (c : MgmtCommand) : Within T (loadClear c s) := by
  unfold loadClear
  split
  · exact reply_within h ..
  · split
    · exact reply_within h ..
    · split
      · exact reply_within h ..
      · refine startCommand_within (Within.withTmc (h.setProgram ..) ?_) ..
        exact h.tmc

theorem engineReset_within (c : MgmtCommand) : Within T (engineReset c s) := (reply_within h ..).withResetPending true

/-! ## The commands answered at once -/

theorem statusRead_within (fields : List Byte) : Within T (statusRead fields s).1 := by
  have cleared (t : State) (ht : Within T t) (l : Link) : Within T (clearErrors l t) := ht.setLinkUnit l (ht.linkDropped l)
  exact cleared _ (cleared _ (cleared _ (cleared _ (cleared _ h (.store .s0)) (.store .s1)) (.store .s2)) (.store .s3)) .central

theorem holdRead_within (fields : List Byte) : Within T (holdRead fields s).1 := by
  unfold holdRead
  split
  · exact h
  · split <;> exact h

theorem programRead_within (fields : List Byte) : Within T (programRead fields s).1 := by
  unfold programRead
  split
  · exact h
  · split <;> exact h

theorem promotionRead_within (fields : List Byte) : Within T (promotionRead fields s).1 := by
  unfold promotionRead
  split
  · exact h
  · split <;> exact h

theorem cacheProbe_within (fields : List Byte) : Within T (cacheProbe fields s).1 := by
  unfold cacheProbe
  split
  · exact h
  · split <;> exact h

theorem returnSizeSet_within (fields : List Byte) : Within T (returnSizeSet fields s).1 := by
  obtain ⟨day, level, tblen, -, -⟩ := h.mgmt
  unfold returnSizeSet
  split
  · exact h
  · rename_i n _
    refine h.withMgmt ⟨day, level, tblen, ?_⟩
    show 1 ≤ clampReturnSize n ∧ clampReturnSize n ≤ 64
    unfold clampReturnSize
    omega

theorem accessSet_within (fields : List Byte) : Within T (accessSet fields s).1 := by
  obtain ⟨day, -, -, size⟩ := h.mgmt
  unfold accessSet
  split
  · exact h
  · split
    · exact h
    · rename_i n _ low
      split
      · exact h
      · rename_i open2
        refine h.withMgmt ⟨day, Nat.not_lt.1 low, fun closed => ?_, size⟩
        have : n ≠ 2 := fun e => open2 ⟨e, closed⟩
        show n ≤ 1
        omega

theorem dayAdvance_within (fields : List Byte) : Within T (dayAdvance fields s).1 := by
  unfold dayAdvance
  split
  · exact h
  · rename_i d hd
    have top : d < 65536 := oneNumber_lt hd
    have day : MgmtWithin s.tblen { s.mgmt with day := d } := ⟨Nat.le_of_lt_succ top, h.mgmt.2⟩
    split
    · exact (h.withMgmt day).withWatch ⟨h.watch.park, h.watch.hits, h.watch.timeout⟩
    · exact h

theorem journalRelease_within (fields : List Byte) : Within T (journalRelease fields s).1 := by
  obtain ⟨occupancy, position, next, -⟩ := h.journal
  unfold journalRelease
  split
  · exact h
  · rename_i n hn
    split
    · exact h
    · split
      · exact h
      · split
        · have top : n < 4294967296 := oneNumber_lt hn
          refine h.withJournal ⟨(Nat.sub_le _ _).trans occupancy, position, next, ?_⟩
          show 1 ≤ successor n ∧ successor n ≤ 4294967295
          unfold successor counterMax
          split <;> omega
        · exact h

theorem watchSet_within (fields : List Byte) : Within T (watchSet fields s).1 := by
  unfold watchSet
  split
  · exact h
  · rename_i f _
    split
    · rename_i ok
      have slot := watchWithin_setWatchSlot h.watch f.slot (watchSlotFrom f)
      refine h.withWatch ⟨slot.park, slot.hits, ?_⟩
      show 1 ≤ f.timeout.getD s.watch.timeout ∧ f.timeout.getD s.watch.timeout ≤ 60
      simp only [watchSetOk, Bool.and_eq_true] at ok
      cases ht : f.timeout with
      | none => exact h.watch.timeout
      | some t => simpa [ht, timeoutOk] using ok.1.1.2
    · exact h

theorem watchClear_within (fields : List Byte) : Within T (watchClear fields s).1 := by
  unfold watchClear
  split
  · exact h
  · split
    · exact h
    · exact h.withWatch (watchWithin_setWatchSlot h.watch ..)

theorem watchClearStatus_within (fields : List Byte) : Within T (watchClearStatus fields s).1 :=
  h.withWatch ⟨h.watch.park, ⟨Nat.zero_le _, Nat.zero_le _, Nat.zero_le _, Nat.zero_le _⟩, h.watch.timeout⟩

theorem noticeClear_within (fields : List Byte) : Within T (noticeClear fields s).1 := by
  unfold noticeClear
  split
  · exact h
  · refine h.withMgmt ?_
    exact h.mgmt

theorem setIntakeStop_within (stop : Bool) : Within T (setIntakeStop stop s).1 := h.withDispatcher h.blocked

theorem programWrite_within (fields : List Byte) : Within T (programWrite fields s).1 := by
  unfold programWrite
  split
  · exact h
  · split
    · exact h
    · split
      · exact h
      · exact h.setProgram ..

theorem programState_within (fields : List Byte) : Within T (programState fields s).1 := by
  unfold programState
  split
  · exact h
  · split
    · exact h
    · split
      · exact h
      · split
        · exact h
        · split
          · exact h
          · exact h.setProgram ..
          · exact h.setProgram ..

theorem setPromotion_within {n : Nat} (hn : ¬promotionTableSize ≤ n) (e : Promotion) : Within T (s.setPromotion n e) :=
  h.withPromotions (h.promotions.set (Nat.not_le.1 hn) e)

theorem promotionWrite_within (fields : List Byte) : Within T (promotionWrite fields s).1 := by
  unfold promotionWrite
  split
  · exact h
  · split
    · exact h
    · split
      · exact h
      · split
        · exact setPromotion_within h ‹_› _
        · exact h

theorem promotionEnable_within (fields : List Byte) : Within T (promotionEnable fields s).1 := by
  unfold promotionEnable
  split
  · exact h
  · split
    · exact h
    · split
      · exact setPromotion_within h ‹_› _
      · exact h

theorem promotionDisable_within (fields : List Byte) : Within T (promotionDisable fields s).1 := by
  unfold promotionDisable
  split
  · exact h
  · split
    · exact h
    · exact setPromotion_within h ‹_› _

theorem loadOpen_within (fields : List Byte) : Within T (loadOpen fields s).1 := by
  unfold loadOpen
  split
  · exact h
  · split
    · exact h
    · refine h.withMgmt ?_
      exact h.mgmt

theorem loadClose_within (fields : List Byte) : Within T (loadClose fields s).1 := by
  refine h.withMgmt ?_
  exact h.mgmt

theorem cacheFlush_within (fields : List Byte) : Within T (cacheFlush fields s).1 := h.withCache (h.cache.update _)

theorem stagePace_within {p : PacerSettings} (hp : paceAllowed p) (l : StoreLink) : Within T (stagePace p l s) := by
  refine h.setPacer l ?_ hp (h.stores l).sent
  dsimp only
  split
  · exact hp
  · exact (h.stores l).active

theorem paceSet_within (fields : List Byte) : Within T (paceSet fields s).1 := by
  unfold paceSet
  split
  · exact h
  · split
    · exact h
    · exact h.foldl (fun _ l h => stagePace_within h (clampPace_allowed _) l) _

omit h in
theorem foldl_loadOne_within (p last : Nat) (c : Settings) (l : List LoadRecord) {g : LoadProgress} (h : Within T g.st) :
    Within T (l.foldl (loadOne p last c) g).st := by
  induction l generalizing g with
  | nil => exact h
  | cons r l ih =>
    refine ih ?_
    unfold loadOne
    split
    · exact h
    · split
      · exact queueLoadWrite_within h ..
      · exact h

theorem loadData_within (fields : List Byte) : Within T (loadData fields s).1 := by
  simp only [loadData]
  split
  · exact movePointer_within (foldl_loadOne_within _ _ _ _ (by exact h)) _
  · exact h

end Commands

/-! ## Reset and power-on -/

section Reset
variable {T : Timebase → Prop} {s : State} (h : Within T s)
include h

theorem completeWrite_within (w : QueuedWrite) : Within T (completeWrite s w) := by
  unfold completeWrite
  split
  · exact cardWriteDone_within h _
  · exact cardWriteDone_within h _
  · exact clearWriteComplete_within h _
  · exact restoreWriteDone_within h
  · exact journalWriteDone_within h _

omit h in
theorem resetStore_within {u : StoreUnit} (h : StoreWithin u) : StoreWithin (resetStore u) :=
  ⟨Nat.zero_le _, Nat.zero_le _, h.active, h.staged, Nat.zero_le _⟩

theorem engineValues_stores (l : StoreLink) : StoreWithin ((engineValues s).storeUnit l) := by
  cases l
  case s0 => exact resetStore_within (h.stores .s0)
  case s1 => exact resetStore_within (h.stores .s1)
  case s2 => exact resetStore_within (h.stores .s2)
  case s3 => exact resetStore_within (h.stores .s3)

/-- The blocks take their engine-reset values, and what those keep stands within its limits. -/
theorem engineValues_within : Within T (engineValues s) where
  programs := Tab.wfWith_update _ h.programs
  promotions := h.promotions
  slots := Tab.wfWith_update _ h.slots
  cache := ⟨rfl, List.forall_mem_nil _⟩
  cards := h.cards
  ring := h.ring
  busy := ⟨Nat.zero_le _, .nil, List.forall_mem_nil _⟩
  stores := engineValues_stores h
  central := ⟨Nat.zero_le _, Nat.zero_le _⟩
  blocked := .nil
  tmc := h.tmc
  journal := h.journal
  time := h.time
  watch := ⟨⟨rfl, List.forall_mem_nil _⟩, ⟨Nat.zero_le _, Nat.zero_le _, Nat.zero_le _, Nat.zero_le _⟩, h.watch.timeout⟩
  mgmt := ⟨h.mgmt.1, Nat.zero_le _, fun _ => Nat.zero_le _, le_rfl, Nat.le_add_left 1 63⟩

theorem resetEffect_within : Within T (resetEffect s) := by
  unfold resetEffect
  split
  · exact engineValues_within (h.foldl (fun _ w h => completeWrite_within h w) _)
  · exact h

theorem resetNLow_within : Within T (if s.resetN then (s.withResetN false).withResetPending true else s) := by
  split
  · exact (h.withResetN _).withResetPending _
  · exact h

theorem tblenFall_within : Within T ((s.withTblen false).withMgmt { s.mgmt with level := min s.mgmt.level 1 }) := by
  obtain ⟨day, -, -, size⟩ := h.mgmt
  have low : min s.mgmt.level 1 ≤ 1 := Nat.min_le_right _ _
  exact { h with mgmt := ⟨day, Nat.le_succ_of_le low, fun _ => low, size⟩ }

theorem tblenRise_within : Within T (s.withTblen true) := by
  obtain ⟨day, level, -, size⟩ := h.mgmt
  exact { h with mgmt := ⟨day, level, nofun, size⟩ }

end Reset

/-- At power-on the timebase and every other part stand within their limits, whatever stood before. -/
theorem powered_within (s : State) : Within TimeWithin (powered s) := by
  have reset := withinLimits_iff.1 theInvariantsHoldAtReset.1
  have store (u : StoreUnit) : StoreWithin (powerStore u) := by
    obtain ⟨-, -, active, staged, sent⟩ := reset.stores .s0
    exact ⟨Nat.zero_le _, Nat.zero_le _, active, staged, sent⟩
  exact { reset with
    stores := fun
      | .s0 => store _
      | .s1 => store _
      | .s2 => store _
      | .s3 => store _
    central := ⟨Nat.zero_le _, Nat.zero_le _⟩
    mgmt := ⟨reset.mgmt.1, Nat.zero_le _, fun _ => Nat.zero_le _, reset.mgmt.2.2.2⟩ }


/-! ## Every command -/

theorem Within.of_next {s t : State} (h : Within TimeWithin s)
    (e : (.next s : Host.Outcome State Fault Refusal) = .next t) : Within TimeWithin t := by
  cases e; exact h

theorem onCard_within {card : Nat} {f : State → State} {s t : State} (h : Within TimeWithin (f s))
    (e : onCard card f s = .next t) : Within TimeWithin t := by
  unfold onCard at e
  split at e
  · exact h.of_next e
  · cases e

theorem execLoadClearWriteQueue_within {p : Nat} {s t : State} (h : Within TimeWithin s)
    (e : execLoadClearWriteQueue p s = .next t) : Within TimeWithin t := by
  unfold execLoadClearWriteQueue at e
  split at e
  · exact (clearQueueNext_within h p).of_next e
  · cases e

theorem execJournalWriteComplete_within {n : Nat} {s t : State} (h : Within TimeWithin s)
    (e : execJournalWriteComplete n s = .next t) : Within TimeWithin t := by
  unfold execJournalWriteComplete at e
  split at e
  · exact (journalWriteDone_within h n).of_next e
  · cases e

theorem unknownCommand_within {s t : State} (h : Within TimeWithin s) (e : execUnknownCommand s = .next t) :
    Within TimeWithin t := by
  refine Within.of_next ?_ e
  split
  · exact h
  · split
    · exact reply_within (popCommand_within h) ..
    · exact h

/-- Every command keeps the limits. -/
theorem exec_within {s t : State} (h : Within TimeWithin s) : ∀ {i : Instr}, exec i s = .next t → Within TimeWithin t
  | .powerOn, e => (powered_within s).of_next e
  | .resetNLow, e => (resetNLow_within h).of_next e
  | .resetNHigh, e => (h.withResetN true).of_next e
  | .engineResetEffect, e => (resetEffect_within h).of_next e
  | .tblenFall, e => (tblenFall_within h).of_next e
  | .tblenRise, e => (tblenRise_within h).of_next e
  | .carrierPresent l, e => (carrierOn_within h l).of_next e
  | .carrierLost l, e => (carrierOff_within h l).of_next e
  | .request l bytes, e => (receive_within h (.store l) bytes).of_next e
  | .answer bytes, e => (receive_within h .central bytes).of_next e
  | .mgmt bytes, e => (receive_within h .central bytes).of_next e
  | .idle l bytes, e => (receive_within h l bytes).of_next e
  | .unexpectedKind l bytes, e => (receive_within h l bytes).of_next e
  | .parcelSend l, e => (sendParcel_within h l).of_next e
  | .millisecondTick, e => (millisecondTick_within h).of_next e
  | .pacerExpiry l, e => (pacerExpire_within h l).of_next e
  | .secondTick, e => (secondTick_within h h.time.newSecond).of_next e
  | .watchTimeout, e => (watchTimeouts_within h).of_next e
  | .minuteTick, e => (minuteTick_within h h.time.newMinute).of_next e
  | .holdDue, e => (dueHolds_within h).of_next e
  | .dispatch, e => (dispatchNext_within h).of_next ((execDispatch_eq s).symm.trans e)
  | .inquire _, e | .activate _, e | .load _, e | .redeem _, e | .hold _, e | .complete _, e | .release _, e
  | .reverse _, e | .withdraw _, e | .lapse _, e | .dropItem _, e | .cardReadAtCard _, e | .cardFreezeAtCard _, e
  | .cardThawAtCard _, e | .cardWriteAtCard _, e => onCard_within (takeHead_within h ..) e
  | .fetchComplete .., e => onCard_within (fetchData_within h ..) e
  | .fetchUncorrectable _, e => onCard_within (fetchLost_within h _) e
  | .cardRecordWriteComplete _, e => onCard_within (cardWriteDone_within h _) e
  | .journalWriteComplete _, e => execJournalWriteComplete_within h e
  | .loadClearWriteQueue _, e => execLoadClearWriteQueue_within h e
  | .loadClearWriteComplete _, e => onCard_within (clearWriteComplete_within h _) e
  | .restoreScanEnd, e => (scanEnd_within h).of_next e
  | .restoreWriteComplete, e => (restoreWriteDone_within h).of_next e
  | .cardReadDirectComplete o, e => (directDone_within h o).of_next e
  | .journalReadComplete o, e => (journalReadDone_within h o).of_next e
  | .loadFetchComplete o, e => (loadFetchDone_within h o).of_next e
  | .unknownCommand, e => unknownCommand_within h e
  | .statusRead, e => (takeAtOnce_within h (fun f _ h => statusRead_within h f) 0x01).of_next e
  | .cardRead, e => (takeCommand_within h (fun c _ h => cardRead_within h c) codeCardRead).of_next e
  | .holdRead, e => (takeAtOnce_within h (fun f _ h => holdRead_within h f) 0x03).of_next e
  | .journalRead, e => (takeCommand_within h (fun c _ h => journalRead_within h c) codeJournalRead).of_next e
  | .programRead, e => (takeAtOnce_within h (fun f _ h => programRead_within h f) 0x05).of_next e
  | .promotionRead, e => (takeAtOnce_within h (fun f _ h => promotionRead_within h f) 0x06).of_next e
  | .watchRead, e => (takeAtOnce_within h (rule := watchRead) (fun _ _ h => h) 0x07).of_next e
  | .cacheProbe, e => (takeAtOnce_within h (fun f _ h => cacheProbe_within h f) 0x08).of_next e
  | .returnSizeSet, e => (takeAtOnce_within h (fun f _ h => returnSizeSet_within h f) 0x09).of_next e
  | .accessSet, e => (takeAtOnce_within h (fun f _ h => accessSet_within h f) 0x0A).of_next e
  | .dayAdvance, e => (takeAtOnce_within h (fun f _ h => dayAdvance_within h f) 0x10).of_next e
  | .journalRelease, e => (takeAtOnce_within h (fun f _ h => journalRelease_within h f) 0x11).of_next e
  | .cardFreeze, e => (takeCommand_within h (fun c _ h => cardCorrection_within h c ..) codeCardFreeze).of_next e
  | .cardThaw, e => (takeCommand_within h (fun c _ h => cardCorrection_within h c ..) codeCardThaw).of_next e
  | .watchSet, e => (takeAtOnce_within h (fun f _ h => watchSet_within h f) 0x14).of_next e
  | .watchClear, e => (takeAtOnce_within h (fun f _ h => watchClear_within h f) 0x15).of_next e
  | .watchClearStatus, e => (takeAtOnce_within h (fun f _ h => watchClearStatus_within h f) 0x16).of_next e
  | .watchRelease, e => (takeCommand_within h (fun c _ h => watchRelease_within h c) 0x17).of_next e
  | .noticeEnable, e => (takeCommand_within h (fun c _ h => noticeEnable_within h c) 0x18).of_next e
  | .noticeClear, e => (takeAtOnce_within h (fun f _ h => noticeClear_within h f) 0x19).of_next e
  | .intakeStop, e => (takeAtOnce_within h (fun _ _ h => setIntakeStop_within h true) 0x1A).of_next e
  | .intakeStart, e => (takeAtOnce_within h (fun _ _ h => setIntakeStop_within h false) 0x1B).of_next e
  | .holdDrop, e => (takeCommand_within h (fun c _ h => holdDrop_within h c) codeHoldDrop).of_next e
  | .programWrite, e => (takeAtOnce_within h (fun f _ h => programWrite_within h f) 0x20).of_next e
  | .programState, e => (takeAtOnce_within h (fun f _ h => programState_within h f) 0x21).of_next e
  | .promotionWrite, e => (takeAtOnce_within h (fun f _ h => promotionWrite_within h f) 0x22).of_next e
  | .promotionEnable, e => (takeAtOnce_within h (fun f _ h => promotionEnable_within h f) 0x23).of_next e
  | .promotionDisable, e => (takeAtOnce_within h (fun f _ h => promotionDisable_within h f) 0x24).of_next e
  | .cardWrite, e => (takeCommand_within h (fun c _ h => cardWrite_within h c) codeCardWrite).of_next e
  | .cardRestore, e => (takeCommand_within h (fun c _ h => cardRestore_within h c) codeCardRestore).of_next e
  | .loadOpen, e => (takeAtOnce_within h (fun f _ h => loadOpen_within h f) 0x27).of_next e
  | .loadData, e => (takeAtOnce_within h (fun f _ h => loadData_within h f) 0x28).of_next e
  | .loadFetch, e => (takeCommand_within h (fun c _ h => loadFetch_within h c) codeLoadFetch).of_next e
  | .loadClose, e => (takeAtOnce_within h (fun f _ h => loadClose_within h f) 0x2A).of_next e
  | .loadClear, e => (takeCommand_within h (fun c _ h => loadClear_within h c) codeLoadClear).of_next e
  | .cacheFlush, e => (takeAtOnce_within h (fun f _ h => cacheFlush_within h f) 0x2C).of_next e
  | .paceSet, e => (takeAtOnce_within h (fun f _ h => paceSet_within h f) 0x2D).of_next e
  | .engineReset, e => (takeCommand_within h (fun c _ h => engineReset_within h c) codeEngineReset).of_next e

theorem step_within {s t : State} (h : Within TimeWithin s) (e : step s = .next t) : Within TimeWithin t := by
  unfold step at e
  split at e
  · exact (clockCycle_within h).of_next e
  · exact exec_within (h.withPending _) e

/-- Settles O58: each part of the state stands within its limits after every command, and after a cycle of the reference
clock. -/
theorem everyStepKeepsTheLimits : Obligations.EveryStepKeepsTheLimits :=
  fun _ _ h e => withinLimits_iff.2 (step_within (withinLimits_iff.1 h) e)

end Sys2Proof.Machine


/-! # The field check and the choice of a link -/

namespace Sys2Proof.Machine

/-! ## The field check -/

theorem tillKindOf_isSome {n : Nat} : (tillKindOf n).isSome = true ↔ n ≤ 8 := by
  unfold tillKindOf
  split <;> simp_all
  omega

theorem channelOf_isSome {n : Nat} : (channelOf n).isSome = true ↔ n ≤ 1 := by
  unfold channelOf
  split <;> simp_all
  omega

theorem needsAmount_iff (k : TillKind) : needsAmount k = true ↔ tillKindCode k ∈ [1, 2, 3, 4, 5] := by
  cases k <;> decide

theorem needsHoldRef_iff (k : TillKind) : needsHoldRef k = true ↔ tillKindCode k ∈ [5, 6] := by
  cases k <;> decide

theorem needsOriginal_iff (k : TillKind) : needsOriginal k = true ↔ tillKindCode k ∈ [7, 8] := by
  cases k <;> decide

theorem amountOk_iff {a : Option Nat} : amountOk a = false ↔ ∃ n, a = some n ∧ (n = 0 ∨ 10000000 < n) := by
  cases a with
  | none => simp [amountOk]
  | some n =>
    simp only [amountOk, Option.some.injEq, exists_eq_left', Bool.and_eq_false_iff, decide_eq_false_iff_not]
    omega

theorem verifyOk_eq_false {v : Option (List Byte)} :
    verifyOk v = false ↔ ∃ bytes, v = some bytes ∧ ∃ b ∈ bytes, ¬(48 ≤ b.toNat ∧ b.toNat ≤ 57) := by
  rw [← Bool.not_eq_true, verifyOk_iff]
  simp only [not_forall, exists_prop]

theorem fieldCheck_eq_none {q : Request} : fieldCheck q = none ↔
    8 < q.kindCode ∨ 1 < q.channelCode ∨ (∃ b ∈ q.cardNumber, ¬(48 ≤ b.toNat ∧ b.toNat ≤ 57)) ∨
      (q.amount = none ∧ q.kindCode ∈ [1, 2, 3, 4, 5]) ∨ (q.holdRef = none ∧ q.kindCode ∈ [5, 6]) ∨
      (q.original = none ∧ q.kindCode ∈ [7, 8]) ∨ (∃ a, q.amount = some a ∧ (a = 0 ∨ 10000000 < a)) ∨
      ∃ v, q.verify = some v ∧ ∃ b ∈ v, ¬(48 ≤ b.toNat ∧ b.toNat ≤ 57) := by
  have kinds := tillKindOf_isSome (n := q.kindCode)
  have channels := channelOf_isSome (n := q.channelCode)
  have digits := digitsOf_isSome (bytes := q.cardNumber)
  rw [fieldCheck, ← Nat.not_le, ← kinds, ← Nat.not_le, ← channels]
  have unlisted : (∃ b ∈ q.cardNumber, ¬(48 ≤ b.toNat ∧ b.toNat ≤ 57)) ↔ ¬(digitsOf q.cardNumber).isSome = true := by
    rw [digits]; simp only [not_forall, exists_prop]
  rw [unlisted, ← amountOk_iff, ← verifyOk_eq_false]
  cases hk : tillKindOf q.kindCode with
  | none => simp
  | some k =>
    rw [← tillKindCode_of_tillKindOf hk, ← needsAmount_iff, ← needsHoldRef_iff, ← needsOriginal_iff]
    cases channelOf q.channelCode with
    | none => simp
    | some c =>
      cases digitsOf q.cardNumber with
      | none => simp
      | some ds =>
        simp only [ite_eq_left_iff, reduceCtorEq, imp_false, not_not, Bool.or_eq_true, Bool.and_eq_true,
          Option.isNone_iff_eq_none, Bool.not_eq_true', Option.isSome_some, not_true_eq_false, false_or, or_assoc]
        simp only [and_comm, or_left_comm]

theorem dispatchRequest_of_fieldCheck {q : Request} (h : fieldCheck q = none) (s : State) :
    dispatchRequest q s = .consumed (handStore q.origin (.answer (bareAnswer q.kindCode q.till q.seq .badRequest)) s) := by
  rw [dispatchRequest, h]

/-- Settles O20. -/
theorem fieldCheckRejects : Obligations.FieldCheckRejects :=
  fun _ _ _ => ⟨fieldCheck_eq_none, fun s fails => dispatchRequest_of_fieldCheck (fieldCheck_eq_none.2 fails) s⟩

/-! ## The choice of a link -/

/-- The links in the order served (R20): the link `k + 1` places after the last-served one stands at place `k`. -/
theorem linksAfter_eq (l : StoreLink) :
    linksAfter l = (List.range 4).map fun k => storeLinkOf (storeLinkCode l + 1 + k) := by
  cases l <;> rfl

theorem eligible_iff {s : State} {l : StoreLink} :
    eligible s l = true ↔ (s.storeUnit l).intake ≠ [] ∧ l ∉ s.dispatcher.blocked := by
  simp [eligible]

theorem nextLink_eq_none {s : State} (h : ∀ l, eligible s l = false) : nextLink s = none := by
  simp [nextLink, h]

/-- The first eligible link after the last-served one is taken (R20). -/
theorem nextLink_eq_some {s : State} {k : Nat} (hk : k < 4)
    (before : ∀ j, j < k → eligible s (storeLinkOf (storeLinkCode s.dispatcher.last + 1 + j)) = false)
    (here : eligible s (storeLinkOf (storeLinkCode s.dispatcher.last + 1 + k)) = true) :
    nextLink s = some (storeLinkOf (storeLinkCode s.dispatcher.last + 1 + k)) := by
  have first : (List.range 4).find? (fun j => eligible s (storeLinkOf (storeLinkCode s.dispatcher.last + 1 + j))) = some k := by
    rw [List.find?_range_eq_some]
    exact ⟨here, List.mem_range.2 hk, fun j hj => by simp [before j hj]⟩
  rw [nextLink, linksAfter_eq, List.find?_map, Function.comp_def, first, Option.map_some]

theorem dispatchNext_of_idle {s : State} (h : nextLink s = none ∨ s.working = false) : dispatchNext s = s := by
  unfold dispatchNext
  rcases h with h | h
  · rw [h]; exact ite_self s
  · rw [h]; rfl

theorem exec_dispatch_of_nextLink {s : State} {l : StoreLink} (hw : s.working = true) (h : nextLink s = some l) :
    exec .dispatch s = .next (dispatchFrom l s) := by
  show execDispatch s = _
  rw [execDispatch_eq, dispatchNext, if_pos hw, h]

theorem dispatchFrom_of_consumed {s t : State} {l : StoreLink} {q : Request} {rest : List Request}
    (head : (s.storeUnit l).intake = q :: rest)
    (h : dispatchRequest q (s.withDispatcher { s.dispatcher with last := l }) = .consumed t) :
    dispatchFrom l s = popIntake l t := by
  simp only [dispatchFrom, head, h]

theorem dispatchFrom_of_blocked {s : State} {l : StoreLink} {q : Request} {rest : List Request}
    (head : (s.storeUnit l).intake = q :: rest) (open_ : l ∉ s.dispatcher.blocked)
    (h : dispatchRequest q (s.withDispatcher { s.dispatcher with last := l }) = .blocked) :
    dispatchFrom l s = s.withDispatcher { s.dispatcher with last := l, blocked := s.dispatcher.blocked ++ [l] } := by
  simp only [dispatchFrom, head, h, blockLink]
  exact if_neg (by simpa using open_)

/-- Settles O21. -/
theorem dispatchServesLinksInTurn : Obligations.DispatchServesLinksInTurn := by
  intro s _
  refine ⟨fun idle => ?_, fun hn hp k q rest hk before here head => ⟨fun t ht => ?_, fun hb => ?_⟩⟩
  · refine (execDispatch_eq s).trans (congrArg _ (dispatchNext_of_idle ?_))
    rcases idle with none | low | pending
    · exact .inl (nextLink_eq_none fun l => Bool.eq_false_iff.2 fun h => none l (eligible_iff.1 h))
    · exact .inr (by simp [State.working, low])
    · exact .inr (by simp [State.working, pending])
  all_goals
    have next := nextLink_eq_some hk (fun j hj => Bool.eq_false_iff.2 fun h => before j hj (eligible_iff.1 h))
      (eligible_iff.2 here)
    have taken := exec_dispatch_of_nextLink (working_iff.2 ⟨hn, hp⟩) next
  · rw [dispatchFrom_of_consumed head ht] at taken
    exact ⟨_, taken, rfl, (storeUnit_setStoreUnit ..).trans (if_pos rfl),
      fun j hj => (storeUnit_setStoreUnit ..).trans (if_neg hj)⟩
  · exact taken.trans (congrArg _ (dispatchFrom_of_blocked head here.2 hb))

end Sys2Proof.Machine

/-! # Withdrawal at dispatch -/

namespace Sys2Proof.Machine

/-! ## Targets -/

theorem isTarget_iff {till : TillId} {n : Nat} {it : Item} :
    isTarget till n it = true ↔ ∃ x, it.body = .till x ∧ x.till = till ∧ x.seq = n := by
  unfold isTarget
  cases it.body <;> simp

theorem currentTarget_toList (till : TillId) (n : Nat) (e : BusyEntry) :
    (currentTarget till n e).toList = e.current.toList.filter (isTarget till n) := by
  unfold currentTarget
  cases e.current with
  | none => rfl
  | some it =>
    simp only [Option.toList_some, List.filter_cons, List.filter_nil]
    split <;> rfl

/-- A WITHDRAW acts on the entry where its current item or an item on its waiting list is a target (R38). -/
theorem dispatchWithdraw_of_entry {t : TillRequest} {s : State} {p card n : Nat} {e : BusyEntry} (he : s.busyOf card = some e)
    (hn : t.original = some n) :
    dispatchWithdraw t p card s =
      if e.current.toList.filter (isTarget t.till n) ++ e.waiting.filter (isTarget t.till n) ≠ [] then
        .consumed (withdrawTargets t card e s)
      else if e.state = .active ∨ e.state = .parked then
        .consumed (answerBare t (if (findRecent t.till n (recordOf s e).recents).isSome then .tooLate else .notFound) s)
      else dispatchItem t p card s := by
  have targets : ((currentTarget t.till n e).isSome || e.waiting.any (isTarget t.till n)) = true ↔
      e.current.toList.filter (isTarget t.till n) ++ e.waiting.filter (isTarget t.till n) ≠ [] := by
    rw [← currentTarget_toList]
    cases currentTarget t.till n e <;> simp
  simp only [dispatchWithdraw, he, hn, Option.getD_some, targets]

/-! ## Removing and answering them -/

theorem countOut_withBusy (p : Option Nat) (b : List BusyEntry) (s : State) :
    countOut p (s.withBusy b) = (countOut p s).withBusy b := by
  cases p with
  | none => rfl
  | some n =>
    simp only [countOut]
    show (if _ then _ else _) = State.withBusy (if _ then _ else _) b
    rw [apply_ite fun t : State => t.withBusy b]
    rfl

theorem answerWithdrawn_updateBusy (card : Nat) (f : BusyEntry → BusyEntry) (s : State) (it : Item) :
    answerWithdrawn (updateBusy card f s) it = updateBusy card f (answerWithdrawn s it) := by
  unfold answerWithdrawn updateBusy
  split
  · rw [countOut_busy, ← countOut_withBusy]; rfl
  all_goals rfl

theorem updateBusy_updateBusy (card : Nat) {f : BusyEntry → BusyEntry} (hf : ∀ x, (f x).card = x.card)
    (g : BusyEntry → BusyEntry) (s : State) : updateBusy card g (updateBusy card f s) = updateBusy card (fun x => g (f x)) s := by
  unfold updateBusy
  refine congrArg s.withBusy ((List.map_map ..).trans (List.map_congr_left fun x _ => ?_))
  by_cases hx : x.card = card <;> simp [hf, hx]

/-- The state with the targets of a WITHDRAW removed from the entry of a card, before any of them is answered. -/
def withoutTargets (card : Nat) (till : TillId) (n : Nat) (current : List Item) (s : State) : State :=
  updateBusy card
    (fun x => { x with
      state := if current = [] then x.state else .active
      current := if current = [] then x.current else none
      waiting := x.waiting.filter fun it => !isTarget till n it })
    (s.withWatch (if current = [] then s.watch else unpark card s.watch))

/-- A parked target is answered before its card's waiting list is searched, which does not matter: an answer leaves the Busy
Card List alone (log entry 42). -/
theorem withdrawWaiting_withdrawCurrent (card : Nat) (till : TillId) (n : Nat) (current : Option Item) (targets : List Item)
    (s : State) :
    withdrawWaiting card till n targets (withdrawCurrent card current s) =
      (current.toList ++ targets).foldl answerWithdrawn (withoutTargets card till n current.toList s) := by
  cases current with
  | none => rfl
  | some it =>
    rw [withdrawWaiting, withdrawCurrent, ← answerWithdrawn_updateBusy, updateBusy_updateBusy]
    · rfl
    · exact fun _ => rfl

/-- The items answered are the targets as the spec orders them, each answered from the state the one before it left. -/
theorem withdrawTargets_eq {t : TillRequest} {n : Nat} (hn : t.original = some n) (card : Nat) (e : BusyEntry) (s : State) :
    let current := e.current.toList.filter (isTarget t.till n)
    withdrawTargets t card e s =
      freeIfDone card
        (answerBare t .approved
          ((current ++ e.waiting.filter (isTarget t.till n)).foldl answerWithdrawn
            (withoutTargets card t.till n current s))) := by
  simp only [withdrawTargets, hn, Option.getD_some, withdrawWaiting_withdrawCurrent, currentTarget_toList]

theorem findRecent_isSome {till : TillId} {seq : Nat} {l : List RecentRef} :
    (findRecent till seq l).isSome = true ↔ ∃ x ∈ l, x.till = till ∧ x.seq = seq := by
  simp [findRecent]

/-- Settles O24. -/
theorem withdrawAtDispatch : Obligations.WithdrawAtDispatch := by
  constructor
  · refine fun t p card s => ⟨fun none => by rw [dispatchWithdraw, none], fun e n he hn => ?_⟩
    intro _ waiting current
    have untargeted : e.current.toList.filter (isTarget t.till n) ++ e.waiting.filter (isTarget t.till n) = [] := by
      simp only [List.append_eq_nil_iff, List.filter_eq_nil_iff, Option.mem_toList, isTarget_iff]
      exact ⟨current, waiting⟩
    rw [dispatchWithdraw_of_entry he hn, if_neg (not_not.2 untargeted)]
    refine ⟨fun fetch => if_neg ?_, fun w r state way valid record => ?_⟩
    · rcases fetch with h | h <;> rw [h] <;> decide
    · have reads : recordOf s e = r := by
        rw [recordOf, way, busyOf_card he, Option.getD_some]
        exact (if_pos valid).trans record
      rw [if_pos state, reads]
      refine ⟨fun recorded => ?_, fun absent => ?_⟩
      · rw [if_pos (findRecent_isSome.2 recorded)]
      · rw [findRecent_eq_none absent]; rfl
  · intro t p card n s e he hn hit parked answer cleared targeted
    have hits : hit = isTarget t.till n := by
      funext it
      unfold hit isTarget
      cases it.body with
      | till x => exact Bool.decide_and ..
      | _ => rfl
    clear_value hit
    subst hits
    rw [dispatchWithdraw_of_entry he hn, if_pos targeted, withdrawTargets_eq hn]
    refine congrArg (fun u => Dispatched.consumed (freeIfDone card (answerBare t .approved u)))
      (List.foldl_ext _ _ _ fun u it _ => ?_)
    unfold answerWithdrawn
    cases it.body <;> rfl

end Sys2Proof.Machine

/-! # Takings turned away, INQUIRE and WITHDRAW -/

namespace Sys2Proof.Machine

/-! ## The command that takes an item -/

/-- The command that takes a till request of a kind at its card (R31). -/
def tillCommand (k : TillKind) (card : Nat) : Instr :=
  match k with
  | .inquire => .inquire card
  | .activate => .activate card
  | .load => .load card
  | .redeem => .redeem card
  | .hold => .hold card
  | .complete => .complete card
  | .release => .release card
  | .reverse => .reverse card
  | .withdraw => .withdraw card

theorem exec_tillCommand (k : TillKind) (card : Nat) (s : State) :
    exec (tillCommand k card) s = onCard card (takeHead (isTill k) card) s := by
  cases k <;> rfl

theorem eq_tillCommand {kinds : List TillKind} {k : TillKind} {card : Nat} {c : Instr}
    (h : (k, c) ∈ kinds.map fun k => (k, tillCommand k card)) : k ∈ kinds ∧ c = tillCommand k card := by
  obtain ⟨k', hk, e⟩ := List.mem_map.1 h
  cases e
  exact ⟨hk, rfl⟩

section Takings
variable {s : State} {e : BusyEntry} {it : Item} {rest : List Item} {w : Nat} {r : CardRecord}

/-- The head item of a card is taken by the command that names it. -/
theorem onCard_takeHead (h : Taking s e it rest w r) {named : Item → Bool} (hn : named it = true) :
    onCard it.card (takeHead named it.card) s = .next (takeItem it (s.taken it.card)) := by
  rw [onCard_next h.card, takeHead, headItem_of_taking h]
  simp only [hn, if_true]
  rfl

theorem exec_tillCommand_of_taking (h : Taking s e it rest w r) {q₀ : TillRequest} (hb : it.body = .till q₀) :
    exec (tillCommand q₀.kind it.card) s = .next (takeTillItem it q₀ (s.taken it.card) r) := by
  rw [exec_tillCommand, onCard_takeHead h (by simp [isTill, hb]), takeItem_of_taking h hb]

end Takings

/-! ## Requests recorded before, and rolls that cannot be applied -/

/-- The first recorded reference of a request is the one found (R33). -/
theorem findRecent_of_split {till : TillId} {seq : Nat} {l a b : List RecentRef} {x : RecentRef} (hl : l = a ++ x :: b)
    (ht : x.till = till) (hs : x.seq = seq) (first : ∀ y ∈ a, ¬(y.till = till ∧ y.seq = seq)) :
    findRecent till seq l = some x := by
  have before := findRecent_eq_none first
  unfold findRecent at before ⊢
  rw [hl, List.find?_append, before, List.find?_cons_of_pos (by simp [ht, hs])]
  rfl

theorem applyRoll_of_blocked {card : Nat} {s : State} {r : CardRecord} (h : RollBlocked s r) :
    applyRoll card s r = .blocked (rolled s.mgmt.day (holdsBonus s card) r) := by
  obtain ⟨day, lost, full⟩ := h
  simp only [applyRoll, if_neg (Nat.not_le.2 day), rollForfeits_iff.2 lost, if_true, if_pos full]

/-- What an INQUIRE shows of a record whose roll is blocked (R35, R99). -/
theorem balancesOf_rolled {s : State} {r : CardRecord} (h : RollBlocked s r) (held : Bool) :
    balancesOf (rolled s.mgmt.day held r) =
      { state := r.state, paid := r.paid, bonus := 0, held := r.held, bonusExpiry := if held then r.bonusExpiry else none } := by
  simp only [rolled, rollForfeits_iff.2 h.2.1]
  cases held <;> rfl

/-- A till request that is neither on a frozen card nor recorded comes to the roll (R31). -/
theorem takeTillItem_of_new {it : Item} {q₀ : TillRequest} {s : State} {r : CardRecord} (thawed : r.frozen = false)
    (new : ∀ x ∈ r.recents, ¬(x.till = q₀.till ∧ x.seq = q₀.seq)) : takeTillItem it q₀ s r = rollStep it q₀ s r := by
  simp only [takeTillItem, thawed, Bool.false_eq_true, if_false, findRecent_eq_none new]

/-- Settles O25. -/
theorem takingsTurnedAway : Obligations.TakingsTurnedAway := by
  refine ⟨fun s e it rest w r q₀ c h hb hc => ?_, fun s e it rest w r q₀ c h hb thawed new blocked => ⟨fun hc => ?_, ?_⟩⟩
  · obtain ⟨-, rfl⟩ := eq_tillCommand
      (kinds := [.inquire, .activate, .load, .redeem, .hold, .complete, .release, .reverse, .withdraw]) hc
    rw [exec_tillCommand_of_taking h hb]
    refine ⟨fun frozen => ?_, fun thawed a b x split ht hs first => ⟨fun differ => ?_, fun same => ?_⟩⟩
    · rw [takeTillItem, if_pos frozen]; rfl
    all_goals simp only [takeTillItem, thawed, Bool.false_eq_true, if_false, findRecent_of_split split ht hs first]
    · rw [if_neg differ]; rfl
    · rw [if_pos same, repeatAnswer, same]; rfl
  · obtain ⟨hk, rfl⟩ := eq_tillCommand
      (kinds := [.activate, .load, .redeem, .hold, .complete, .release, .reverse, .withdraw]) hc
    have other : q₀.kind ≠ .inquire := fun k => by simp [k] at hk
    rw [exec_tillCommand_of_taking h hb, takeTillItem_of_new thawed new, rollStep, applyRoll_of_blocked blocked]
    simp only [if_neg other]
    rfl
  · intro t hk passes
    have taken := exec_tillCommand_of_taking h hb
    rw [takeTillItem_of_new thawed new, rollStep, applyRoll_of_blocked blocked, hk] at taken
    simp only [if_true] at taken
    rw [watchStep_of_passes (hk ▸ passes)] at taken
    refine taken.trans ?_
    simp only [decideStep, decideTill, hk, decideInquire, answerTaken, balancesOf_rolled blocked]
    rfl

/-- Settles O26. -/
theorem inquireAndWithdrawAtCard : Obligations.InquireAndWithdrawAtCard := by
  intro s it q₀ p r t q h
  refine ⟨fun hk => ?_, fun n hk hn => ⟨fun recorded => ?_, fun new => ?_⟩⟩
  · rw [exec_of_atDecision h (by rw [hk]; rfl), decideStep_eq_ends h.program (by rw [decideTill, hk]) rfl]
    rfl
  · refine exec_declines h (by rw [hk]; rfl) ?_
    simp only [decideTill, hk, hn, Option.getD_some, findRecent_isSome.2 recorded, if_true]
  · refine exec_declines h (by rw [hk]; rfl) ?_
    simp only [decideTill, hk, hn, Option.getD_some, findRecent_eq_none new]
    rfl

end Sys2Proof.Machine

/-! # Lapse items, drop items and management items at their card -/

namespace Sys2Proof.Machine

/-! ## The taking of each kind of item -/

section Takings
variable {s : State} {e : BusyEntry} {it : Item} {rest : List Item} {w : Nat} {r : CardRecord} (h : Taking s e it rest w r)
include h

/-- The entry an item was taken from stands, with the record of its way. -/
theorem entry_of_taking : ∃ x, (s.taken it.card).busyOf it.card = some x ∧ recordOf (s.taken it.card) x = r := by
  refine ⟨{ e with waiting := e.waiting.tail },
    busyOf_updateBusy (f := fun x => { x with waiting := x.waiting.tail }) h.entry fun _ => rfl, ?_⟩
  have way : (s.taken it.card).wayAt e.card (e.way.getD 0) = s.wayAt it.card w := by
    rw [busyOf_card h.entry, h.way.1]; rfl
  simp only [recordOf, way, h.valid, if_true, h.record]

theorem takeItem_lapse {ref : HoldRef} {drop : Option Nat} (hb : it.body = .lapse ref drop) :
    takeItem it (s.taken it.card) = takeLapse it ref drop (s.taken it.card) r := by
  obtain ⟨x, entry, record⟩ := entry_of_taking h
  simp only [takeItem, entry, record, hb]

theorem takeItem_cardRead {tag : Nat} (hb : it.body = .cardRead tag) :
    takeItem it (s.taken it.card) = takeCardRead it tag (s.taken it.card) r := by
  obtain ⟨x, entry, record⟩ := entry_of_taking h
  simp only [takeItem, entry, record, hb]

theorem takeItem_cardFreeze {tag : Nat} (hb : it.body = .cardFreeze tag) :
    takeItem it (s.taken it.card) = takeFreeze it codeCardFreeze tag true (s.taken it.card) r := by
  obtain ⟨x, entry, record⟩ := entry_of_taking h
  simp only [takeItem, entry, record, hb]

theorem takeItem_cardThaw {tag : Nat} (hb : it.body = .cardThaw tag) :
    takeItem it (s.taken it.card) = takeFreeze it codeCardThaw tag false (s.taken it.card) r := by
  obtain ⟨x, entry, record⟩ := entry_of_taking h
  simp only [takeItem, entry, record, hb]

theorem takeItem_cardWrite {tag : Nat} {f : CardWriteFields} (hb : it.body = .cardWrite tag f) :
    takeItem it (s.taken it.card) = takeCardWrite it tag f (s.taken it.card) r := by
  obtain ⟨x, entry, record⟩ := entry_of_taking h
  simp only [takeItem, entry, record, hb]

/-- A lapse item is taken by LAPSE, and one that carries a drop's tag by DROP_ITEM. -/
theorem exec_lapse_of_taking {ref : HoldRef} {drop : Option Nat} (hb : it.body = .lapse ref drop) :
    exec (if drop = none then .lapse it.card else .dropItem it.card) s =
      .next (takeLapse it ref drop (s.taken it.card) r) := by
  rw [← takeItem_lapse h hb]
  cases drop with
  | none => exact onCard_takeHead h (named := isLapse) (by simp [isLapse, hb])
  | some tag => exact onCard_takeHead h (named := isDrop) (by simp [isDrop, hb])

end Takings

/-! ## LAPSE and DROP_ITEM -/

theorem answerDrop_eq (drop : Option Nat) (result : MgmtResult) (s : State) :
    answerDrop drop result s = (drop.map fun tag => replyStarted 0x1C tag result s).getD s := by
  cases drop <;> rfl

theorem unissue_found {card : Nat} {ref : HoldRef} {s : State} (reuse : (s.slot ref.slot).reuse = ref.reuse)
    (due : (s.slot ref.slot).state = .lapseDue) (own : (s.slot ref.slot).card = card) :
    unissue card ref s = s.setSlot ref.slot { s.slot ref.slot with issued := false } := if_pos ⟨reuse, due, own⟩

theorem unissue_other {card : Nat} {ref : HoldRef} {s : State}
    (other : (s.slot ref.slot).reuse ≠ ref.reuse ∨ (s.slot ref.slot).state ≠ .lapseDue ∨ (s.slot ref.slot).card ≠ card) :
    unissue card ref s = s := if_neg (by tauto)

/-- Settles O37. -/
theorem lapseAndDropTaken : Obligations.LapseAndDropTaken := by
  intro s it ref drop r t q hb c told h
  have told_eq (result : MgmtResult) (u : State) : told result u = answerDrop drop result u := (answerDrop_eq ..).symm
  clear_value told
  obtain rfl : told = answerDrop drop := funext fun _ => funext fun _ => told_eq ..
  refine ⟨fun ⟨⟨e, rest, w, taking⟩, roll⟩ => ?_, fun ⟨e, rest, w, taking⟩ blocked ht => ?_⟩
  · have taken : exec c s = _ := exec_lapse_of_taking taking hb
    clear_value c
    simp only [takeLapse, applyRoll_of_rollsTo roll] at taken
    refine ⟨fun reuse due own free => ?_, fun reuse due own full => ?_, fun other => ?_⟩
    · intro v entry
      rw [if_pos ⟨reuse, due, own⟩, if_neg (Nat.pos_iff_ne_zero.1 free)] at taken
      refine taken.trans ?_
      cases drop <;> rfl
    · rw [if_pos ⟨reuse, due, own⟩, if_pos full, unissue_found reuse due own] at taken
      exact taken
    · rw [if_neg (by tauto)] at taken
      exact taken
  · subst ht
    have taken : exec c s = _ := exec_lapse_of_taking taking hb
    clear_value c
    simp only [takeLapse, applyRoll_of_blocked blocked] at taken
    refine ⟨fun reuse due own => ?_, fun other => ?_⟩
    · rw [unissue_found reuse due own] at taken
      exact taken
    · rw [unissue_other other] at taken
      exact taken

/-! ## CARD READ, CARD FREEZE and CARD THAW -/

/-- A management item is served on the state `t` and the record `q` (R35). -/
theorem rolledFor_of_served {s : State} {it : Item} {r : CardRecord} {t : State} {q : CardRecord}
    (h : PastRoll s it r t q ∨
      (∃ e rest w, Taking s e it rest w r) ∧ RollBlocked (s.taken it.card) r ∧ t = s.taken it.card ∧ q = r) :
    (∃ e rest w, Taking s e it rest w r) ∧ rolledFor it.card (s.taken it.card) r = (t, q) := by
  rcases h with ⟨taking, roll⟩ | ⟨taking, blocked, rfl, rfl⟩
  · exact ⟨taking, by simp only [rolledFor, applyRoll_of_rollsTo roll]⟩
  · exact ⟨taking, by simp only [rolledFor, applyRoll_of_blocked blocked]⟩

/-! ## CARD WRITE (R110) -/

/-- The fields of a CARD WRITE lie within their limits (R110). -/
def CardWriteInLimits (c : Settings) (day : Nat) (held : Bool) (r : CardRecord) (f : CardWriteFields) : Prop :=
  (f.paid ≤ c.maxBalance ∨ f.paid = r.paid) ∧ f.bonus ≤ c.bonusCeiling ∧ f.verifyFailures ≤ 3 ∧
  (∀ v, f.verify = some v → ∀ b ∈ v, 48 ≤ b.toNat ∧ b.toNat ≤ 57) ∧
  (0 < f.bonus → ∃ d, f.bonusExpiry = some d ∧ day ≤ d) ∧ (f.bonus = 0 → held = true → f.bonusExpiry ≠ none)

theorem expiryCurrent_iff {day : Nat} {expiry : Option Nat} :
    expiryCurrent day expiry = true ↔ ∃ d, expiry = some d ∧ day ≤ d := by
  cases expiry <;> simp [expiryCurrent]

theorem stateChangeOk_iff {held : Nat} {old new : CardState} : stateChangeOk held old new = true ↔
    (old, new) ∈
      ([(.inactive, .inactive), (.inactive, .closed), (.active, .active), (.active, .suspended), (.active, .closed),
        (.suspended, .suspended), (.suspended, .active), (.suspended, .closed), (.closed, .closed)] :
        List (CardState × CardState)) ∨
    old = .closed ∧ new = .active ∧ held = 0 := by
  cases old <;> cases new <;> simp [stateChangeOk]

section CardWrite
variable {c : Settings} {s : State} {held : Bool} {r : CardRecord} {f : CardWriteFields}

/-- The four range checks of R110, as CARD WRITE makes them. -/
theorem cardWriteInLimits_iff : CardWriteInLimits c s.mgmt.day held r f ↔
    ¬(c.maxBalance < f.paid ∧ f.paid ≠ r.paid) ∧ ¬c.bonusCeiling < f.bonus ∧
      ¬(decide (3 < f.verifyFailures) || !verifyOk f.verify) = true ∧
      ¬(decide (0 < f.bonus) && !expiryCurrent s.mgmt.day f.bonusExpiry) = true ∧
      ¬(f.bonus == 0 && held && f.bonusExpiry.isNone) = true := by
  have paid : ¬(c.maxBalance < f.paid ∧ f.paid ≠ r.paid) ↔ f.paid ≤ c.maxBalance ∨ f.paid = r.paid := by omega
  have verify : ¬(decide (3 < f.verifyFailures) || !verifyOk f.verify) = true ↔
      f.verifyFailures ≤ 3 ∧ verifyOk f.verify = true := by simp
  have expiry : ¬(decide (0 < f.bonus) && !expiryCurrent s.mgmt.day f.bonusExpiry) = true ↔
      (0 < f.bonus → expiryCurrent s.mgmt.day f.bonusExpiry = true) := by simp
  have kept : ¬(f.bonus == 0 && held && f.bonusExpiry.isNone) = true ↔
      (f.bonus = 0 → held = true → f.bonusExpiry ≠ none) := by simp
  rw [paid, verify, expiry, kept, Nat.not_lt, verifyOk_iff, expiryCurrent_iff, and_assoc]
  rfl

theorem cardWriteRefusal_thawed (thawed : r.frozen = false) : cardWriteRefusal c s held r f = some .state := by
  rw [cardWriteRefusal, thawed]; rfl

theorem cardWriteRefusal_range (frozen : r.frozen = true) (out : ¬CardWriteInLimits c s.mgmt.day held r f) :
    cardWriteRefusal c s held r f = some .range := by
  rw [cardWriteInLimits_iff] at out
  unfold cardWriteRefusal
  rw [frozen, if_neg (by decide)]
  split_ifs with paid bonus verify expiry kept
  iterate 5 rfl
  all_goals exact absurd ⟨paid, bonus, verify, expiry, kept⟩ out

/-- A CARD WRITE of a frozen card within its limits meets the change of state and the journal's room (R110). -/
theorem cardWriteRefusal_in_limits (frozen : r.frozen = true) (inside : CardWriteInLimits c s.mgmt.day held r f) :
    cardWriteRefusal c s held r f =
      if stateChangeOk r.held r.state f.state = true then
        if (f.paid ≠ r.paid ∨ f.bonus ≠ r.bonus) ∧ journalFree s = 0 then some .journalFull else none
      else some .state := by
  obtain ⟨paid, bonus, verify, expiry, kept⟩ := cardWriteInLimits_iff.1 inside
  rw [cardWriteRefusal, frozen, if_neg paid, if_neg bonus, if_neg verify, if_neg expiry, if_neg kept]
  cases stateChangeOk r.held r.state f.state <;> rfl

variable {it : Item} {p : Nat} {t : State} {q : CardRecord}

/-- A CARD WRITE that fails a check writes nothing beyond the roll (R110). -/
theorem takeCardWrite_refused (hp : it.program = some p) (rolled : rolledFor it.card s r = (t, q)) {reason : Reason}
    (hr : cardWriteRefusal (settingsOf t p) t (holdsBonus t it.card) q f = some reason) (tag : Nat) :
    takeCardWrite it tag f s r = finishItem it r q (replyStarted codeCardWrite tag (.refused reason) t) := by
  simp only [takeCardWrite, hp, rolled, Option.getD_some, hr]

/-- A CARD WRITE that leaves the balances alone (R111). -/
theorem takeCardWrite_unmoved (hp : it.program = some p) (rolled : rolledFor it.card s r = (t, q))
    (hr : cardWriteRefusal (settingsOf t p) t (holdsBonus t it.card) q f = none) (same : f.paid = q.paid ∧ f.bonus = q.bonus)
    (tag : Nat) :
    takeCardWrite it tag f s r =
      finishItem it r (cardWritten (holdsBonus t it.card) q f)
        (replyStarted codeCardWrite tag (.done (cardWriteData (cardWritten (holdsBonus t it.card) q f) none)) t) := by
  simp only [takeCardWrite, hp, rolled, Option.getD_some, hr]
  exact if_pos same

/-- A CARD WRITE that changes a balance appends an ADJUST entry (R111). -/
theorem takeCardWrite_moved (hp : it.program = some p) (rolled : rolledFor it.card s r = (t, q))
    (hr : cardWriteRefusal (settingsOf t p) t (holdsBonus t it.card) q f = none) (moved : ¬(f.paid = q.paid ∧ f.bonus = q.bonus))
    (tag : Nat) :
    takeCardWrite it tag f s r =
      finishItem it r (cardWritten (holdsBonus t it.card) q f)
        (replyStarted codeCardWrite tag
          (.done (cardWriteData (cardWritten (holdsBonus t it.card) q f) (some t.journal.next)))
          (appendJournal
            { entryFor .adjust it.card t (cardWritten (holdsBonus t it.card) q f) with
              paidDelta := (f.paid : Int) - q.paid, bonusDelta := (f.bonus : Int) - q.bonus } t)) := by
  simp only [takeCardWrite, hp, rolled, Option.getD_some, hr]
  exact if_neg moved

end CardWrite

/-- Settles O38. -/
theorem managementItemsTaken : Obligations.ManagementItemsTaken := by
  unfold Obligations.ManagementItemsTaken
  intro standing
  have data (r : CardRecord) : standing r = correctionData r := by
    unfold standing correctionData
    cases r.bonusExpiry <;> cases r.frozen <;> rfl
  refine ⟨fun s it r t q tag served => ?_, fun s it p r t q tag f served hp hb => ?_⟩
  · obtain ⟨⟨e, rest, w, taking⟩, rolled⟩ := rolledFor_of_served served
    refine ⟨fun hb => ?_, fun hb => ?_, fun hb => ?_⟩
    · refine (onCard_takeHead taking (named := isCardRead) (by simp [isCardRead, hb])).trans ?_
      rw [takeItem_cardRead taking hb, takeCardRead, rolled]
      rfl
    · refine (onCard_takeHead taking (named := isCardFreeze) (by simp [isCardFreeze, hb])).trans ?_
      rw [takeItem_cardFreeze taking hb, takeFreeze, rolled, data]
      rfl
    · refine (onCard_takeHead taking (named := isCardThaw) (by simp [isCardThaw, hb])).trans ?_
      rw [takeItem_cardThaw taking hb, takeFreeze, rolled, data]
      rfl
  · obtain ⟨⟨e, rest, w, taking⟩, rolled⟩ := rolledFor_of_served served
    have taken := onCard_takeHead taking (named := isCardWrite) (by simp [isCardWrite, hb])
    rw [takeItem_cardWrite taking hb] at taken
    intro k held inLimits allowed moves refused
    have refuses {reason : Reason} (hr : cardWriteRefusal k t held q f = some reason) : refused reason :=
      taken.trans (congrArg _ (takeCardWrite_refused hp rolled hr tag))
    refine ⟨fun thawed => refuses (cardWriteRefusal_thawed thawed),
      fun frozen out => refuses (cardWriteRefusal_range frozen out),
      fun frozen inside no => refuses ?_, fun frozen inside ok moved full => refuses ?_, fun frozen inside ok => ?_⟩
    · rw [cardWriteRefusal_in_limits frozen inside, if_neg (mt stateChangeOk_iff.1 no)]
    · rw [cardWriteRefusal_in_limits frozen inside, if_pos (stateChangeOk_iff.2 ok), if_pos ⟨moved, full⟩]
    · have checks : cardWriteRefusal k t held q f = if moves ∧ journalFree t = 0 then some .journalFull else none := by
        rw [cardWriteRefusal_in_limits frozen inside, if_pos (stateChangeOk_iff.2 ok)]
      intro after
      refine ⟨fun still => ?_, fun moved free => ?_⟩
      · rw [if_neg fun h => still h.1] at checks
        have same : f.paid = q.paid ∧ f.bonus = q.bonus := by simpa [moves, not_or] using still
        exact taken.trans (congrArg _ (takeCardWrite_unmoved hp rolled checks same tag))
      · rw [if_neg fun h => Nat.pos_iff_ne_zero.1 free h.2] at checks
        refine taken.trans (congrArg _ ((takeCardWrite_moved hp rolled checks (not_and_or.2 moved) tag).trans ?_))
        rw [cardWriteData, List.append_assoc]
        rfl

end Sys2Proof.Machine

/-! # The watch check -/

namespace Sys2Proof.Machine

/-! ## Matching -/

theorem mask4_getLsbD (b0 b1 b2 b3 : Bool) (n : Fin 4) : (mask4 b0 b1 b2 b3).getLsbD n = [b0, b1, b2, b3].getD n false := by
  revert b0 b1 b2 b3 n
  decide

/-- The slot with a number (R115). -/
def watchSlotAt (w : WatchUnit) (n : Nat) : WatchSlot := [w.slot0, w.slot1, w.slot2, w.slot3].getD n w.slot0

/-- The status of the slot with a number (R119). -/
def watchStatusAt (w : WatchUnit) (n : Nat) : WatchStatus := [w.status0, w.status1, w.status2, w.status3].getD n w.status0

theorem matchMask_getLsbD (w : WatchUnit) (card : Nat) (k : TillKind) (n : Fin 4) :
    (matchMask w card k).getLsbD n = slotMatches (watchSlotAt w n) card k := by
  rw [matchMask, mask4_getLsbD]
  match n with
  | 0 | 1 | 2 | 3 => rfl

theorem parkMask_getLsbD (w : WatchUnit) (card : Nat) (k : TillKind) (n : Fin 4) :
    (parkMask w card k).getLsbD n =
      (slotMatches (watchSlotAt w n) card k && decide ((watchSlotAt w n).action = .park)) := by
  rw [parkMask, BitVec.getLsbD_and, matchMask_getLsbD, mask4_getLsbD]
  match n with
  | 0 | 1 | 2 | 3 => rfl

theorem watchStatusAt_recordHits (m : BitVec 4) (card : Nat) (w : WatchUnit) (n : Fin 4) :
    watchStatusAt (recordHits m card w) n = recordHit (m.getLsbD n) card (watchStatusAt w n) :=
  match n with
  | 0 | 1 | 2 | 3 => rfl

theorem slotMatches_iff {slot : WatchSlot} {card : Nat} {k : TillKind} : slotMatches slot card k = true ↔
    (slot.localEnable = true ∨ slot.globalEnable = true) ∧ slot.base ≤ card ∧ card < slot.base + slot.span ∧
      ((slot.kinds.outgoing = true ∧ k ∈ [.redeem, .hold, .complete]) ∨
        (slot.kinds.incoming = true ∧ k ∈ [.activate, .load, .reverse]) ∨ (slot.kinds.look = true ∧ k = .inquire)) := by
  have kinds : kindWatched slot.kinds k = true ↔
      (slot.kinds.outgoing = true ∧ k ∈ [.redeem, .hold, .complete]) ∨
        (slot.kinds.incoming = true ∧ k ∈ [.activate, .load, .reverse]) ∨ (slot.kinds.look = true ∧ k = .inquire) := by
    cases k <;> simp [kindWatched]
  simp only [slotMatches, Bool.and_eq_true, Bool.or_eq_true, decide_eq_true_eq, kinds, and_assoc]

/-! ## Parking -/

theorem emptyParkId_eq_some {w : WatchUnit} {id : Nat} (hid : id < 16) (empty : Tab.find w.park id = none)
    (below : ∀ j, j < id → Tab.find w.park j ≠ none) : emptyParkId w = some id := by
  rw [emptyParkId, List.find?_range_eq_some]
  exact ⟨by simp [empty], List.mem_range.2 hid, fun j hj => by simpa [Option.isSome_iff_ne_none] using below j hj⟩

theorem emptyParkId_eq_none {w : WatchUnit} (full : ∀ j, j < 16 → Tab.find w.park j ≠ none) : emptyParkId w = none := by
  rw [emptyParkId, List.find?_eq_none]
  exact fun j hj => by simpa using full j (List.mem_range.1 hj)

/-- An item parked after its hits are recorded takes a park entry among those that stood before (R120). -/
theorem parkItem_of_watch {hit u : State} (park : hit.watch.park = u.watch.park)
    (timeout : hit.watch.timeout = u.watch.timeout) (time : hit.time = u.time) (it : Item) (id : Nat)
    (matched parking : BitVec 4) (before after : CardRecord) :
    parkItem it id matched parking before after hit =
      raiseNotice .watchParked false
        (updateBusy it.card (fun x => { x with state := .parked, current := some it })
          (settleRecord it.card before after
            (hit.withWatch { hit.watch with
              park := Tab.insert u.watch.park id
                { item := it, card := it.card, matched := matched, parking := parking,
                  expirySecond := u.time.seconds + u.watch.timeout } }))) := by
  rw [← park, ← timeout, ← time]
  rfl

section Parks
variable {it : Item} {q₀ : TillRequest} {u : State} (noSkip : it.skip = false) (parks : parkMask u.watch it.card q₀.kind ≠ 0#4)
  (before after shown : CardRecord)
include noSkip parks

/-- An item that a slot parks does not pass the watch check (R118). -/
theorem watchStep_of_parks :
    let hit := raiseNotice .watchHit false (u.withWatch (recordHits (matchMask u.watch it.card q₀.kind) it.card u.watch))
    watchStep it q₀ before u after shown =
      match emptyParkId u.watch with
      | some id =>
        parkItem it id (matchMask u.watch it.card q₀.kind) (parkMask u.watch it.card q₀.kind) before after hit
      | none =>
        finishItem it before after
          (raiseNotice .watchParked true (answerTaken q₀ .referred false none none none after hit)) := by
  have matched : matchMask u.watch it.card q₀.kind ≠ 0#4 := fun none => parks (by rw [parkMask, none, BitVec.zero_and])
  simp only [watchStep, noSkip, Bool.false_or, beq_iff_eq, if_neg matched, if_neg parks]
  rw [show ∀ w : WatchUnit, emptyParkId (raiseNotice .watchHit false (u.withWatch w)).watch = emptyParkId w from
    fun w => by rw [raiseNotice_watch]; rfl]
  rfl

end Parks

/-- Settles O39. -/
theorem watchCheckMatchesAndParks : Obligations.WatchCheckMatchesAndParks := by
  constructor
  · intro w card n k hn slot status matched
    have hit : (matchMask w card k).getLsbD n = slotMatches slot card k := matchMask_getLsbD w card k ⟨n, hn⟩
    have recorded : status (recordHits (matchMask w card k) card w) =
        recordHit ((matchMask w card k).getLsbD n) card (status w) :=
      watchStatusAt_recordHits (matchMask w card k) card w ⟨n, hn⟩
    have matches_iff : slotMatches slot card k = true ↔ matched := slotMatches_iff
    refine ⟨?_, ?_, fun no => ?_, fun yes => ?_⟩
    · exact (Bool.eq_iff_iff.1 hit).trans matches_iff
    · refine (Bool.eq_iff_iff.1 (parkMask_getLsbD w card k ⟨n, hn⟩)).trans ?_
      rw [Bool.and_eq_true, decide_eq_true_eq]
      exact and_congr_left' matches_iff
    · rw [recorded, hit, Bool.eq_false_iff.2 fun h => no (matches_iff.1 h)]; rfl
    · rw [recorded, hit, matches_iff.2 yes]; rfl
  · intro s e it rest w r q₀ u q c h hb noSkip thawed new roll hc parks
    obtain ⟨-, rfl⟩ := eq_tillCommand (kinds := [.inquire, .activate, .load, .redeem, .hold, .complete, .reverse]) hc
    have taken := exec_tillCommand_of_taking h hb
    have watched : ∃ shown, takeTillItem it q₀ (s.taken it.card) r = watchStep it q₀ r u q shown := by
      rw [takeTillItem_of_new thawed new, rollStep]
      rcases roll with roll | ⟨look, blocked, rfl, rfl⟩
      · exact ⟨q, by rw [applyRoll_of_rollsTo roll]⟩
      · exact ⟨_, by rw [applyRoll_of_blocked blocked]; exact if_pos look⟩
    obtain ⟨shown, watched⟩ := watched
    rw [watched, watchStep_of_parks noSkip parks] at taken
    intro hit
    refine ⟨fun id hid empty below => ?_, fun full => ?_⟩
    · rw [emptyParkId_eq_some hid empty below] at taken
      exact taken.trans (congrArg _ (parkItem_of_watch (by simp [recordHits]) (by simp [recordHits]) (by simp) ..))
    · rw [emptyParkId_eq_none full] at taken
      exact taken

end Sys2Proof.Machine

/-! # The freeing of an entry -/

namespace Sys2Proof.Machine

/-! ## The way a fill chooses (R129) -/

theorem chooseWay_eq (c : CacheSet) :
    chooseWay c =
      ((List.range 4).find? fun k => !(wayOf c ((c.pointer + k) % 4)).pinned).map fun k => (c.pointer + k) % 4 :=
  List.find?_map

/-- From any pointer, four steps upward reach every way of a set. -/
theorem exists_step {p w : Nat} (hp : p < 4) (hw : w < 4) : ∃ k, k < 4 ∧ w = (p + k) % 4 :=
  ⟨(w + 4 - p) % 4, Nat.mod_lt _ (by decide), by omega⟩

theorem chooseWay_eq_none {c : CacheSet} (hp : c.pointer < 4) :
    chooseWay c = none ↔ ∀ w, w < 4 → (wayOf c w).pinned = true := by
  simp only [chooseWay_eq, Option.map_eq_none_iff, List.find?_eq_none, List.mem_range, Bool.not_eq_true', Bool.not_eq_false]
  refine ⟨fun h w hw => ?_, fun h k _ => h _ (Nat.mod_lt _ (by decide))⟩
  obtain ⟨k, hk, rfl⟩ := exists_step hp hw
  exact h k hk

theorem chooseWay_eq_some {c : CacheSet} {w : Nat} :
    chooseWay c = some w ↔
      ∃ k, k < 4 ∧ w = (c.pointer + k) % 4 ∧ (wayOf c w).pinned = false ∧
        ∀ j, j < k → (wayOf c ((c.pointer + j) % 4)).pinned = true := by
  simp only [chooseWay_eq, Option.map_eq_some_iff, List.find?_range_eq_some, List.mem_range, Bool.not_eq_true', Bool.not_not]
  constructor
  · rintro ⟨k, ⟨free, hk, before⟩, rfl⟩
    exact ⟨k, hk, rfl, free, before⟩
  · rintro ⟨k, hk, rfl, free, before⟩
    exact ⟨k, ⟨free, hk, before⟩, rfl⟩

/-- The only way that is not pinned is chosen. -/
theorem chooseWay_only {c : CacheSet} {w : Nat} (hp : c.pointer < 4) (hw : w < 4) (free : (wayOf c w).pinned = false)
    (others : ∀ v, v < 4 → v ≠ w → (wayOf c v).pinned = true) : chooseWay c = some w := by
  obtain ⟨k, hk, hkw⟩ := exists_step hp hw
  exact chooseWay_eq_some.2 ⟨k, hk, hkw, free, fun j hj => others _ (Nat.mod_lt _ (by decide)) (by omega)⟩

/-! ## The fetches that a free way starts (R28, R130) -/

/-- A set once a fill has taken a way of it (R129). -/
def filledSet (c : CacheSet) (w : Nat) : CacheSet :=
  { setWayOf c w { Way.empty with pinned := true } with pointer := (w + 1) % 4 }

theorem wayOf_filledSet_same (c : CacheSet) (w : Nat) : wayOf (filledSet c w) w = { Way.empty with pinned := true } :=
  wayOf_setWayOf_same c w _

theorem wayOf_filledSet_other (c : CacheSet) {w v : Nat} (hw : w < 4) (hv : v < 4) (h : v ≠ w) :
    wayOf (filledSet c w) v = wayOf c v := wayOf_setWayOf_other c _ hw hv h

theorem startFetch_of_none {s : State} {card : Nat} (h : chooseWay (s.cacheSet (setOf card)) = none) :
    startFetch s card = s := by
  simp only [startFetch, takeWay, h, Option.map_none]

theorem startFetch_of_some {s : State} {card w : Nat} (h : chooseWay (s.cacheSet (setOf card)) = some w) :
    startFetch s card =
      queueRead (.fetch card)
        (updateBusy card (fun e => { e with state := .fetching, way := some w })
          (s.setCacheSet (setOf card) (filledSet (s.cacheSet (setOf card)) w))) := by
  simp only [startFetch, takeWay, h, Option.map_some]
  rfl

theorem startFetch_frame (s : State) (card : Nat) :
    startFetch s card =
      { s with busy := (startFetch s card).busy, cache := (startFetch s card).cache, tmc := (startFetch s card).tmc } := by
  cases h : chooseWay (s.cacheSet (setOf card)) with
  | none => rw [startFetch_of_none h]
  | some w => rw [startFetch_of_some h]; rfl

theorem foldl_startFetch_frame (l : List Nat) (s : State) :
    l.foldl startFetch s =
      { s with
        busy := (l.foldl startFetch s).busy, cache := (l.foldl startFetch s).cache, tmc := (l.foldl startFetch s).tmc } := by
  induction l generalizing s with
  | nil => rfl
  | cons card l ih => rw [List.foldl_cons, ih, startFetch_frame]

theorem startWaiting_frame (set : Nat) (s : State) :
    startWaiting set s =
      { s with
        busy := (startWaiting set s).busy, cache := (startWaiting set s).cache, tmc := (startWaiting set s).tmc } :=
  foldl_startFetch_frame _ s

/-- No fetch starts in a set whose ways are all pinned (R130). -/
theorem foldl_startFetch_of_none {set : Nat} {s : State} (h : chooseWay (s.cacheSet set) = none) {l : List Nat}
    (hl : ∀ card ∈ l, setOf card = set) : l.foldl startFetch s = s := by
  induction l with
  | nil => rfl
  | cons card l ih =>
    obtain ⟨hc, hl⟩ := List.forall_mem_cons.1 hl
    rw [List.foldl_cons, startFetch_of_none (by rw [hc, h]), ih hl]

/-! ## The entry that is freed (R29) -/

/-- The state once a card's entry has gone and its way is unpinned, before an entry that waits takes the way. -/
def released (card w : Nat) (s : State) : State :=
  { s with
    busy := s.busy.filter fun x => x.card != card
    cache := (s.setWayAt card w { s.wayAt card w with pinned := false }).cache
    dispatcher := { s.dispatcher with blocked := [] } }

section Freed
variable {card w : Nat} {s : State} {e : BusyEntry}

theorem freeEntry_eq (he : s.busyOf card = some e) (hw : e.way = some w) :
    freeEntry card s = startWaiting (setOf card) (released card w s) := by
  simp only [freeEntry, he, hw]
  rfl

theorem released_wayAt_same (wf : Tab.wfWith .empty s.cache = true) :
    (released card w s).wayAt card w = { s.wayAt card w with pinned := false } := wayAt_setWayAt_same wf card w _

theorem released_wayAt_other (wf : Tab.wfWith .empty s.cache = true) (hw : w < 4) {d v : Nat} (hv : v < 4)
    (h : setOf d ≠ setOf card ∨ v ≠ w) : (released card w s).wayAt d v = s.wayAt d v := wayAt_setWayAt_other wf _ hw hv h

theorem released_cache_wf (wf : Tab.wfWith .empty s.cache = true) : Tab.wfWith .empty (released card w s).cache = true :=
  Tab.wfWith_set _ _ wf

theorem setWayOf_pointer (c : CacheSet) (w : Nat) (v : Way) : (setWayOf c w v).pointer = c.pointer := by
  rcases w with _ | _ | _ | w <;> rfl

theorem released_pointer (wf : Tab.wfWith .empty s.cache = true) (n : Nat) :
    ((released card w s).cacheSet n).pointer = (s.cacheSet n).pointer := by
  refine (congrArg CacheSet.pointer (cacheSet_setCacheSet wf (setOf card) n _)).trans ?_
  split
  · subst n; exact setWayOf_pointer ..
  · rfl

/-- Where no entry of the set waits for a way, the way stays free (R29). -/
theorem startWaiting_of_none {set : Nat} {u : State} (h : ∀ x ∈ u.busy, ¬(x.state = .fetchWait ∧ setOf x.card = set)) :
    startWaiting set u = u := by
  have nobody : u.busy.filter (fun x => decide (x.state = .fetchWait) && setOf x.card == set) = [] := by
    simpa [List.filter_eq_nil_iff] using h
  rw [startWaiting, nobody]
  rfl

/-- The oldest entry that waits takes the one way of its set that is not pinned, and the rest wait on (R130). -/
theorem startWaiting_of_oldest {set : Nat} {u : State} {a b : List BusyEntry} {f : BusyEntry}
    (busy : u.busy = a ++ f :: b) (waits : f.state = .fetchWait) (hset : setOf f.card = set)
    (first : ∀ x ∈ a, ¬(x.state = .fetchWait ∧ setOf x.card = set)) (wf : Tab.wfWith .empty u.cache = true) (hw : w < 4)
    (hp : (u.cacheSet set).pointer < 4) (free : (wayOf (u.cacheSet set) w).pinned = false)
    (others : ∀ v, v < 4 → v ≠ w → (wayOf (u.cacheSet set) v).pinned = true) :
    startWaiting set u =
      queueRead (.fetch f.card)
        (updateBusy f.card (fun e => { e with state := .fetching, way := some w })
          (u.setCacheSet set (filledSet (u.cacheSet set) w))) := by
  have none_before : a.filter (fun x => decide (x.state = .fetchWait) && setOf x.card == set) = [] := by
    simpa [List.filter_eq_nil_iff] using first
  have f_waits : (decide (f.state = .fetchWait) && setOf f.card == set) = true := by simp [waits, hset]
  simp only [startWaiting, busy, List.filter_append, none_before, List.nil_append, List.filter_cons, f_waits, if_true,
    List.map_cons, List.foldl_cons]
  rw [startFetch_of_some (hset ▸ chooseWay_only hp hw free others), hset]
  refine foldl_startFetch_of_none (set := set) ?_ fun card hc => ?_
  · show chooseWay ((u.setCacheSet set (filledSet (u.cacheSet set) w)).cacheSet set) = none
    rw [cacheSet_setCacheSet wf, if_pos rfl, chooseWay_eq_none (Nat.mod_lt _ (by decide))]
    intro v hv
    by_cases h : v = w
    · rw [h, wayOf_filledSet_same]
    · rw [wayOf_filledSet_other _ hw hv h, others v hv h]
  · obtain ⟨x, hx, rfl⟩ := List.mem_map.1 hc
    simpa using And.right (by simpa using (List.mem_filter.1 hx).2)

/-- Of entries with distinct cards, a change of one card's entry changes that entry alone (R25). -/
theorem map_entry_of_split {a b : List BusyEntry} {f : BusyEntry} (distinct : ((a ++ f :: b).map fun x => x.card).Nodup)
    (g : BusyEntry → BusyEntry) :
    ((a ++ f :: b).map fun x => if x.card = f.card then g x else x) = a ++ g f :: b := by
  rw [List.map_append, List.map_cons, List.nodup_append, List.nodup_cons] at distinct
  obtain ⟨-, ⟨after, -⟩, before⟩ := distinct
  have other {l : List BusyEntry} (h : ∀ x ∈ l, x.card ≠ f.card) :
      (l.map fun x => if x.card = f.card then g x else x) = l :=
    (List.map_congr_left fun x hx => if_neg (h x hx)).trans (List.map_id' l)
  have ha : ∀ x ∈ a, x.card ≠ f.card := fun x hx => before _ (List.mem_map_of_mem hx) _ List.mem_cons_self
  have hb : ∀ x ∈ b, x.card ≠ f.card := fun x hx hc => after (hc ▸ List.mem_map_of_mem hx)
  rw [List.map_append, List.map_cons, if_pos rfl, other ha, other hb]

end Freed

/-- Settles O41. -/
theorem freedEntryPassesItsWay : Obligations.FreedEntryPassesItsWay := by
  constructor
  · refine fun c w hp => ⟨(chooseWay_eq_none hp).trans ⟨fun h => ?_, fun ⟨h0, h1, h2, h3⟩ w hw => ?_⟩, chooseWay_eq_some⟩
    · exact ⟨h 0 (by decide), h 1 (by decide), h 2 (by decide), h 3 (by decide)⟩
    · interval_cases w
      exacts [h0, h1, h2, h3]
  intro card w s e he hway hw wf t set
  refine ⟨?_, fun nobody => ?_, fun a f b busy distinct waits hset first pinned hp => ?_⟩
  · have freed : t = startWaiting set (released card w s) := freeEntry_eq he hway
    rw [freed]
    exact startWaiting_frame set (released card w s)
  · have freed : t = released card w s := (freeEntry_eq he hway).trans <| startWaiting_of_none fun x hx => by
      simpa using nobody x (List.mem_of_mem_filter hx) (by simpa using (List.mem_filter.1 hx).2)
    rw [freed]
    exact ⟨rfl, rfl, released_wayAt_same wf, fun d v hv h => released_wayAt_other wf hw hv h, released_pointer wf⟩
  · have free : (wayOf ((released card w s).cacheSet set) w).pinned = false := by
      rw [show wayOf ((released card w s).cacheSet set) w = _ from released_wayAt_same wf]
    have others : ∀ v, v < 4 → v ≠ w → (wayOf ((released card w s).cacheSet set) v).pinned = true := fun v hv h => by
      rw [show wayOf ((released card w s).cacheSet set) v = _ from released_wayAt_other wf hw hv (.inr h)]
      exact pinned v hv h
    have freed : t = _ := (freeEntry_eq he hway).trans (startWaiting_of_oldest (u := released card w s) busy waits hset first
      (released_cache_wf wf) hw (by rwa [released_pointer wf]) free others)
    have filled (d : Nat) : t.cacheSet d =
        if d = set then filledSet ((released card w s).cacheSet set) w else (released card w s).cacheSet d := by
      rw [freed]
      exact cacheSet_setCacheSet (released_cache_wf wf) set d _
    have taken : t.wayAt card w = { Way.empty with pinned := true } := by
      rw [State.wayAt, filled, if_pos rfl, wayOf_filledSet_same]
    refine ⟨?_, ?_, by rw [taken]; rfl, by rw [taken], fun d v hv h => ?_, by rw [filled, if_pos rfl]; rfl⟩
    · rw [freed]
      exact (congrArg (List.map _) busy).trans (map_entry_of_split distinct _)
    · rw [freed]; rfl
    · rw [← released_wayAt_other wf hw hv h, State.wayAt, filled]
      split
      · rename_i hd
        rw [wayOf_filledSet_other _ hw hv (h.resolve_left (not_not.2 hd)), ← hd]
        rfl
      · rfl

end Sys2Proof.Machine

/-! # Fetches and queued writes complete -/

namespace Sys2Proof.Machine

/-! ## The oldest queued read of a kind (R135) -/

theorem takeRead_of_none {body : ReadBody} {s : State} (h : ∀ x ∈ s.tmc.reads, x.body ≠ body) : takeRead body s = none := by
  have absent : (s.tmc.reads.find? fun r => decide (r.body = body)) = none := by simpa using h
  simp only [takeRead, absent]

section OldestRead
variable {body : ReadBody} {s : State} {a b : List QueuedRead} {x : QueuedRead} (reads : s.tmc.reads = a ++ x :: b)
  (hx : x.body = body) (first : ∀ y ∈ a, y.body ≠ body)
include reads hx first

theorem find?_read_of_split : (s.tmc.reads.find? fun r => decide (r.body = body)) = some x := by
  have before : (a.find? fun r => decide (r.body = body)) = none := by simpa using first
  rw [reads, List.find?_append, before, List.find?_cons_of_pos (by simpa using hx)]
  rfl

/-- The oldest read of a kind leaves the queue once no write of its address is before it. -/
theorem takeRead_of_split (free : ∀ w ∈ s.tmc.writes, blocksRead x w = false) :
    takeRead body s = some (s.withTmc { s.tmc with reads := a ++ b }) := by
  have unblocked : s.tmc.writes.any (blocksRead x) = false := by simpa using free
  have left : (s.tmc.reads.eraseP fun r => decide (r.body = body)) = a ++ b := by
    rw [reads, List.eraseP_append_right _ (by simpa using first), List.eraseP_cons_of_pos (by simpa using hx)]
  simp only [takeRead, find?_read_of_split reads hx first, unblocked, left]
  rfl

theorem writeBehind_of_split : writeBehind body s = x.behind := by
  rw [writeBehind, find?_read_of_split reads hx first]
  rfl

end OldestRead

theorem blocksRead_fetch {rd card : Nat} {behind : Option WriteBody} {w : QueuedWrite}
    (h : w.id < rd → ∀ r who, w.body ≠ .card card r who) :
    blocksRead { body := .fetch card, after := rd, behind := behind } w = false := by
  rw [Bool.eq_false_iff]
  intro blocks
  rw [blocksRead, Bool.and_eq_true, decide_eq_true_eq] at blocks
  obtain ⟨before, same⟩ := blocks
  cases hb : w.body with
  | card index r who =>
    rw [hb] at same
    exact h before r who (by rw [hb, eq_of_beq (show (index == card) = true from same)])
  | journal position e => rw [hb] at same; exact absurd same Bool.false_ne_true

/-! ## Fetches (R28) -/

section Fetch
variable {s taken : State} {card : Nat}

theorem fetchData_of_none (h : takeRead (.fetch card) s = none) (corrected : Bool) : fetchData card corrected s = s := by
  simp only [fetchData, h]

theorem fetchLost_of_none (h : takeRead (.fetch card) s = none) : fetchLost card s = s := by
  simp only [fetchLost, h]

/-- The data of a fetch goes to the entry that waits for it (R28). -/
theorem fetchData_serves {counted : State} {corrected : Bool} {e : BusyEntry} {w : Nat}
    (h : takeRead (.fetch card) s = some taken) (hc : (if corrected then countCorrected 1 taken else taken) = counted)
    (serves : fetchingEntry card counted = some e) (hw : e.way = some w) :
    fetchData card corrected s =
      updateBusy card (fun x => { x with state := .active })
        (counted.setWayAt card w { valid := true, tag := tagOf card, record := fetchedRecord s card, pinned := true }) := by
  simp only [fetchData, h, hc, serves, hw, Option.getD_some]

/-- The data of a fetch that no entry waits for is dropped (log entry 15). -/
theorem fetchData_dropped {counted : State} {corrected : Bool} (h : takeRead (.fetch card) s = some taken)
    (hc : (if corrected then countCorrected 1 taken else taken) = counted) (none : fetchingEntry card counted = none) :
    fetchData card corrected s = counted := by
  simp only [fetchData, h, hc, none]

theorem fetchLost_idle (h : takeRead (.fetch card) s = some taken) (none : taken.busyOf card = none) :
    fetchLost card s = quarantineRule card true taken := by
  simp only [fetchLost, h, none]

/-- An uncorrectable fetch ends the entry of its card (R28, R136). -/
theorem fetchLost_ends {e : BusyEntry} (h : takeRead (.fetch card) s = some taken) (he : taken.busyOf card = some e) :
    fetchLost card s = freeEntry card (e.waiting.foldl dismissItem (quarantineRule card true taken)) := by
  simp only [fetchLost, h, he]

theorem fetchingEntry_eq_some {e : BusyEntry} (he : s.busyOf card = some e) (fetching : e.state = .fetching)
    (last : ∀ x ∈ s.tmc.reads, x.body ≠ .fetch card) : fetchingEntry card s = some e := by
  simp only [fetchingEntry, he]
  exact if_pos ⟨fetching, by simpa using last⟩

theorem fetchingEntry_eq_none
    (h : (∃ x ∈ s.tmc.reads, x.body = .fetch card) ∨ ∀ e, s.busyOf card = some e → e.state ≠ .fetching) :
    fetchingEntry card s = none := by
  unfold fetchingEntry
  split
  · rfl
  · rename_i e he
    refine if_neg fun ⟨fetching, last⟩ => ?_
    rcases h with ⟨x, hx, hb⟩ | h
    · simp only [List.any_eq_false, decide_eq_true_eq] at last
      exact last x hx hb
    · exact h e he fetching

end Fetch

/-- The record that a fetch delivers is what the write it was queued behind stores, or what DRAM holds (R135). -/
theorem fetchedRecord_of_behind {s : State} {card : Nat} {behind : Option WriteBody}
    (h : writeBehind (.fetch card) s = behind) :
    fetchedRecord s card = (recordRead s behind card).getD (Config.undefinedCard s.powerOns card) := by
  have reads : readCard (.fetch card) card s = recordRead s behind card := by
    rcases behind with _ | _ | _ <;> simp only [readCard, recordRead, h]
  cases h : recordRead s behind card <;> simp [fetchedRecord, reads, h]

theorem quarantineRule_true (card : Nat) (s : State) :
    quarantineRule card true s =
      if card ∈ s.tmc.quarantine then raiseNotice .memoryError false s
      else if s.tmc.quarantine.length < 32 then
        raiseNotice .memoryError false
          (invalidateCard card (s.withTmc { s.tmc with quarantine := s.tmc.quarantine ++ [card] }))
      else raiseNotice .memoryError true s := by
  simp only [quarantineRule, Bool.not_true, Bool.or_false, quarantined_iff]
  rfl

/-- Settles O43. -/
theorem fetchesComplete : Obligations.FetchesComplete := by
  refine ⟨fun s card fixed hcard absent => ?_, ?_, fun s it tag => ?_⟩
  · have none := takeRead_of_none absent
    refine ⟨(onCard_next hcard ..).trans ?_, (onCard_next hcard ..).trans ?_⟩
    · rw [fetchData_of_none none]
    · rw [fetchLost_of_none none]
  · intro s card rd behind a b hcard reads first free read
    have taken := takeRead_of_split reads rfl first fun w hw => blocksRead_fetch (free w hw)
    have counted (fixed : Bool) :
        (if fixed = true then countCorrected 1 (s.withTmc { s.tmc with reads := a ++ b })
          else s.withTmc { s.tmc with reads := a ++ b }) = read fixed := by
      cases fixed <;> rfl
    have fetched (fixed : Bool) : exec (.fetchComplete card fixed) s = .next (fetchData card fixed s) := onCard_next hcard ..
    have lost : exec (.fetchUncorrectable card) s = .next (fetchLost card s) := onCard_next hcard ..
    refine ⟨fun fixed e w last he fetching hway hw wf => ?_, fun fixed dropped => ?_, fun none => ?_, fun e he => ?_⟩
    · have serves : fetchingEntry card (read fixed) = some e :=
        fetchingEntry_eq_some he fetching fun x hx => (List.mem_append.1 hx).elim (first x) (last x)
      refine ⟨_, fetched fixed, ?_⟩
      rw [fetchData_serves taken (counted fixed) serves hway,
        fetchedRecord_of_behind (writeBehind_of_split reads rfl first)]
      exact ⟨rfl, wayAt_setWayAt_same (s := read fixed) wf card w _,
        fun d v hv h => wayAt_setWayAt_other (s := read fixed) wf _ hw hv h⟩
    · have none : fetchingEntry card (read fixed) = none :=
        fetchingEntry_eq_none (dropped.imp (fun ⟨x, hx, hb⟩ => ⟨x, List.mem_append_right a hx, hb⟩) id)
      exact (fetched fixed).trans (congrArg _ (fetchData_dropped taken (counted fixed) none))
    · exact lost.trans (congrArg _ ((fetchLost_idle taken none).trans (quarantineRule_true ..)))
    · refine lost.trans (congrArg _ ((fetchLost_ends taken he).trans ?_))
      rw [quarantineRule_true]
      rfl
  · refine ⟨fun q₀ hb => ?_, fun hb => ?_, fun hb => ?_, fun hb => ?_, fun f hb => ?_, fun ref drop hb => ⟨fun none => ?_,
      fun some => ?_⟩⟩
    all_goals simp only [dismissItem, hb]
    iterate 4 rfl
    · rw [none]; rfl
    · rw [some]; rfl

/-! ## The written mark (R144) -/

/-- The mark moves across the noted sequences that follow it, as far as they go, and those are noted no more (R144). -/
theorem advanceMark_spec (fuel written : Nat) {noted : List Nat} (distinct : noted.Nodup) (enough : noted.length ≤ fuel) :
    ∃ k, (advanceMark fuel written noted).1 = successor^[k] written ∧
      successor^[k + 1] written ∉ (advanceMark fuel written noted).2 ∧
      (∀ j, 1 ≤ j → j ≤ k → successor^[j] written ∈ noted) ∧
      ∀ m, m ∈ (advanceMark fuel written noted).2 ↔ m ∈ noted ∧ ∀ j, 1 ≤ j → j ≤ k → m ≠ successor^[j] written := by
  induction fuel generalizing written noted with
  | zero =>
    obtain rfl := List.length_eq_zero_iff.1 (Nat.le_zero.1 enough)
    exact ⟨0, rfl, List.not_mem_nil, fun j h1 h0 => absurd h1 (by omega), fun m => by simp [advanceMark]⟩
  | succ fuel ih =>
    by_cases next : successor written ∈ noted
    · have shorter : (noted.erase (successor written)).length ≤ fuel := by
        rw [List.length_erase_of_mem next]; omega
      obtain ⟨k, moved, stops, passed, left⟩ := ih (successor written) (distinct.erase _) shorter
      have step : advanceMark (fuel + 1) written noted =
          advanceMark fuel (successor written) (noted.erase (successor written)) := by
        rw [advanceMark, if_pos (by simpa using next)]
      rw [step]
      refine ⟨k + 1, moved, stops, fun j h1 hj => ?_, fun m => ?_⟩
      · obtain ⟨i, rfl⟩ := Nat.exists_eq_add_of_le' h1
        rw [Function.iterate_succ_apply]
        cases i with
        | zero => exact next
        | succ i => exact List.mem_of_mem_erase (passed (i + 1) (by omega) (by omega))
      · rw [left, distinct.mem_erase_iff]
        constructor
        · rintro ⟨⟨differ, hm⟩, rest⟩
          refine ⟨hm, fun j h1 hj => ?_⟩
          obtain ⟨i, rfl⟩ := Nat.exists_eq_add_of_le' h1
          rw [Function.iterate_succ_apply]
          cases i with
          | zero => exact differ
          | succ i => exact rest (i + 1) (by omega) (by omega)
        · rintro ⟨hm, all⟩
          refine ⟨⟨all 1 le_rfl (by omega), hm⟩, fun j h1 hj => ?_⟩
          rw [← Function.iterate_succ_apply]
          exact all (j + 1) (by omega) (by omega)
    · have stays : advanceMark (fuel + 1) written noted = (written, noted) := by
        rw [advanceMark, if_neg (by simpa using next)]
      rw [stays]
      exact ⟨0, rfl, next, fun j h1 h0 => absurd h1 (by omega), fun m => by simp; omega⟩

theorem markWritten_next {seq : Nat} {j : Journal} (h : seq = successor j.written) :
    markWritten seq j =
      { j with
        written := (advanceMark j.noted.length seq j.noted).1, noted := (advanceMark j.noted.length seq j.noted).2 } :=
  if_pos h

theorem markWritten_later {seq : Nat} {j : Journal} (h : seq ≠ successor j.written) :
    markWritten seq j = { j with noted := j.noted ++ [seq] } := if_neg h

/-! ## Queued writes (R29, R135) -/

theorem oldestCardWrite_of_none {s : State} {card : Nat} (h : ∀ x ∈ s.tmc.writes, ∀ r who, x.body ≠ .card card r who) :
    oldestCardWrite card s = none := by
  simp only [oldestCardWrite, List.find?_eq_none.2 fun x hx => not_writesCard (h x hx)]

theorem not_writesSeq {seq : Nat} {x : QueuedWrite} (h : ∀ n e, x.body = .journal n e → e.seq ≠ seq) :
    ¬writesSeq seq x = true := by
  unfold writesSeq
  split
  · rename_i n e hb
    simpa using h n e hb
  · exact Bool.false_ne_true

theorem journalWriteDone_of_none {s : State} {seq : Nat}
    (h : ∀ x ∈ s.tmc.writes, ∀ n e, x.body = .journal n e → e.seq ≠ seq) : journalWriteDone seq s = s := by
  simp only [journalWriteDone, List.find?_eq_none.2 fun x hx => not_writesSeq (h x hx)]

theorem journalWriteDone_of_split {s : State} {seq i n : Nat} {a b : List QueuedWrite} {x : JournalEntry}
    (writes : s.tmc.writes = a ++ { id := i, body := .journal n x } :: b) (hx : x.seq = seq)
    (first : ∀ y ∈ a, ∀ n e, y.body = .journal n e → e.seq ≠ seq) :
    journalWriteDone seq s =
      { s with
        ring := Tab.insert s.ring n x, journal := markWritten seq s.journal, tmc := { s.tmc with writes := a ++ b } } := by
  have own : writesSeq seq { id := i, body := .journal n x } = true := by simp [writesSeq, hx]
  have found : s.tmc.writes.find? (writesSeq seq) = some { id := i, body := .journal n x } := by
    rw [writes, List.find?_append, List.find?_eq_none.2 fun y hy => not_writesSeq (first y hy),
      List.find?_cons_of_pos own]
    rfl
  have left : s.tmc.writes.eraseP (writesSeq seq) = a ++ b := by
    rw [writes, List.eraseP_append_right _ fun y hy => not_writesSeq (first y hy), List.eraseP_cons_of_pos own]
  rw [journalWriteDone_of_find found rfl, left]
  rfl

theorem exec_journalWriteComplete {seq : Nat} (low : 1 ≤ seq) (high : seq ≤ 4294967295) (s : State) :
    exec (.journalWriteComplete seq) s = .next (journalWriteDone seq s) := if_pos ⟨low, high⟩

/-- Settles O44. -/
theorem queuedWritesComplete : Obligations.QueuedWritesComplete := by
  refine ⟨fun s card hcard => ⟨fun absent => ?_, fun a i r who b writes first => ?_⟩, fun s seq low high =>
    ⟨fun absent => ?_, fun a i n x b writes hx first distinct => ?_⟩⟩
  · refine (onCard_next hcard ..).trans (congrArg _ ?_)
    simp only [cardWriteDone, oldestCardWrite_of_none absent]
  · have done : exec (.cardRecordWriteComplete card) s = .next (cardWriteDone card s) := onCard_next hcard ..
    intro stored
    have oldest := oldestCardWrite_of_split writes first
    have stores : storeCard card r s = stored := storeCard_of_split writes first
    rw [done]
    refine ⟨fun hw => ?_, fun hw => ?_, fun notSerialiser notLoad => ?_⟩
    · subst hw
      simp only [cardWriteDone, oldest, completeCardWrite, stores]
      rfl
    · subst hw
      simp only [cardWriteDone, oldest, stores]
    · cases who with
      | serialiser => exact absurd rfl notSerialiser
      | loadData => exact absurd rfl notLoad
      | loadClear p => simp only [cardWriteDone, oldest]
      | restore => simp only [cardWriteDone, oldest]
  · rw [exec_journalWriteComplete low high, journalWriteDone_of_none absent]
  · refine ⟨_, exec_journalWriteComplete low high s, ?_⟩
    rw [journalWriteDone_of_split writes hx first]
    by_cases next : seq = successor s.journal.written
    · rw [markWritten_next next]
      exact ⟨rfl, fun h => absurd next h, fun _ => advanceMark_spec _ seq distinct le_rfl⟩
    · rw [markWritten_later next]
      exact ⟨rfl, fun _ => ⟨rfl, rfl⟩, fun h => absurd h next⟩

end Sys2Proof.Machine

/-! # The commands of the day, the watches, the notices and the intake stop -/

namespace Sys2Proof.Machine

/-! ## Fields -/

/-- A command's number is read back, and the bytes after it are ignored (R181). -/
theorem oneNumber_leBytes {max n v : Nat} (rest : List Byte) (hn : byteWidth max = n) (h : v < 256 ^ n) :
    oneNumber max (leBytes n v ++ rest) = some v := by
  rw [oneNumber, takeNum_leBytes rest hn h]
  rfl

theorem noticeSet_cons (kinds : BitVec 8) (rest : List Byte) : noticeSet (kinds :: rest) = some kinds := by
  have sent : kinds :: rest = leBytes 1 kinds.toNat ++ rest := by
    simp [leBytes]
  rw [noticeSet, sent, oneNumber_leBytes (max := 255) (n := 1) rest rfl kinds.isLt, Option.map_some, BitVec.ofNat_toNat,
    BitVec.setWidth_eq]

/-- The kinds of a watch slot are the low three bits of their mask (R115; log entry 25). -/
theorem watchKindsMask_watchKindsOf (k : BitVec 8) : BitVec.ofNat 8 (watchKindsMask (watchKindsOf k)) = k &&& 7#8 := by
  revert k
  decide

theorem watchKindsMask_eq_zero {k : BitVec 8} : watchKindsMask (watchKindsOf k) = 0 ↔ k &&& 7#8 = 0#8 := by
  revert k
  decide

theorem spanOk_iff {span : Nat} : spanOk span = true ↔ span ∈ [1, 16, 256, 4096] := by
  simp [spanOk, or_assoc]

theorem timeoutOk_iff {timeout : Option Nat} : timeoutOk timeout = true ↔ ∀ t, timeout = some t → 1 ≤ t ∧ t ≤ 60 := by
  cases timeout <;> simp [timeoutOk]

theorem watchSetOk_iff {f : WatchSetFields} : watchSetOk f = true ↔
    f.slot ≤ 3 ∧ f.base ≤ 16777215 ∧ f.span ∈ [1, 16, 256, 4096] ∧ f.kinds &&& 7#8 ≠ 0#8 ∧ f.action ≤ 1 ∧
      (∀ t, f.timeout = some t → 1 ≤ t ∧ t ≤ 60) ∧ f.localEnable ≠ none ∧ f.globalEnable ≠ none := by
  simp only [watchSetOk, Bool.and_eq_true, decide_eq_true_eq, bne_iff_ne, ne_eq, watchKindsMask_eq_zero, spanOk_iff,
    timeoutOk_iff, Option.isSome_iff_ne_none, and_assoc]
  exact and_congr_right' (and_congr_left' Nat.lt_succ_iff)

/-! ## Watch slots -/

theorem watchSlotOf_setWatchSlot_same (w : WatchUnit) (n : Nat) (v : WatchSlot) :
    watchSlotOf (setWatchSlot w n v) n = v := by
  rcases n with _ | _ | _ | n <;> rfl

theorem watchSlotOf_setWatchSlot_other (w : WatchUnit) {n m : Nat} (v : WatchSlot) (hn : n < 4) (hm : m < 4) (h : m ≠ n) :
    watchSlotOf (setWatchSlot w n v) m = watchSlotOf w m := by
  interval_cases n <;> interval_cases m <;> simp_all [watchSlotOf, setWatchSlot]

theorem setWatchSlot_frame (w : WatchUnit) (n : Nat) (v : WatchSlot) :
    setWatchSlot w n v =
      { w with
        slot0 := (setWatchSlot w n v).slot0, slot1 := (setWatchSlot w n v).slot1
        slot2 := (setWatchSlot w n v).slot2, slot3 := (setWatchSlot w n v).slot3 } := by
  rcases n with _ | _ | _ | n <;> rfl

/-- The answer of a WATCH SET gives the slot as written (R116; log entries 9 and 12). -/
theorem watchSlotBytes_watchSlotFrom {f : WatchSetFields} (ha : f.action ≤ 1) (hl : f.localEnable ≠ none)
    (hg : f.globalEnable ≠ none) :
    watchSlotBytes (watchSlotFrom f) =
      [if f.localEnable = some true then 0#8 else 1#8] ++ [if f.globalEnable = some true then 0#8 else 1#8]
        ++ leBytes 3 (f.base / f.span * f.span) ++ leBytes 2 f.span ++ [f.kinds &&& 7#8] ++ leBytes 1 f.action := by
  have enable {o : Option Bool} (h : o ≠ none) : num 1 (yesNoCode (o.getD false)) = [if o = some true then 0#8 else 1#8] := by
    rcases o with _ | _ | _
    exacts [absurd rfl h, rfl, rfl]
  have kinds : num 7 (watchKindsMask (watchKindsOf f.kinds)) = [f.kinds &&& 7#8] :=
    congrArg (fun b => [b]) (watchKindsMask_watchKindsOf f.kinds)
  have action : num 1 (watchActionCode (if f.action = 0 then .note else .park)) = leBytes 1 f.action := by
    generalize f.action = a at ha
    interval_cases a <;> rfl
  simp only [watchSlotBytes, watchSlotFrom, enable hl, enable hg, kinds, action, Nat.div_mul_self_eq_mod_sub_self]
  rfl

/-! ## The commands -/

section Commands
variable {s : State} {c : MgmtCommand}

theorem dayAdvance_forward (fields : List Byte) {n : Nat} (hf : oneNumber 65535 fields = some n) (h : s.mgmt.day < n) :
    dayAdvance fields s =
      ((s.withMgmt { s.mgmt with day := n }).withWatch (clearLocalEnables s.watch), .done (num 65535 n)) := by
  simp only [dayAdvance, hf, if_pos h]

theorem dayAdvance_back (fields : List Byte) {n : Nat} (hf : oneNumber 65535 fields = some n) (h : n ≤ s.mgmt.day) :
    dayAdvance fields s = (s, .done (num 65535 s.mgmt.day)) := by
  simp only [dayAdvance, hf, if_neg (Nat.not_lt.2 h)]

theorem watchSet_refused {fields : List Byte} {f : WatchSetFields} (hf : watchSetFields fields = some f)
    (h : ¬watchSetOk f = true) : watchSet fields s = refuse .range s := by
  simp only [watchSet, hf, if_neg h]

theorem watchSet_writes {fields : List Byte} {f : WatchSetFields} (hf : watchSetFields fields = some f)
    (h : watchSetOk f = true) :
    watchSet fields s =
      (s.withWatch { setWatchSlot s.watch f.slot (watchSlotFrom f) with timeout := f.timeout.getD s.watch.timeout },
        .done (watchSlotBytes (watchSlotFrom f) ++ num 60 (f.timeout.getD s.watch.timeout))) := by
  simp only [watchSet, hf, if_pos h]

theorem watchClear_refused {fields : List Byte} {n : Nat} (hf : oneNumber 3 fields = some n) (h : 3 < n) :
    watchClear fields s = refuse .range s := by
  simp only [watchClear, hf, if_pos h]

theorem watchClear_clears {fields : List Byte} {n : Nat} (hf : oneNumber 3 fields = some n) (h : n ≤ 3) :
    watchClear fields s = (s.withWatch (setWatchSlot s.watch n .initial), .done []) := by
  simp only [watchClear, hf, if_neg (Nat.not_lt.2 h)]

theorem noticeClear_kinds {fields : List Byte} {kinds : BitVec 8} (hf : noticeSet fields = some kinds) :
    noticeClear fields s =
      (s.withMgmt
        { s.mgmt with
          pending := s.mgmt.pending &&& ~~~kinds, qualifiers := s.mgmt.qualifiers &&& ~~~(qualifiersOf kinds) },
        .done [s.mgmt.pending &&& ~~~kinds]) := by
  simp only [noticeClear, hf]

theorem noticeEnable_kinds {kinds : BitVec 8} (hf : noticeSet c.fields = some kinds) :
    let answered := reply c.code c.tag (.done [kinds]) (s.withMgmt { s.mgmt with enabled := kinds })
    noticeEnable c s = if s.mgmt.pending &&& kinds = 0#8 then answered else sendNotice answered := by
  have pends : enabledPending (reply c.code c.tag (.done [kinds]) (s.withMgmt { s.mgmt with enabled := kinds })) = true ↔
      ¬s.mgmt.pending &&& kinds = 0#8 := bne_iff_ne
  simp only [noticeEnable, hf, pends, ite_not]

end Commands

/-- Settles O51. -/
theorem dayWatchesAndNoticesSet : Obligations.DayWatchesAndNoticesSet := by
  intro s c n extra
  refine ⟨fun h hf hn => ⟨fun back => ?_, fun forward => ?_⟩, fun f h hf => ?_, fun h hf hn => ⟨fun out => ?_, fun inside => ?_⟩,
    fun h => ?_, fun kinds hf => ⟨fun h => ?_, fun h => ?_⟩, fun h => ?_, fun h => ?_⟩
  · have number := (congrArg (oneNumber 65535) hf).trans (oneNumber_leBytes (n := 2) extra rfl hn)
    exact congrArg _ (takeAtOnce_of_admits h (dayAdvance_back (s := s.unqueued) c.fields number back))
  · have number := (congrArg (oneNumber 65535) hf).trans (oneNumber_leBytes (n := 2) extra rfl hn)
    exact congrArg _ (takeAtOnce_of_admits h (dayAdvance_forward (s := s.unqueued) c.fields number forward))
  · intro inRange
    refine ⟨fun out => ?_, fun inside => ?_⟩
    · exact congrArg _ (takeAtOnce_refused h (watchSet_refused hf (mt watchSetOk_iff.1 out)))
    · have ok := watchSetOk_iff.2 inside
      have low : f.slot < 4 := Nat.lt_succ_of_le inside.1
      obtain ⟨-, -, -, -, action, -, hl, hg⟩ := inside
      refine ⟨s.withWatch { setWatchSlot s.watch f.slot (watchSlotFrom f) with timeout := f.timeout.getD s.watch.timeout },
        ?_, rfl, ?_, fun m hm hne => ?_, ?_⟩
      · refine (congrArg _ (takeAtOnce_of_admits h (watchSet_writes (s := s.unqueued) hf ok))).trans ?_
        rw [watchSlotBytes_watchSlotFrom action hl hg]
        rfl
      · refine (watchSlotOf_setWatchSlot_same s.watch f.slot (watchSlotFrom f)).trans ?_
        rw [watchSlotFrom, Nat.div_mul_self_eq_mod_sub_self]
        rfl
      · exact watchSlotOf_setWatchSlot_other s.watch (watchSlotFrom f) low hm hne
      · exact congrArg (fun w : WatchUnit => { w with timeout := f.timeout.getD s.watch.timeout })
          (setWatchSlot_frame s.watch f.slot (watchSlotFrom f))
  · have number := (congrArg (oneNumber 3) hf).trans (oneNumber_leBytes (n := 1) extra rfl hn)
    exact congrArg _ (takeAtOnce_refused h (watchClear_refused number out))
  · have number := (congrArg (oneNumber 3) hf).trans (oneNumber_leBytes (n := 1) extra rfl hn)
    refine ⟨s.withWatch (setWatchSlot s.watch n .initial), ?_, rfl, watchSlotOf_setWatchSlot_same .., fun m hm hne => ?_, ?_⟩
    · exact congrArg _ (takeAtOnce_of_admits h (watchClear_clears (s := s.unqueued) number inside))
    · exact watchSlotOf_setWatchSlot_other _ _ (Nat.lt_succ_of_le inside) hm hne
    · exact setWatchSlot_frame ..
  · exact congrArg _ (takeAtOnce_of_admits (rule := watchClearStatus) h rfl)
  · have named : noticeSet c.fields = some kinds := by rw [hf, noticeSet_cons]
    exact congrArg _ (takeAtOnce_of_admits h (noticeClear_kinds (s := s.unqueued) named))
  · have named : noticeSet c.fields = some kinds := by rw [hf, noticeSet_cons]
    exact congrArg _ ((takeCommand_of_admits h noticeEnable).trans (noticeEnable_kinds named))
  · exact congrArg _ (takeAtOnce_of_admits (rule := fun _ => setIntakeStop true) h rfl)
  · exact congrArg _ (takeAtOnce_of_admits (rule := fun _ => setIntakeStop false) h rfl)

end Sys2Proof.Machine

/-! # The commands that name a card -/

namespace Sys2Proof.Machine

/-! ## What the readers of fields accept (R181) -/

theorem leBytes_leNat (bs : List Byte) : leBytes bs.length (leNat bs) = bs := by
  induction bs with
  | nil => rfl
  | cons b bs ih =>
    have low : BitVec.ofNat 8 (b.toNat + 256 * leNat bs) = b := by
      apply BitVec.eq_of_toNat_eq
      rw [BitVec.toNat_ofNat, Nat.add_mul_mod_self_left, Nat.mod_eq_of_lt b.isLt]
    have high : (b.toNat + 256 * leNat bs) / 256 = leNat bs := by
      have := b.isLt
      omega
    rw [List.length_cons, leNat, leBytes, low, high, ih]

theorem takeBytes_eq_some {n : Nat} {bs v rest : List Byte} :
    takeBytes n bs = some (v, rest) ↔ v.length = n ∧ bs = v ++ rest := by
  refine ⟨fun h => ?_, fun ⟨hv, hb⟩ => hb ▸ takeBytes_append rest hv⟩
  unfold takeBytes at h
  split at h
  · cases h
  · cases h
    exact ⟨List.length_take_of_le (Nat.not_lt.1 ‹_›), (List.take_append_drop n bs).symm⟩

theorem takeNumber_eq_some {n v : Nat} {bs rest : List Byte} :
    takeNumber n bs = some (v, rest) ↔ v < 256 ^ n ∧ bs = leBytes n v ++ rest := by
  refine ⟨fun h => ?_, fun ⟨hv, hb⟩ => hb ▸ takeNumber_leBytes rest hv⟩
  unfold takeNumber at h
  split at h
  · cases h
  · cases h
    have whole : (bs.take n).length = n := List.length_take_of_le (Nat.not_lt.1 ‹_›)
    have sent : leBytes n (leNat (bs.take n)) = bs.take n := by
      simpa only [whole] using leBytes_leNat (bs.take n)
    have small := leNat_lt (bs.take n)
    rw [whole] at small
    exact ⟨small, by rw [sent, List.take_append_drop]⟩

theorem takeNum_eq_some {max n v : Nat} (hn : byteWidth max = n) {bs rest : List Byte} :
    takeNum max bs = some (v, rest) ↔ v < 256 ^ n ∧ bs = leBytes n v ++ rest := by
  rw [takeNum, hn, takeNumber_eq_some]

/-- An optional field stands behind its presence byte (R181; log entry 34). -/
theorem takeOptional_eq_some {α : Type} {f : List Byte → Option (α × List Byte)} {g : α → List Byte} {fits : α → Prop}
    (hf : ∀ {bs v rest}, f bs = some (v, rest) ↔ fits v ∧ bs = g v ++ rest) {bs rest : List Byte} {o : Option α} :
    takeOptional f bs = some (o, rest) ↔ (∀ v, o = some v → fits v) ∧ bs = optional g o ++ rest := by
  cases bs with
  | nil => cases o <;> simp [takeOptional, optional]
  | cons b bytes =>
    by_cases h0 : b = 0#8
    · subst h0
      cases o <;> simp [takeOptional, optional]
    · by_cases h1 : b = 1#8
      · subst h1
        cases o <;> simp [takeOptional, optional, hf]
      · cases o <;> simp [takeOptional, optional, h0, h1]

theorem cardStateOf_eq_some {n : Nat} {st : CardState} : cardStateOf n = some st ↔ n = cardStateCode st := by
  refine ⟨fun h => ?_, fun h => by subst h; cases st <;> rfl⟩
  unfold cardStateOf at h
  split at h <;> cases h <;> rfl

/-! ## Card names (R170) -/

/-- A card name fits the bytes that carry it. -/
def nameFits : CardName → Prop
  | .number digits => digits.length = 16
  | .index n => n < 16777216

/-- A card name as it is sent (R181). -/
def nameBytes : CardName → List Byte
  | .number digits => 0#8 :: digits
  | .index n => 1#8 :: leBytes 3 n

theorem takeCardName_eq_some {bs rest : List Byte} {name : CardName} :
    takeCardName bs = some (name, rest) ↔ nameFits name ∧ bs = nameBytes name ++ rest := by
  cases bs with
  | nil => cases name <;> simp [takeCardName, nameBytes]
  | cons b bytes =>
    by_cases h0 : b = 0#8
    · subst h0
      simp only [takeCardName, if_true, Option.map_eq_some_iff, Prod.mk.injEq, Prod.exists, takeBytes_eq_some]
      cases name with
      | number digits => simp [nameFits, nameBytes]
      | index n => simp [nameBytes]
    · by_cases h1 : b = 1#8
      · subst h1
        simp only [takeCardName, if_neg h0, if_true, Option.map_eq_some_iff, Prod.mk.injEq, Prod.exists,
          takeNum_eq_some (max := 16777215) (n := 3) rfl]
        cases name with
        | number digits => simp [nameBytes]
        | index n => simp [nameFits, nameBytes]
      · cases name <;> simp [takeCardName, nameBytes, h0, h1]

theorem cardFields_eq_some {bs : List Byte} {name : CardName} :
    cardFields bs = some name ↔ nameFits name ∧ ∃ rest, bs = nameBytes name ++ rest := by
  simp [cardFields, takeCardName_eq_some]

/-- The fields name a card where they begin with a name that gives its index (R170). -/
theorem namesCard_iff {s : State} {bs : List Byte} {card : Nat} :
    namesCard s bs card ↔ ∃ name rest, nameFits name ∧ bs = nameBytes name ++ rest ∧ cardNamed s name = some card := by
  constructor
  · rintro (⟨rest, rfl, low⟩ | ⟨number, digits, rest, p, e, rfl, length, spell, issued, check⟩)
    · exact ⟨.index card, rest, low, rfl, if_pos low⟩
    · refine ⟨.number number, rest, length, rfl, ?_⟩
      have found : programOfPrefix s (issuerOf digits) = some (p, e) := issued
      simp only [cardNamed, spell, found, check]
  · rintro ⟨number | n, rest, fits, rfl, named⟩
    · right
      simp only [cardNamed] at named
      split at named
      · cases named
      · split at named
        · cases named
        · exact ⟨number, _, rest, _, _, rfl, fits, ‹_›, ‹_›, named⟩
    · left
      simp only [cardNamed] at named
      split at named <;> cases named
      exact ⟨rest, rfl, fits⟩

theorem cardFields_bind_eq_some {s : State} {bs : List Byte} {card : Nat} :
    (cardFields bs).bind (cardNamed s) = some card ↔ namesCard s bs card := by
  simp only [Option.bind_eq_some_iff, cardFields_eq_some, namesCard_iff]
  constructor
  · rintro ⟨name, ⟨fits, rest, hb⟩, named⟩
    exact ⟨name, rest, fits, hb, named⟩
  · rintro ⟨name, rest, fits, hb, named⟩
    exact ⟨name, ⟨fits, rest, hb⟩, named⟩

/-! ## The fields of a CARD WRITE (R110) -/

theorem cardWriteBytes_eq (f : CardWriteFields) :
    cardWriteBytes f =
      leBytes 1 (cardStateCode f.state) ++ leBytes 4 f.paid ++ leBytes 3 f.bonus ++ optional (leBytes 2) f.bonusExpiry
        ++ optional id f.verify ++ leBytes 1 f.verifyFailures := by
  unfold cardWriteBytes optional
  cases f.bonusExpiry <;> cases f.verify <;> rfl

theorem takeExpiry_eq_some {bs rest : List Byte} {o : Option Nat} :
    takeOptional (takeNum 65535) bs = some (o, rest) ↔
      (∀ d, o = some d → d < 65536) ∧ bs = optional (leBytes 2) o ++ rest :=
  takeOptional_eq_some (takeNum_eq_some (max := 65535) (n := 2) rfl)

theorem takeVerify_eq_some {bs rest : List Byte} {o : Option (List Byte)} :
    takeOptional (takeBytes 3) bs = some (o, rest) ↔ (∀ v, o = some v → v.length = 3) ∧ bs = optional id o ++ rest :=
  takeOptional_eq_some takeBytes_eq_some

/-- The fields of a CARD WRITE are read just where they stand as R110 and R181 code them. -/
theorem cardWriteFields_eq_some {bs : List Byte} {name : CardName} {f : CardWriteFields} :
    cardWriteFields bs = some (name, f) ↔
      nameFits name ∧ cardWriteFit f ∧ ∃ rest, bs = nameBytes name ++ cardWriteBytes f ++ rest := by
  simp only [cardWriteFields, Option.bind_eq_bind, Option.bind_eq_some_iff, Prod.exists, Option.pure_def,
    Option.some.injEq, Prod.mk.injEq, takeCardName_eq_some, takeNum_eq_some (max := 255) (n := 1) rfl,
    takeNum_eq_some (max := 2147483647) (n := 4) rfl, takeNum_eq_some (max := 10000000) (n := 3) rfl,
    takeNum_eq_some (max := 3) (n := 1) rfl, takeExpiry_eq_some, takeVerify_eq_some, cardStateOf_eq_some, cardWriteBytes_eq]
  constructor
  · rintro ⟨_, _, ⟨fits, rfl⟩, _, _, ⟨-, rfl⟩, state, rfl, paid, _, ⟨hp, rfl⟩, bonus, _, ⟨hb, rfl⟩, expiry, _, ⟨he, rfl⟩,
      verify, _, ⟨hv, rfl⟩, failures, rest, ⟨hn, rfl⟩, rfl, rfl⟩
    exact ⟨fits, ⟨hp, hb, hn, he, hv⟩, rest, by simp only [List.append_assoc]⟩
  · rintro ⟨fits, ⟨hp, hb, hn, he, hv⟩, rest, rfl⟩
    simp only [List.append_assoc]
    refine ⟨_, _, ⟨fits, rfl⟩, _, _, ⟨?_, rfl⟩, _, rfl, _, _, ⟨hp, rfl⟩, _, _, ⟨hb, rfl⟩, _, _,
      ⟨he, rfl⟩, _, _, ⟨hv, rfl⟩, _, _, ⟨hn, rfl⟩, rfl, rfl⟩
    cases f.state <;> decide

theorem nameBytes_length {name : CardName} (h : nameFits name) :
    (nameBytes name).length = if (nameBytes name).head? = some 1#8 then 4 else 17 := by
  cases name with
  | number digits => exact congrArg Nat.succ h
  | index n => simp [nameBytes]

/-- Bytes as long as the name they begin with are that name. -/
theorem nameBytes_unfollowed {name : CardName} {more : List Byte} (h : nameFits name)
    (length : (nameBytes name ++ more).length = if (nameBytes name ++ more).head? = some 1#8 then 4 else 17) : more = [] := by
  have starts : (nameBytes name ++ more).head? = (nameBytes name).head? := by cases name <;> rfl
  rw [starts, List.length_append, nameBytes_length h] at length
  exact List.eq_nil_of_length_eq_zero (by omega)

theorem writesFields_iff {s : State} {bs : List Byte} {card : Nat} {f : CardWriteFields} :
    writesFields s bs card f ↔ ∃ name, cardWriteFields bs = some (name, f) ∧ cardNamed s name = some card := by
  simp only [cardWriteFields_eq_some]
  constructor
  · rintro ⟨bytes, rest, names, length, fit, rfl⟩
    obtain ⟨name, more, fits, rfl, named⟩ := namesCard_iff.1 names
    cases nameBytes_unfollowed fits length
    exact ⟨name, ⟨fits, fit, rest, by rw [List.append_nil]⟩, named⟩
  · rintro ⟨name, ⟨fits, fit, rest, rfl⟩, named⟩
    exact ⟨nameBytes name, rest, namesCard_iff.2 ⟨name, [], fits, (List.append_nil _).symm, named⟩, nameBytes_length fits,
      fit, rfl⟩

/-! ## Cards of a program in LIVE or DRAINING -/

theorem servingProgram_isSome_iff {s : State} {card : Nat} : (servingProgram s card).isSome = true ↔ servesCard s card := by
  simp only [servingProgram, servesCard, Option.isSome_map, List.find?_isSome, Bool.and_eq_true, decide_eq_true_eq,
    inRange_iff]

theorem startItem_unqueued (s : State) (c : MgmtCommand) (it : Item) :
    startItem c.code c.tag it s.unqueued = s.handsOver c it := by
  unfold startItem State.handsOver
  rcases handOver it s.unqueued with ⟨_ | _ | _ | _, t⟩ <;> rfl

/-! ## The commands -/

section Commands
variable {s : State} {c : MgmtCommand} {card : Nat} {name : Option CardName} {body : ItemBody}

theorem cardRead_served (named : (cardFields c.fields).bind (cardNamed s) = some card) (serves : servesCard s card) :
    cardRead c s.unqueued = s.handsOver c (managementItem s card (.cardRead c.tag)) := by
  have named : (cardFields c.fields).bind (cardNamed s.unqueued) = some card := named
  obtain ⟨p, hp⟩ := Option.isSome_iff_exists.1 (servingProgram_isSome_iff.2 serves)
  have hp : servingProgram s.unqueued card = some p := hp
  simp only [cardRead, named, hp, startItem_unqueued]
  rfl

theorem cardRead_direct (named : (cardFields c.fields).bind (cardNamed s) = some card) (serves : ¬servesCard s card) :
    cardRead c s.unqueued =
      queueRead (.direct card) (s.unqueued.withMgmt { s.mgmt with reading := some (.card c.tag card) }) := by
  have named : (cardFields c.fields).bind (cardNamed s.unqueued) = some card := named
  have none : servingProgram s.unqueued card = none :=
    Option.not_isSome_iff_eq_none.1 (mt servingProgram_isSome_iff.1 serves)
  simp only [cardRead, named, none]
  rfl

theorem cardRead_unnamed (unnamed : (cardFields c.fields).bind (cardNamed s) = none) :
    cardRead c s.unqueued = s.answering c (.refused .range) := by
  have unnamed : (cardFields c.fields).bind (cardNamed s.unqueued) = none := unnamed
  simp only [cardRead, unnamed]
  rfl

theorem cardCorrection_served (named : name.bind (cardNamed s) = some card) (serves : servesCard s card) :
    cardCorrection c name body s.unqueued = s.handsOver c (managementItem s card body) := by
  have named : name.bind (cardNamed s.unqueued) = some card := named
  have served : ¬(servingProgram s.unqueued card).isNone = true :=
    mt Option.isNone_iff_eq_none.1 (Option.isSome_iff_ne_none.1 (servingProgram_isSome_iff.2 serves))
  simp only [cardCorrection, named, if_neg served, startItem_unqueued]
  rfl

theorem cardCorrection_unserved (named : name.bind (cardNamed s) = some card) (serves : ¬servesCard s card) :
    cardCorrection c name body s.unqueued = s.answering c (.refused .state) := by
  have named : name.bind (cardNamed s.unqueued) = some card := named
  have unserved : (servingProgram s.unqueued card).isNone = true :=
    Option.isNone_iff_eq_none.2 (Option.not_isSome_iff_eq_none.1 (mt servingProgram_isSome_iff.1 serves))
  simp only [cardCorrection, named, if_pos unserved]
  rfl

theorem cardCorrection_unnamed (unnamed : name.bind (cardNamed s) = none) :
    cardCorrection c name body s.unqueued = s.answering c (.refused .range) := by
  have unnamed : name.bind (cardNamed s.unqueued) = none := unnamed
  simp only [cardCorrection, unnamed]
  rfl

theorem cardWrite_of_writesFields {f : CardWriteFields} (h : writesFields s c.fields card f) :
    ∃ name : CardName, (some name).bind (cardNamed s) = some card ∧
      cardWrite c s.unqueued = cardCorrection c (some name) (.cardWrite c.tag f) s.unqueued := by
  obtain ⟨name, fields, named⟩ := writesFields_iff.1 h
  exact ⟨name, named, by simp only [cardWrite, fields]⟩

theorem cardWrite_refused (h : ∀ k f, ¬writesFields s c.fields k f) :
    cardWrite c s.unqueued = s.answering c (.refused .range) := by
  rcases fields : cardWriteFields c.fields with _ | ⟨name, f⟩
  · simp only [cardWrite, fields]
    rfl
  · have unnamed : (some name).bind (cardNamed s) = none :=
      Option.eq_none_iff_forall_not_mem.2 fun k named => h k f (writesFields_iff.2 ⟨name, fields, named⟩)
    simp only [cardWrite, fields]
    exact cardCorrection_unnamed unnamed

end Commands

/-- Settles O52. -/
theorem cardCommandsReachTheirCard : Obligations.CardCommandsReachTheirCard := by
  intro s c card item
  refine ⟨fun h names => ⟨fun serves => ?_, fun serves => ?_⟩, fun h names => ⟨fun serves => ?_, fun serves => ?_⟩,
    fun h names => ⟨fun serves => ?_, fun serves => ?_⟩, fun unnamed => ?_, fun f h fields => ?_, fun h fields => ?_⟩
  · exact congrArg _ ((takeCommand_of_admits h cardRead).trans (cardRead_served (cardFields_bind_eq_some.2 names) serves))
  · exact congrArg _ ((takeCommand_of_admits h cardRead).trans (cardRead_direct (cardFields_bind_eq_some.2 names) serves))
  · exact congrArg _ ((takeCommand_of_admits h cardFreeze).trans
      (cardCorrection_served (cardFields_bind_eq_some.2 names) serves))
  · exact congrArg _ ((takeCommand_of_admits h cardFreeze).trans
      (cardCorrection_unserved (cardFields_bind_eq_some.2 names) serves))
  · exact congrArg _ ((takeCommand_of_admits h cardThaw).trans
      (cardCorrection_served (cardFields_bind_eq_some.2 names) serves))
  · exact congrArg _ ((takeCommand_of_admits h cardThaw).trans
      (cardCorrection_unserved (cardFields_bind_eq_some.2 names) serves))
  · have unnamed : (cardFields c.fields).bind (cardNamed s) = none :=
      Option.eq_none_iff_forall_not_mem.2 fun k named => unnamed k (cardFields_bind_eq_some.1 named)
    exact ⟨fun h => congrArg _ ((takeCommand_of_admits h cardRead).trans (cardRead_unnamed unnamed)),
      fun h => congrArg _ ((takeCommand_of_admits h cardFreeze).trans (cardCorrection_unnamed unnamed)),
      fun h => congrArg _ ((takeCommand_of_admits h cardThaw).trans (cardCorrection_unnamed unnamed))⟩
  · obtain ⟨name, named, corrects⟩ := cardWrite_of_writesFields fields
    have taken := (takeCommand_of_admits h cardWrite).trans corrects
    exact ⟨fun serves => congrArg _ (taken.trans (cardCorrection_served named serves)),
      fun serves => congrArg _ (taken.trans (cardCorrection_unserved named serves))⟩
  · exact congrArg _ ((takeCommand_of_admits h cardWrite).trans (cardWrite_refused fields))

end Sys2Proof.Machine

/-! # HOLD DROP, WATCH RELEASE and CARD RESTORE -/

namespace Sys2Proof.Machine

/-! ## HOLD DROP (R80) -/

section HoldDrop
variable {s : State} {m : Nat}

theorem dropDue_of_open (h : (s.slot m).state = .openHold) :
    dropDue m s = (makeDue s m).withExpiryList (s.expiryList.filter fun n => n != m) := if_pos h

theorem dropDue_of_not_open (h : (s.slot m).state ≠ .openHold) : dropDue m s = s := if_neg h

/-- A hold that is dropped leaves all but the Hold Table and the expiry list as they stand. -/
theorem dropDue_frame (m : Nat) (s : State) :
    dropDue m s = { s with slots := (dropDue m s).slots, expiryList := (dropDue m s).expiryList } := by
  unfold dropDue
  split <;> rfl

theorem dropDue_unqueued (m : Nat) (s : State) : dropDue m s.unqueued = (dropDue m s).unqueued := by
  by_cases h : (s.slot m).state = .openHold
  · rw [dropDue_of_open h, dropDue_of_open (s := s.unqueued) h]
    rfl
  · rw [dropDue_of_not_open h, dropDue_of_not_open (s := s.unqueued) h]

theorem wfWith_dropDue (wf : Tab.wfWith .initial s.slots = true) : Tab.wfWith .initial (dropDue m s).slots = true := by
  by_cases h : (s.slot m).state = .openHold
  · rw [dropDue_of_open h]
    exact wfWith_setSlot wf m { s.slot m with state := .lapseDue, issued := false }
  · rwa [dropDue_of_not_open h]

theorem dropDue_slot (wf : Tab.wfWith .initial s.slots = true) (h : (s.slot m).state = .openHold) (n : Nat) :
    (dropDue m s).slot n = if n = m then { s.slot m with state := .lapseDue, issued := false } else s.slot n := by
  rw [dropDue_of_open h]
  exact slot_setSlot wf m n { s.slot m with state := .lapseDue, issued := false }

theorem dropDue_expiryList (h : (s.slot m).state = .openHold) :
    (dropDue m s).expiryList = s.expiryList.filter fun n => n != m := by
  rw [dropDue_of_open h]
  rfl

/-- A drop keeps the card and the program of its slot. -/
theorem dropDue_slot_owner (wf : Tab.wfWith .initial s.slots = true) :
    ((dropDue m s).slot m).card = (s.slot m).card ∧ ((dropDue m s).slot m).program = (s.slot m).program := by
  by_cases h : (s.slot m).state = .openHold
  · rw [dropDue_slot wf h, if_pos rfl]
    exact ⟨rfl, rfl⟩
  · rw [dropDue_of_not_open h]
    exact ⟨rfl, rfl⟩

variable {c : MgmtCommand} {n : Nat}

theorem holdDrop_noHold (named : oneNumber 4194303 c.fields = some n)
    (h : 16384 ≤ n / 256 ∨ (s.slot (n / 256)).reuse ≠ n % 256 ∨ (s.slot (n / 256)).state = .free) :
    holdDrop c s.unqueued = s.answering c (.refused .noHold) := by
  have missing : ¬(n / 256 < holdTableSize ∧ (s.slot (n / 256)).reuse = n % 256 ∧ (s.slot (n / 256)).state ≠ .free) := by
    rintro ⟨low, reuse, used⟩
    rcases h with h | h | h
    exacts [Nat.not_le.2 low h, h reuse, used h]
  simp only [holdDrop, named]
  exact if_neg missing

theorem holdDrop_found (named : oneNumber 4194303 c.fields = some n) (low : n / 256 < 16384)
    (reuse : (s.slot (n / 256)).reuse = n % 256) (used : (s.slot (n / 256)).state ≠ .free) :
    holdDrop c s.unqueued = issueDrop c (holdRefOf n) (dropDue (n / 256) s).unqueued := by
  rw [← dropDue_unqueued]
  simp only [holdDrop, named]
  exact if_pos ⟨low, reuse, used⟩

/-- The drop item of a slot. -/
def dropItem (c : MgmtCommand) (ref : HoldRef) (h : HoldSlot) : Item :=
  { card := h.card, program := some h.program, skip := false, body := .lapse ref (some c.tag) }

variable {t u : State} {ref : HoldRef}

theorem issueDrop_entered (h : handOver (dropItem c ref (t.slot ref.slot)) t.unqueued = (.entered, u)) :
    issueDrop c ref t.unqueued = (u.setSlot ref.slot { t.slot ref.slot with issued := true }).inFlight c := by
  have h : handOver (dropItem c ref (t.unqueued.slot ref.slot)) t.unqueued = (.entered, u) := h
  simp only [dropItem] at h
  simp only [issueDrop, h]
  rfl

theorem issueDrop_quarantined (h : handOver (dropItem c ref (t.slot ref.slot)) t.unqueued = (.quarantined, u)) :
    issueDrop c ref t.unqueued = t.answering c (.refused .unavailable) := by
  have h : handOver (dropItem c ref (t.unqueued.slot ref.slot)) t.unqueued = (.quarantined, u) := h
  simp only [dropItem] at h
  simp only [issueDrop, h]
  rfl

theorem issueDrop_full {v : HandOver} (full : v = .waitingFull ∨ v = .listFull)
    (h : handOver (dropItem c ref (t.slot ref.slot)) t.unqueued = (v, u)) :
    issueDrop c ref t.unqueued = t.answering c (.refused .busy) := by
  have h : handOver (dropItem c ref (t.unqueued.slot ref.slot)) t.unqueued = (v, u) := h
  simp only [dropItem] at h
  rcases full with rfl | rfl
  all_goals
    simp only [issueDrop, h]
    rfl

end HoldDrop

/-! ## WATCH RELEASE (R122) -/

section WatchRelease
variable {s : State} {c : MgmtCommand}

theorem watchReleaseFields_bytes {id action card store lane seq : Nat} (extra : List Byte) (hi : id < 256) (ha : action < 256)
    (hc : card < 16777216) (hs : store < 65536) (hl : lane < 256) (hq : seq < 65536) :
    watchReleaseFields
        (leBytes 1 id ++ leBytes 1 action ++ leBytes 3 card ++ leBytes 2 store ++ leBytes 1 lane ++ leBytes 2 seq ++ extra) =
      some { parkId := id, action := action, card := card, till := { store := store, lane := lane }, seq := seq } := by
  have till (rest : List Byte) :
      takeTill (leBytes 2 store ++ (leBytes 1 lane ++ rest)) = some ({ store := store, lane := lane }, rest) :=
    (takeNum_bind (n := 2) _ rfl hs).trans ((takeNum_bind (n := 1) _ rfl hl).trans rfl)
  simp only [List.append_assoc]
  refine (takeNum_bind (n := 1) _ rfl hi).trans <| (takeNum_bind (n := 1) _ rfl ha).trans <|
    (takeNum_bind (n := 3) _ rfl hc).trans ?_
  simp only [till, Option.bind_eq_bind, Option.bind_some, takeNum_leBytes (max := 65535) (n := 2) extra rfl hq]
  rfl

/-- A park entry holds a till item of a card, with a till id and a sequence number (R122). -/
def parkHolds (f : WatchReleaseFields) (p : ParkEntry) : Prop :=
  ∃ q₀, p.item.body = .till q₀ ∧ p.card = f.card ∧ q₀.till = f.till ∧ q₀.seq = f.seq

theorem parkNamed_iff {f : WatchReleaseFields} {p : ParkEntry} : parkNamed f p = true ↔ parkHolds f p := by
  unfold parkNamed parkHolds
  split
  · rename_i body
    simp [body, and_assoc]
  · rename_i other
    exact ⟨fun h => absurd h Bool.false_ne_true, fun ⟨q₀, body, _⟩ => absurd body (other q₀)⟩

variable {f : WatchReleaseFields} (fields : watchReleaseFields c.fields = some f)
include fields

theorem watchRelease_range (h : 15 < f.parkId ∨ 1 < f.action) :
    watchRelease c s.unqueued = s.answering c (.refused .range) := by
  simp only [watchRelease, fields, if_pos h]
  rfl

theorem watchRelease_tooLate (low : f.parkId ≤ 15) (act : f.action ≤ 1)
    (missing : ∀ p, Tab.find s.watch.park f.parkId = some p → ¬parkHolds f p) :
    watchRelease c s.unqueued = s.answering c (.refused .tooLate) := by
  have listed : ¬(15 < f.parkId ∨ 1 < f.action) := by omega
  simp only [watchRelease, fields, if_neg listed]
  rcases found : Tab.find s.watch.park f.parkId with _ | p
  · have found : Tab.find s.unqueued.watch.park f.parkId = none := found
    rw [found]
    rfl
  · have unnamed := mt parkNamed_iff.1 (missing p found)
    have found : Tab.find s.unqueued.watch.park f.parkId = some p := found
    simp only [found, if_neg unnamed]
    rfl

theorem watchRelease_named {p : ParkEntry} (low : f.parkId ≤ 15) (act : f.action ≤ 1)
    (found : Tab.find s.watch.park f.parkId = some p) (holds : parkHolds f p) :
    watchRelease c s.unqueued =
      let answered := s.answering c (.done (num 15 f.parkId ++ num 1 f.action))
      if f.action = 0 then allowParked f.parkId p answered else referParked f.parkId p answered := by
  have found : Tab.find s.unqueued.watch.park f.parkId = some p := found
  have listed : ¬(15 < f.parkId ∨ 1 < f.action) := by omega
  simp only [watchRelease, fields, if_neg listed, found, if_pos (parkNamed_iff.2 holds)]
  rfl

end WatchRelease

/-! ## CARD RESTORE (R112) -/

section CardRestore
variable {s : State} {c : MgmtCommand} {card : Nat} {l : LoadRecord}

theorem cardRestoreFields_bytes {bytes : List Byte} (extra : List Byte) (hc : card < 16777216) (hb : bytes.length = 24) :
    cardRestoreFields (leBytes 3 card ++ bytes ++ extra) = some (card, decodeLoadRecord bytes) := by
  rw [List.append_assoc]
  refine (takeNum_bind (n := 3) _ rfl hc).trans ?_
  simp only [takeBytes_append extra hb]
  rfl

/-- A load record lies within the limits of a restore (R112). -/
def RestoreInLimits (k : Settings) (day : Nat) (l : LoadRecord) : Prop :=
  l.stateCode ≤ 3 ∧ l.paid ≤ k.maxBalance ∧ l.bonus ≤ k.bonusCeiling ∧
  (∀ v, l.verify = some v → ∀ b ∈ v, 48 ≤ b.toNat ∧ b.toNat ≤ 57) ∧
  (0 < l.bonus → ∃ d, l.bonusExpiry = some d ∧ day ≤ d)

theorem restoreRecordOk_iff {k : Settings} {day : Nat} : restoreRecordOk k day l = true ↔ RestoreInLimits k day l := by
  have expiry : (l.bonus = 0 ∨ ∃ d, l.bonusExpiry = some d ∧ day ≤ d) ↔
      (0 < l.bonus → ∃ d, l.bonusExpiry = some d ∧ day ≤ d) := by
    rw [or_iff_not_imp_left, Nat.pos_iff_ne_zero]
  simp only [restoreRecordOk, RestoreInLimits, Bool.and_eq_true, Bool.or_eq_true, beq_iff_eq, decide_eq_true_eq,
    cardStateOf_isSome, verifyOk_iff, expiryCurrent_iff, expiry, and_assoc]

section Check
variable (hc : card < 16777216)
include hc

theorem restoreCheck_unlisted (h : card ∉ s.tmc.quarantine) : restoreCheck s card l = .error .state := by
  have listed : (!s.quarantined card) = true := by simpa using mt quarantined_iff.1 h
  exact (if_neg (Nat.not_le.2 hc)).trans (if_pos listed)

variable (listed : card ∈ s.tmc.quarantine)
include listed

theorem restoreCheck_listed :
    restoreCheck s card l =
      if s.tmc.restore.isSome then .error .busy
      else
        match programOfCard s card with
        | none => .error .state
        | some p =>
          if clearing s p || windowOn s p then .error .busy
          else if restoreRecordOk (s.program p).settings s.mgmt.day l then .ok p
          else .error .range := by
  have kept : ¬(!s.quarantined card) = true := by simpa using quarantined_iff.2 listed
  exact (if_neg (Nat.not_le.2 hc)).trans (if_neg kept)

theorem restoreCheck_restoring (h : s.tmc.restore ≠ none) : restoreCheck s card l = .error .busy := by
  rw [restoreCheck_listed hc listed, if_pos (Option.isSome_iff_ne_none.2 h)]

variable (idle : s.tmc.restore = none)
include idle

theorem restoreCheck_unheld (h : programOfCard s card = none) : restoreCheck s card l = .error .state := by
  rw [restoreCheck_listed hc listed, idle, h]
  rfl

theorem restoreCheck_held {p : Nat} (h : programOfCard s card = some p) :
    restoreCheck s card l =
      if clearing s p || windowOn s p then .error .busy
      else if restoreRecordOk (s.program p).settings s.mgmt.day l then .ok p
      else .error .range := by
  rw [restoreCheck_listed hc listed, idle, h]
  rfl

end Check

variable (fields : cardRestoreFields c.fields = some (card, l))
include fields

theorem cardRestore_refused {reason : Reason} (h : restoreCheck s card l = .error reason) :
    cardRestore c s.unqueued = s.answering c (.refused reason) := by
  have h : restoreCheck s.unqueued card l = .error reason := h
  simp only [cardRestore, fields, h]
  rfl

theorem cardRestore_starts {p : Nat} (h : restoreCheck s card l = .ok p) :
    cardRestore c s.unqueued =
      (s.unqueued.withTmc
        { s.tmc with
          restore := some { card := card, program := p, tag := c.tag, load := l, written := none } }).inFlight c := by
  have h : restoreCheck s.unqueued card l = .ok p := h
  simp only [cardRestore, fields, h]
  rfl

end CardRestore

/-- Settles O53. -/
theorem holdParkAndQuarantineCommands : Obligations.HoldParkAndQuarantineCommands := by
  intro s c extra
  refine ⟨fun n h hf hn wf => ?_, fun id action card store lane seq h hf hi ha hc hs hl hq => ?_,
    fun card bytes h hf hc hb => ?_⟩
  · have named : oneNumber 4194303 c.fields = some n := by rw [hf, oneNumber_leBytes (n := 3) extra rfl hn]
    have takes := takeCommand_of_admits h holdDrop
    refine ⟨fun missing => congrArg _ (takes.trans (holdDrop_noHold named missing)), fun low reuse used => ?_⟩
    have drops := takes.trans (holdDrop_found named low reuse used)
    obtain ⟨card, program⟩ := dropDue_slot_owner (m := n / 256) wf
    refine ⟨dropDue (n / 256) s, dropDue_frame .., fun due => dropDue_of_not_open (by simp [due]), fun opened => ?_, ?_⟩
    · refine ⟨?_, fun k hk => ?_, dropDue_expiryList opened⟩
      · rw [dropDue_slot wf opened, if_pos rfl]
      · rw [dropDue_slot wf opened, if_neg hk]
    · rw [← card, ← program]
      refine ⟨fun u entered => ⟨_, congrArg _ (drops.trans (issueDrop_entered (ref := holdRefOf n) entered)), rfl, ?_⟩,
        fun u out => congrArg _ (drops.trans (issueDrop_quarantined out)),
        fun u full => congrArg _ (drops.trans (issueDrop_full (.inl rfl) full)),
        fun u full => congrArg _ (drops.trans (issueDrop_full (.inr rfl) full))⟩
      have same : u.slots = (dropDue (n / 256) s).slots := (handOver_eq_slots entered).trans rfl
      have wfu : Tab.wfWith .initial u.slots = true := same ▸ wfWith_dropDue wf
      refine ⟨(slot_setSlot wfu ..).trans (if_pos rfl), fun k hk => ?_⟩
      exact (slot_setSlot wfu ..).trans ((if_neg hk).trans (slot_congr same k))
  · have fields := (congrArg watchReleaseFields hf).trans (watchReleaseFields_bytes extra hi ha hc hs hl hq)
    have takes := takeCommand_of_admits h watchRelease
    refine ⟨fun out => congrArg _ (takes.trans (watchRelease_range fields out)),
      fun low act missing => ?_, fun p low found names => ?_⟩
    · exact congrArg _ (takes.trans (watchRelease_tooLate fields low act missing))
    · refine ⟨fun deny => ?_, fun allow => ?_⟩
      · subst deny
        exact congrArg _ (takes.trans (watchRelease_named fields low (Nat.le_refl 1) found names))
      · subst allow
        have same : p.card = card := by
          obtain ⟨q₀, body, same, till, seq⟩ := names
          exact same
        subst same
        exact congrArg _ (takes.trans (watchRelease_named fields low (Nat.zero_le 1) found names))
  · have fields := (congrArg cardRestoreFields hf).trans (cardRestoreFields_bytes extra hc hb)
    have takes := takeCommand_of_admits h cardRestore
    have refuses {reason : Reason} (check : restoreCheck s card (decodeLoadRecord bytes) = .error reason) :
        exec .cardRestore s = .next (s.answering c (.refused reason)) :=
      congrArg _ (takes.trans (cardRestore_refused fields check))
    refine ⟨fun out => refuses (restoreCheck_unlisted hc out), fun listed busy => refuses (restoreCheck_restoring hc listed busy),
      fun listed idle => ⟨fun unheld => refuses (restoreCheck_unheld hc listed idle unheld), fun p held => ?_⟩⟩
    have check := restoreCheck_held (l := decodeLoadRecord bytes) hc listed idle held
    refine ⟨fun busy => ?_, fun free out => ?_, fun free inside => ?_⟩
    · exact refuses (check.trans (if_pos (programHeld_iff.2 busy)))
    · exact refuses (check.trans ((if_neg (mt programHeld_iff.1 free)).trans (if_neg (mt restoreRecordOk_iff.1 out))))
    · have passes := check.trans ((if_neg (mt programHeld_iff.1 free)).trans (if_pos (restoreRecordOk_iff.2 inside)))
      exact congrArg _ (takes.trans (cardRestore_starts fields passes))

end Sys2Proof.Machine

/-! # REDEEM, HOLD, COMPLETE and RELEASE past their checks (R43 to R64) -/

namespace Sys2Proof.Machine

/-- A request that its kind's decision settles, and whose answer shows the record it leaves, ends so (R37, R41). -/
theorem exec_ends {s : State} {it : Item} {q₀ : TillRequest} {p : Nat} {r : CardRecord} {t : State} {q : CardRecord}
    {c : Instr} {v : Verdict} (h : AtDecision s it q₀ p r t q)
    (hc : exec c s = onCard it.card (takeHead (isTill q₀.kind) it.card) s) (hv : decideTill it.card p q₀ t q q = v)
    (shown : v.shown = v.record) :
    exec c s = .next (ends it q₀ r v.record v.st v.outcome v.approved v.holdRef v.journalSeq) := by
  rw [exec_of_atDecision h hc, decideStep_eq_ends h.program hv shown]

/-! ## The amount (R48, R51) -/

/-- The outcome of an approval of `n` out of `a`. -/
theorem approval_of_le {n a : Nat} (h : n ≤ a) :
    approval (decide (n < a)) = if n = a then .approved else .partly := by
  obtain less | rfl := Nat.lt_or_eq_of_le h
  · simp [approval, less, Nat.ne_of_lt less]
  · simp [approval]

section Amount
variable {c : Settings} {x : CardRecord} {a n : Nat}
  (least : n = min a (min (x.paid + x.bonus) (c.dayAmountLimit - x.dayAmount)))
include least

/-- Less than the amount asked is approved in no part: the limit that binds gives the reason. -/
theorem amountStep_declines (less : n < a) (noPart : n = 0 ∨ c.partialAllowed = false) :
    amountStep c x a =
      .decline (if x.paid + x.bonus ≤ c.dayAmountLimit - x.dayAmount then .insufficient else .velocity) := by
  have notPart : ¬(0 < n ∧ c.partialAllowed = true) := by
    rcases noPart with zero | forbidden
    · simp [zero]
    · simp [forbidden]
  simp only [amountStep, available, dayRemaining, ← least, if_neg (Nat.ne_of_lt less), if_neg notPart]
  exact (apply_ite Amount.decline _ _ _).symm

/-- The amount asked is approved, or the part of it that the program allows. -/
theorem amountStep_approves (h : n = a ∨ 0 < n ∧ c.partialAllowed = true) :
    amountStep c x a = .approve n (decide (n < a)) := by
  simp only [amountStep, available, dayRemaining, ← least]
  by_cases whole : n = a
  · simp [whole]
  · have less : n < a := Nat.lt_of_le_of_ne (least ▸ Nat.min_le_left _ _) whole
    rw [if_neg whole, if_pos (h.resolve_left whole), decide_eq_true less]

end Amount

/-! ## REDEEM and HOLD past the journal's reserve (R43, R44) -/

section Spend
variable {card p a : Nat} {t : TillRequest} {s : State} {r x : CardRecord}
  (active : r.state = .active) (hv : verifyStep t (settingsOf s p) r = (x, true))
  (room : x.dayCount < (settingsOf s p).dayCountLimit) (free : 32768 < journalFree s) (ha : t.amount = some a)
include active hv room free ha

/-- The amount step decides a REDEEM past its checks. -/
theorem decideRedeem_past_checks (hk : t.kind = .redeem) :
    (∀ o, amountStep (settingsOf s p) x a = .decline o → decideTill card p t s r r = decline s x o) ∧
    (∀ n part, amountStep (settingsOf s p) x a = .approve n part →
      decideTill card p t s r r = settleRedeem card t s x n part) := by
  have reserve : ¬journalFree s ≤ journalReserve := Nat.not_le.2 free
  simp only [decideTill, hk, decideRedeem, active, gateSpend, hv, if_neg (Nat.not_le.2 room), if_neg reserve, ha,
    Option.getD_some, Bool.not_true, Bool.false_eq_true, if_false]
  exact ⟨fun o step => by rw [step], fun n part step => by rw [step]⟩

/-- The amount step decides a HOLD past its checks, in the slot at the head of the free list. -/
theorem decideHold_past_checks (hk : t.kind = .hold) (few : x.openHolds < (settingsOf s p).holdsPerCard) {m : Nat}
    {rest : List Nat} (head : s.freeList = m :: rest) :
    (∀ o, amountStep (settingsOf s p) x a = .decline o → decideTill card p t s r r = decline s x o) ∧
    (∀ n part, amountStep (settingsOf s p) x a = .approve n part →
      decideTill card p t s r r = settleHold card p m t s x n part) := by
  have reserve : ¬journalFree s ≤ journalReserve := Nat.not_le.2 free
  simp only [decideTill, hk, decideHold, active, gateSpend, hv, if_neg (Nat.not_le.2 room), if_neg (Nat.not_le.2 few), head,
    if_neg reserve, ha, Option.getD_some, Bool.not_true, Bool.false_eq_true, if_false]
  exact ⟨fun o step => by rw [step], fun n part step => by rw [step]⟩

end Spend

/-- Settles O28: the amount step declines or approves, and an approval settles as R53 says. -/
theorem redeemSettles : Obligations.RedeemSettles := by
  intro s it q₀ p r t q x a h hk ha _ active k verified room free left n
  have hc : exec (.redeem it.card) s = onCard it.card (takeHead (isTill q₀.kind) it.card) s := by rw [hk]; rfl
  obtain ⟨declines, approves⟩ :=
    decideRedeem_past_checks (card := it.card) active (verifyStep_of_verified verified) room free ha hk
  refine ⟨fun less noPart => exec_declines h hc (declines _ (amountStep_declines rfl less noPart)), fun approved => ?_⟩
  intro fromBonus after entry
  rw [exec_ends h hc (approves _ _ (amountStep_approves rfl approved)) rfl,
    ← approval_of_le (show n ≤ a from Nat.min_le_left _ _)]
  simp only [after, ← addRecent_eq_joined]
  rfl

/-- Settles O29: the amount step declines or approves, and an approval settles in the slot at the head of the free list. -/
theorem holdSettles : Obligations.HoldSettles := by
  intro s it q₀ p r t q x a m rest h hk ha _ active k verified room few head free left n
  have hc : exec (.hold it.card) s = onCard it.card (takeHead (isTill q₀.kind) it.card) s := by rw [hk]; rfl
  obtain ⟨declines, approves⟩ :=
    decideHold_past_checks (card := it.card) active (verifyStep_of_verified verified) room free ha hk few head
  refine ⟨fun less noPart => exec_declines h hc (declines _ (amountStep_declines rfl less noPart)), fun approved => ?_⟩
  intro fromBonus slot ref u after entry
  rw [exec_ends h hc (approves _ _ (amountStep_approves rfl approved)) rfl,
    ← approval_of_le (show n ≤ a from Nat.min_le_left _ _)]
  simp only [after, ← addRecent_eq_joined]
  rfl

/-! ## COMPLETE and RELEASE past their checks (R45) -/

section Settle
variable {card p : Nat} {t : TillRequest} {s : State} {r : CardRecord} {ref : HoldRef} {h : HoldSlot}
  (hg : gateSettle r.state = none) (hr : t.holdRef = some ref) (hf : resolveHold s card ref = .found h)
  (free : journalFree s ≠ 0)
include hg hr hf free

theorem decideComplete_settles (hk : t.kind = .complete) {f : Nat} (ha : t.amount = some f)
    (within : f ≤ completionLimit (settingsOf s p) h.amount) :
    decideTill card p t s r r = settleComplete card p ref h t s r f := by
  simp only [decideTill, hk, decideComplete, hg, hr, Option.getD_some, hf, ha, if_neg (Nat.not_lt.2 within), if_neg free]

theorem decideRelease_settles (hk : t.kind = .release) :
    decideTill card p t s r r = settleRelease card p ref h t s r := by
  simp only [decideTill, hk, decideRelease, hg, hr, Option.getD_some, hf, if_neg free]

end Settle

/-- Settles O32: past the checks each closes the hold; a COMPLETE approves the part within the hold and what the card covers of
the overage. -/
theorem completeAndReleaseSettle : Obligations.CompleteAndReleaseSettle := by
  intro s it q₀ p r t q ref h hr open_ listed reuse own taken free slot k
  have hg := gateSettle_open open_
  have hf := resolveHold_of_open ⟨listed, reuse, own⟩ taken
  have stocked := Nat.ne_of_gt free
  refine ⟨fun f hk ha within => ?_, fun hk => ?_⟩
  · have hc : exec (.complete it.card) s = onCard it.card (takeHead (isTill q₀.kind) it.card) s := by rw [hk]; rfl
    intro bonusUsed paidUsed covered overBonus overPaid approved v after entry
    have least : approved ≤ f := by omega
    rw [exec_ends h hc (decideComplete_settles hg hr hf stocked hk ha within) rfl, ← approval_of_le least]
    simp only [after, approved, ← addRecent_eq_joined, ← Nat.sub_sub_eq_min f slot.amount]
    rfl
  · have hc : exec (.release it.card) s = onCard it.card (takeHead (isTill q₀.kind) it.card) s := by rw [hk]; rfl
    intro v after entry
    rw [exec_ends h hc (decideRelease_settles hg hr hf stocked hk) rfl]
    simp only [after, ← addRecent_eq_joined]
    rfl

end Sys2Proof.Machine

/-! # The front of the queue (R68) -/

namespace Sys2Proof.Machine

theorem step_of_cons {s : State} {c : Instr} {rest : List Instr} (h : s.pending = c :: rest) :
    step s = exec c { s with pending := rest } := by
  simp only [step, h]
  rfl

theorem step_of_nil {s : State} (h : s.pending = []) : step s = .next (clockCycle s) := by
  simp only [step, h]

theorem clockCycle_low {s : State} (h : s.time.divider < 24999) :
    clockCycle s = { s with time := { s.time with divider := s.time.divider + 1 } } := if_neg (Nat.not_le.2 h)

theorem clockCycle_full {s : State} (h : 24999 ≤ s.time.divider) : clockCycle s = millisecondTick s := if_pos h

/-- Settles O1. The front of the queue and the divider decide. -/
theorem stepRunsTheFrontCommand : Obligations.StepRunsTheFrontCommand := by
  refine ⟨fun s c rest h => step_of_cons h, fun s h => ⟨fun low => ?_, fun full => ?_⟩⟩
  · rw [step_of_nil h, clockCycle_low low]
  · rw [step_of_nil h, clockCycle_full full]
    rfl

end Sys2Proof.Machine

/-! # The pacer timers and the millisecond tick (R68, R162, R163) -/

namespace Sys2Proof.Machine

/-! ## One store link -/

theorem setStoreUnit_self (s : State) (l : StoreLink) : s.setStoreUnit l (s.storeUnit l) = s := by
  cases l <;> rfl

/-- A PAUSE handed to a link whose pacer was just replaced (R162). -/
theorem handStore_setPacer (l : StoreLink) (x : OutParcel) (p : Pacer) (s : State) :
    handStore l x (s.setPacer l p) =
      s.setStoreUnit l { s.storeUnit l with link := handTo (s.storeUnit l).link x, pacer := p } := by
  cases l <;> rfl

/-- What the expiry of its pacer's timer makes of a store link's unit (R162, R163). -/
def expiredUnit (u : StoreUnit) : StoreUnit :=
  let a := u.pacer.staged
  if u.pacer.state = .idle then u
  else if u.pacer.state = .pausing then
    { u with pacer := { state := .gap, timer := a.gapTime, sent := u.pacer.sent, active := a, staged := a } }
  else if a.lowMark ≤ u.intake.length ∧ (a.pauseCount = 0 ∨ u.pacer.sent < a.pauseCount) then
    { link := handTo u.link (.pause a.pauseTime), intake := u.intake
      pacer := { state := .pausing, timer := a.pauseTime, sent := min 15 (u.pacer.sent + 1), active := a, staged := a } }
  else { u with pacer := { state := .idle, timer := 0, sent := 0, active := a, staged := a } }

theorem pacerExpire_eq (l : StoreLink) (s : State) : pacerExpire l s = s.setStoreUnit l (expiredUnit (s.storeUnit l)) := by
  unfold pacerExpire expiredUnit
  cases hp : (s.storeUnit l).pacer.state with
  | idle => simpa only [hp, if_true] using (setStoreUnit_self s l).symm
  | pausing => simp [hp, State.setPacer]
  | gap =>
    simp only [hp, handStore_setPacer, reduceCtorEq, if_false]
    split <;> rfl

theorem exec_pacerExpiry (l : StoreLink) (s : State) :
    exec (.pacerExpiry l) s = .next (s.setStoreUnit l (expiredUnit (s.storeUnit l))) := congrArg _ (pacerExpire_eq l s)

/-- What a millisecond tick makes of a store link's unit (R162). -/
def tickedUnit (u : StoreUnit) : StoreUnit :=
  if u.pacer.state = .idle then u
  else if u.pacer.timer ≤ 1 then expiredUnit u
  else { u with pacer := { u.pacer with timer := u.pacer.timer - 1 } }

theorem pacerTick_eq (l : StoreLink) (s : State) : pacerTick l s = s.setStoreUnit l (tickedUnit (s.storeUnit l)) := by
  simp only [pacerTick, tickedUnit, pacerExpire_eq]
  split
  · exact (setStoreUnit_self s l).symm
  · split <;> rfl

/-! ## The four pacers at a millisecond tick -/

/-- The part once the pacer timers of a millisecond tick have run (R68, R162). -/
def pacersTicked (s : State) : State :=
  pacerTick .s3 (pacerTick .s2 (pacerTick .s1 (pacerTick .s0
    (s.withTime { s.time with divider := 0, milliseconds := s.time.milliseconds + 1 }))))

theorem millisecondTick_low {s : State} (h : s.time.milliseconds < 999) : millisecondTick s = pacersTicked s :=
  if_neg (Nat.not_le.2 h)

theorem millisecondTick_full {s : State} (h : 999 ≤ s.time.milliseconds) :
    millisecondTick s = secondTick (pacersTicked s) := if_pos h

theorem pacersTicked_frame (s : State) :
    pacersTicked s =
      { s with
        stores := (pacersTicked s).stores
        time := { s.time with divider := 0, milliseconds := s.time.milliseconds + 1 } } := by
  simp only [pacersTicked, pacerTick_eq]
  rfl

theorem storeUnit_pacersTicked (s : State) (l : StoreLink) : (pacersTicked s).storeUnit l = tickedUnit (s.storeUnit l) := by
  simp only [pacersTicked, pacerTick_eq, storeUnit_setStoreUnit]
  cases l <;> rfl

/-- Settles O15: an expiry and a tick replace the units of the store links, each by its own. -/
theorem pacerTimersRun : Obligations.PacerTimersRun := by
  refine ⟨fun s l => ⟨fun idle => ?_, fun runs => ?_⟩, fun s => ⟨pacersTicked s, pacersTicked_frame s, fun l => ?_, ?_, ?_⟩⟩
  · have stays : expiredUnit (s.storeUnit l) = s.storeUnit l := if_pos idle
    rw [exec_pacerExpiry, stays, setStoreUnit_self]
  · refine ⟨_, exec_pacerExpiry l s, rfl, fun k other => ?_, ?_⟩
    · rw [storeUnit_setStoreUnit, if_neg other]
    · rw [storeUnit_setStoreUnit, if_pos rfl, expiredUnit, if_neg runs]
  · rw [storeUnit_pacersTicked, tickedUnit]
    refine ⟨fun idle => if_pos idle, fun runs above => ?_, fun runs last => ?_⟩
    · rw [if_neg runs, if_neg (Nat.not_le.2 above)]
    · refine ⟨_, exec_pacerExpiry l s, ?_⟩
      rw [if_neg runs, if_pos last, storeUnit_setStoreUnit, if_pos rfl]
  · exact fun low => congrArg _ (millisecondTick_low low)
  · exact fun full => congrArg _ (millisecondTick_full full)

end Sys2Proof.Machine

/-! # The second and minute ticks, the due holds and the lapse items (R68, R75, R76) -/

namespace Sys2Proof.Machine

/-! ## The listed keys of a table, in rising order -/

theorem Tab.pairwise_of_rising {α : Type} {t : Tab α} (h : Tab.rising t = true) : t.Pairwise fun a b => a.1 < b.1 := by
  induction t with
  | nil => exact .nil
  | cons e t ih =>
    obtain ⟨below, rising⟩ := Tab.rising_cons.1 h
    exact .cons below (ih rising)

/-- The listed entries that have a property which the power-on value lacks are the keys below a bound that hold such a value,
in rising order. -/
theorem Tab.filter_eq_map_range {α : Type} [DecidableEq α] {initial : α} {t : Tab α} {bound : Nat}
    (wf : Tab.wfWith initial t = true) (low : ∀ e ∈ t, e.1 < bound) {P : Nat → α → Bool} (hi : ∀ k, P k initial = false) :
    (t.filter fun e => P e.1 e.2) =
      ((List.range bound).filter fun k => P k (Tab.get initial t k)).map fun k => (k, Tab.get initial t k) := by
  have sorted := (Tab.pairwise_of_rising (Tab.wfWith_iff.1 wf).1).filter fun e => P e.1 e.2
  have keys : (((List.range bound).filter fun k => P k (Tab.get initial t k)).map fun k => (k, Tab.get initial t k)).Pairwise
      fun a b => a.1 < b.1 := List.pairwise_map.2 (List.pairwise_lt_range.filter _)
  have irrefl : Std.Irrefl fun a b : Nat × α => a.1 < b.1 := ⟨fun a => Nat.lt_irrefl a.1⟩
  refine sorted.eq_of_mem_iff keys fun e => ?_
  obtain ⟨k, v⟩ := e
  simp only [List.mem_filter, List.mem_map, List.mem_range, Prod.mk.injEq]
  constructor
  · rintro ⟨listed, holds⟩
    have stands := get_of_mem wf listed
    exact ⟨k, ⟨low _ listed, stands ▸ holds⟩, rfl, stands⟩
  · rintro ⟨_, ⟨-, holds⟩, rfl, rfl⟩
    exact ⟨mem_of_get_ne wf fun blank => by simp [blank, hi] at holds, holds⟩

/-! ## The second tick -/

section SecondTick
variable {s : State}

theorem secondTick_last (h : s.time.seconds = 4294967295) :
    secondTick s = { s with time := { s.time with milliseconds := 0 } } := if_pos h

/-- The part once a second tick has counted and its park timeouts have run (R68, R123). -/
def secondTicked (s : State) : State :=
  watchTimeouts
    { s with
      time := { s.time with milliseconds := 0, seconds := s.time.seconds + 1, secondPhase := s.time.secondPhase + 1 } }

theorem secondTick_low (h : s.time.seconds ≠ 4294967295) (low : s.time.secondPhase < 59) : secondTick s = secondTicked s :=
  (if_neg h).trans (if_neg (Nat.not_le.2 low))

theorem secondTick_full (h : s.time.seconds ≠ 4294967295) (full : 59 ≤ s.time.secondPhase) :
    secondTick s = minuteTick (secondTicked s) := (if_neg h).trans (if_pos full)

end SecondTick

/-! ## Holds falling due (R75) -/

theorem foldl_makeDue_frame (l : List Nat) (s : State) : l.foldl makeDue s = { s with slots := (l.foldl makeDue s).slots } := by
  induction l generalizing s with
  | nil => rfl
  | cons n l ih => exact ih (makeDue s n)

theorem dueHolds_frame (s : State) :
    dueHolds s = { s with slots := (dueHolds s).slots, expiryList := (dueHolds s).expiryList } := by
  rw [dueHolds, foldl_makeDue_frame]
  rfl

/-- The expiry list is cut at its first hold whose expiry minute is not reached. -/
theorem dueHolds_of_split {s : State} {due rest : List Nat} (split : s.expiryList = due ++ rest)
    (reached : ∀ n ∈ due, (s.slot n).expiryMinute ≤ s.time.minutes)
    (first : ∀ n, rest.head? = some n → s.time.minutes < (s.slot n).expiryMinute) :
    dueHolds s = (due.foldl makeDue s).withExpiryList rest := by
  have all : ∀ n ∈ due, isDue s n = true := fun n hn => decide_eq_true (reached n hn)
  have cut : rest.takeWhile (isDue s) = [] ∧ rest.dropWhile (isDue s) = rest := by
    cases rest with
    | nil => exact ⟨rfl, rfl⟩
    | cons n rest =>
      have later : ¬isDue s n = true := by simpa [isDue] using first n rfl
      exact ⟨List.takeWhile_cons_of_neg later, List.dropWhile_cons_of_neg later⟩
  rw [dueHolds, split, List.takeWhile_append_of_pos all, List.dropWhile_append_of_pos all, cut.1, cut.2, List.append_nil]

/-! ## The issue of lapse items (R76) -/

section Issue
variable {s t : State} {n : Nat}

/-- The lapse item of a slot. -/
def lapseItem (n : Nat) (h : HoldSlot) : Item :=
  { card := h.card, program := some h.program, skip := false, body := .lapse { slot := n, reuse := h.reuse } none }

theorem issueLapse_entered (h : handOver (lapseItem n (s.slot n)) s = (.entered, t)) :
    issueLapse s n = t.setSlot n { s.slot n with issued := true } := by
  simp only [lapseItem] at h
  simp only [issueLapse, h]

theorem issueLapse_turned_away {v : HandOver} (h : handOver (lapseItem n (s.slot n)) s = (v, t)) (out : v ≠ .entered) :
    issueLapse s n = s := by
  simp only [lapseItem] at h
  simp only [issueLapse, h]
  cases v with
  | entered => exact absurd rfl out
  | quarantined | waitingFull | listFull => rfl

/-- The due slots without a lapse item, in ascending slot number. -/
theorem unissuedSlots_eq (wf : Tab.wfWith .initial s.slots = true) (low : ∀ e ∈ s.slots, e.1 < 16384) :
    unissuedSlots s = (List.range 16384).filter fun n => decide ((s.slot n).state = .lapseDue) && !(s.slot n).issued := by
  rw [unissuedSlots, Tab.filter_eq_map_range wf low (P := fun _ h => decide (h.state = .lapseDue) && !h.issued) fun _ => rfl,
    List.map_map]
  exact List.map_id _

theorem issueLapses_idle (h : s.resetN = false ∨ s.resetPending = true) : issueLapses s = s := by
  refine if_neg ?_
  rcases h with h | h <;> simp [State.working, h]

theorem issueLapses_working (high : s.resetN = true) (settled : s.resetPending = false) :
    issueLapses s = (unissuedSlots s).foldl issueLapse s := if_pos (by simp [State.working, high, settled])

/-! ## The minute tick -/

theorem exec_minuteTick (s : State) : exec .minuteTick s = .next (minuteTick s) := rfl

theorem minuteTick_last (h : s.time.minutes = 4294967295) :
    minuteTick s = { s with time := { s.time with secondPhase := 0 } } := if_pos h

/-- The part once a minute tick has counted and the holds have fallen due (R68, R75). -/
def minuteTicked (s : State) : State :=
  dueHolds { s with time := { s.time with secondPhase := 0, minutes := s.time.minutes + 1 } }

theorem minuteTick_counts (h : s.time.minutes ≠ 4294967295) : minuteTick s = issueLapses (minuteTicked s) := if_neg h

theorem minuteTicked_reset (s : State) :
    (minuteTicked s).resetN = s.resetN ∧ (minuteTicked s).resetPending = s.resetPending := by
  rw [minuteTicked, dueHolds_frame]
  exact ⟨rfl, rfl⟩

end Issue

/-- Settles O16: the due slots without a lapse item are those that the Hold Table lists, in rising order. -/
theorem secondAndMinuteTicks : Obligations.SecondAndMinuteTicks := by
  refine fun s => ⟨fun last => ?_, fun counts => ⟨secondTicked s, rfl, fun low => ?_, fun full => ?_⟩, fun last => ?_,
    fun counts => ⟨minuteTicked s, rfl, fun idle => ?_, fun high settled wf low => ?_⟩⟩
  · exact congrArg _ (secondTick_last last)
  · exact congrArg _ (secondTick_low counts low)
  · exact congrArg _ (secondTick_full counts full)
  · rw [exec_minuteTick, minuteTick_last last]
  · obtain ⟨pin, pending⟩ := minuteTicked_reset s
    rw [← pin, ← pending] at idle
    rw [exec_minuteTick, minuteTick_counts counts, issueLapses_idle idle]
  · obtain ⟨pin, pending⟩ := minuteTicked_reset s
    rw [exec_minuteTick, minuteTick_counts counts, issueLapses_working (pin.trans high) (pending.trans settled),
      unissuedSlots_eq wf low]

/-- Settles O17: the expiry list is cut at its first hold that is not due. -/
theorem holdsFallDueAndAreIssued : Obligations.HoldsFallDueAndAreIssued := by
  refine ⟨fun s due rest split reached first wf => ?_, fun s n h t handed => ⟨fun out => ?_, ?_⟩⟩
  · obtain ⟨slots, -, -⟩ := foldl_makeDue_slots due s
    obtain ⟨form, slot⟩ := slots wf
    refine ⟨(due.foldl makeDue s).withExpiryList rest, congrArg _ (dueHolds_of_split split reached first), ?_, slot, form⟩
    rw [foldl_makeDue_frame]
    rfl
  · exact issueLapse_turned_away handed out
  · rintro rfl wf
    have slots : t.slots = s.slots := handOver_eq_slots handed
    have slot (m : Nat) := slot_setSlot (slots ▸ wf) n m { s.slot n with issued := true }
    refine ⟨_, issueLapse_entered handed, rfl, (slot n).trans (if_pos rfl), fun m other => ?_⟩
    exact (slot m).trans ((if_neg other).trans (slot_congr slots m))

end Sys2Proof.Machine

/-! # The commands of level 0 answered at once (R83, R125, R132, R168, R169, R171) -/

namespace Sys2Proof.Machine

/-! ## Fields as they are sent (R181) -/

/-- A yes is sent as 0 and a no as 1 (log entry 9). -/
theorem num_yesNoCode (b : Bool) : num 1 (yesNoCode b) = [if b then 0#8 else 1#8] := by cases b <;> rfl

/-- An indication is sent as 1 where it is set (log entry 9). -/
theorem num_indication (b : Bool) : num 1 (indication b) = [if b then 1#8 else 0#8] := by cases b <;> rfl

/-- The bytes of an optional field behind its presence byte (R181). -/
def sentMaybe : Option (List Byte) → List Byte
  | none => [0#8]
  | some bytes => 1#8 :: bytes

theorem optional_eq_sentMaybe {α : Type} (f : α → List Byte) (o : Option α) : optional f o = sentMaybe (o.map f) := by
  cases o <;> rfl

/-- A till goes as its store and its lane (R21). -/
theorem append_tillBytes (front : List Byte) (t : TillId) :
    front ++ tillBytes t = front ++ leBytes 2 t.store ++ leBytes 1 t.lane := (List.append_assoc ..).symm

/-! ## STATUS READ (R171) -/

/-- The part with its five error reports emptied (R160). -/
def reportsEmptied (s : State) : State :=
  clearErrors .central (clearErrors (.store .s3) (clearErrors (.store .s2) (clearErrors (.store .s1)
    (clearErrors (.store .s0) s))))

theorem linkUnit_reportsEmptied (s : State) (l : Link) :
    (reportsEmptied s).linkUnit l = { s.linkUnit l with errors := 0#8 } := by
  cases l with
  | store l => cases l <;> rfl
  | central => rfl

theorem storeUnit_reportsEmptied (s : State) (l : StoreLink) :
    ((reportsEmptied s).storeUnit l).intake = (s.storeUnit l).intake ∧
      ((reportsEmptied s).storeUnit l).pacer = (s.storeUnit l).pacer := by
  cases l <;> exact ⟨rfl, rfl⟩

theorem linkStatus_eq (u : LinkUnit) :
    linkStatus u = [if u.up then 1#8 else 0#8] ++ [u.errors] ++ leBytes 2 u.dropped := by
  rw [linkStatus, num_indication]
  rfl

/-- The load window's state, program and pointer (R171). -/
def sentWindow : Window → List Byte
  | .closed => [0#8, 0#8, 0#8]
  | .opened .writing p pointer => [1#8] ++ (1#8 :: leBytes 1 p) ++ (1#8 :: leBytes 4 pointer)
  | .opened .reading p pointer => [2#8] ++ (1#8 :: leBytes 1 p) ++ (1#8 :: leBytes 4 pointer)

theorem append_window (front : List Byte) (w : Window) :
    front ++ num 2 (windowCode w) ++ optional (num 31) (windowProgram w) ++ optional (num 16777216) (windowPointer w) =
      front ++ sentWindow w := by
  rw [List.append_assoc, List.append_assoc]
  rcases w with _ | ⟨_ | _, p, pointer⟩ <;> rfl

/-- The status does not depend on the commands that wait. -/
theorem statusRead_unqueued (fields : List Byte) (s : State) :
    statusRead fields s.unqueued = ((reportsEmptied s).unqueued, .done (statusData s)) := rfl

/-! ## HOLD READ (R83) -/

section HoldRead
variable {s : State} {fields : List Byte} {n : Nat}

theorem holdBytes_eq (m : Nat) (h : HoldSlot) :
    holdBytes m h =
      leBytes 3 (256 * m + h.reuse) ++ leBytes 1 (slotStateCode h.state) ++ leBytes 3 h.card ++ leBytes 1 h.program
        ++ leBytes 2 h.till.store ++ leBytes 1 h.till.lane ++ leBytes 2 h.seq ++ leBytes 3 h.amount
        ++ leBytes 3 h.bonusPart ++ leBytes 3 h.paidPart ++ leBytes 2 h.openDay ++ leBytes 4 h.openMinute
        ++ leBytes 5 h.expiryMinute ++ [if h.issued then 0#8 else 1#8] := by
  simp only [holdBytes, num_yesNoCode, append_tillBytes, holdRefNat, Nat.mul_comm m]
  rfl

/-- The numbers of the open holds from a slot upward. -/
def heldFrom (n : Nat) (s : State) : List Nat :=
  (List.range 16384).filter fun m => decide (n ≤ m) && decide ((s.slot m).state ≠ .free)

theorem openFrom_eq (wf : Tab.wfWith .initial s.slots = true) (low : ∀ e ∈ s.slots, e.1 < 16384) :
    openFrom n s = (heldFrom n s).map fun m => (m, s.slot m) :=
  Tab.filter_eq_map_range wf low (P := fun k h => decide (n ≤ k) && decide (h.state ≠ .free))
    fun _ => Bool.and_eq_false_imp.2 fun _ => rfl

theorem nextStart_map (l : List Nat) (f : Nat → HoldSlot) :
    nextStart n (l.map fun m => (m, f m)) = if l = [] then Config.holdReadNextWhenNone n else l.getLastD 0 + 1 := by
  rcases List.eq_nil_or_concat l with rfl | ⟨front, m, rfl⟩
  · rfl
  · simp [nextStart]

theorem holdRead_beyond (hf : oneNumber 16383 fields = some n) (h : 16384 ≤ n) : holdRead fields s = refuse .range s := by
  simp only [holdRead, hf]
  exact if_pos h

/-- A HOLD READ of a return size that is not 0 returns the first open holds, as many as the answer has room for (R169). -/
theorem holdRead_returns (hf : oneNumber 16383 fields = some n) (h : n < 16384) (wf : Tab.wfWith .initial s.slots = true)
    (low : ∀ e ∈ s.slots, e.1 < 16384) (size : 1 ≤ s.mgmt.returnSize) :
    let held := heldFrom n s
    let returned := held.take (min s.mgmt.returnSize 29)
    holdRead fields s =
      (s, .done
        ((returned.flatMap fun m => holdBytes m (s.slot m))
          ++ leBytes 2 (if held = [] then Config.holdReadNextWhenNone n else returned.getLastD 0 + 1)
          ++ [if returned.length < held.length then 1#8 else 0#8])) := by
  intro held returned
  have none : returned = [] ↔ held = [] := by
    have some : min s.mgmt.returnSize 29 ≠ 0 := by omega
    simp [returned, some]
  have room : holdReadRoom = 29 := by decide
  simp only [holdRead, hf, openFrom_eq wf low, room, ← List.map_take, List.flatMap_map, nextStart_map, List.length_map,
    num_indication, decide_eq_true_eq]
  rw [← if_congr none rfl rfl]
  exact if_neg (Nat.not_le.2 h)

end HoldRead

/-! ## PROGRAM READ (R171) -/

theorem programRead_eq {fields : List Byte} {n : Nat} (hf : oneNumber 31 fields = some n) (s : State) :
    programRead fields s = (s, if n < 32 then .done (programData (s.program n)) else .refused .range) := by
  simp only [programRead, hf]
  by_cases h : n < 32
  · rw [if_pos h]
    exact if_neg (Nat.not_le.2 h)
  · rw [if_neg h]
    exact if_pos (Nat.not_lt.1 h)

/-! ## WATCH READ (R125) -/

theorem num_watchActionCode (a : WatchAction) : num 1 (watchActionCode a) = [if a = .note then 0#8 else 1#8] := by
  cases a <;> rfl

theorem num_channelCode (c : Channel) : num 1 (channelCode c) = [if c = .till then 0#8 else 1#8] := by
  cases c <;> rfl

theorem watchSlotBytes_eq (x : WatchSlot) :
    watchSlotBytes x =
      [if x.localEnable then 0#8 else 1#8] ++ [if x.globalEnable then 0#8 else 1#8] ++ leBytes 3 x.base ++ leBytes 2 x.span
        ++ leBytes 1 (watchKindsMask x.kinds) ++ [if x.action = .note then 0#8 else 1#8] := by
  simp only [watchSlotBytes, num_yesNoCode, num_watchActionCode]
  rfl

theorem watchStatusBytes_eq (x : WatchStatus) :
    watchStatusBytes x = [if x.hit then 0#8 else 1#8] ++ sentMaybe (x.last.map (leBytes 3)) ++ leBytes 2 x.count := by
  rw [watchStatusBytes, num_yesNoCode, optional_eq_sentMaybe]
  rfl

theorem parkBytes_till (id : Nat) {p : ParkEntry} {t : TillRequest} (h : p.item.body = .till t) :
    parkBytes id p =
      leBytes 1 id ++ leBytes 3 p.card ++ leBytes 1 (tillKindCode t.kind) ++ leBytes 2 t.till.store
        ++ leBytes 1 t.till.lane ++ leBytes 2 t.seq ++ [if t.channel = .till then 0#8 else 1#8]
        ++ sentMaybe (t.amount.map (leBytes 3)) ++ leBytes 1 (storeLinkCode t.origin) ++ leBytes 1 p.matched.toNat
        ++ leBytes 1 p.parking.toNat ++ leBytes 5 p.expirySecond := by
  simp only [parkBytes, h, append_tillBytes, num_channelCode, optional_eq_sentMaybe]
  rfl

theorem parkBytes_other (id : Nat) {p : ParkEntry} (h : ∀ t, p.item.body ≠ .till t) : parkBytes id p = [] := by
  unfold parkBytes
  split
  · exact absurd ‹_› (h _)
  · rfl

/-! ## CACHE PROBE (R132) -/

theorem wayBytes_eq (v : Way) :
    wayBytes v =
      [if v.valid then 0#8 else 1#8] ++ [if v.pinned then 0#8 else 1#8]
        ++ sentMaybe (if v.valid then some (leBytes 2 v.tag) else none) := by
  rw [wayBytes, num_yesNoCode, num_yesNoCode, optional_eq_sentMaybe]
  cases v.valid <;> rfl

theorem cacheProbe_data {fields : List Byte} {n : Nat} (hf : oneNumber 16777215 fields = some n) (h : n < 16777216)
    (s : State) : cacheProbe fields s = (s, .done (probeData n s)) := by
  simp only [cacheProbe, hf]
  exact if_neg (Nat.not_le.2 h)

/-! ## RETURN SIZE SET and ACCESS SET (R168, R169) -/

section Settings
variable {s : State} {fields : List Byte} {n : Nat}

theorem returnSizeSet_sets (hf : oneNumber 64 fields = some n) :
    returnSizeSet fields s =
      (s.withMgmt { s.mgmt with returnSize := max 1 (min n 64) }, .done (leBytes 1 (max 1 (min n 64)))) := by
  simp only [returnSizeSet, hf]
  rfl

theorem accessSet_beyond (hf : oneNumber 2 fields = some n) (h : 2 < n) : accessSet fields s = refuse .range s := by
  simp only [accessSet, hf, if_pos h]

theorem accessSet_level (hf : oneNumber 2 fields = some n) (h : n = 2) (fallen : s.tblen = false) :
    accessSet fields s = refuse .level s := by
  subst h
  simp [accessSet, hf, fallen]

theorem accessSet_sets (hf : oneNumber 2 fields = some n) (h : n < 2 ∨ n = 2 ∧ s.tblen = true) :
    accessSet fields s = (s.withMgmt { s.mgmt with level := n }, .done (leBytes 1 n)) := by
  have known : ¬2 < n := by omega
  have admitted : ¬(n = 2 ∧ s.tblen = false) := by
    rintro ⟨rfl, low⟩
    simp [low] at h
  simp only [accessSet, hf, if_neg known, if_neg admitted]
  rfl

end Settings

/-! ## The commands -/

/-- A command whose rule changes nothing is answered with its data (R166). -/
theorem takeAtOnce_answers {s : State} {code : Nat} {c : MgmtCommand} (h : admits s code c = true)
    {rule : List Byte → State → State × MgmtResult} {result : MgmtResult}
    (hr : rule c.fields s.unqueued = (s.unqueued, result)) :
    takeCommand code (atOnce rule) s = s.answering c result := takeAtOnce_of_admits h hr

/-- Settles O49, a clause for each command, from the bytes its fields are sent as. -/
theorem readsAndSettingsAnswer : Obligations.ReadsAndSettingsAnswer := by
  intro s c n extra set yes maybe
  have one {max k : Nat} (width : byteWidth max = k) (hf : c.fields = leBytes k n ++ extra) (hn : n < 256 ^ k) :
      oneNumber max c.fields = some n := (congrArg _ hf).trans (oneNumber_leBytes extra width hn)
  refine ⟨fun h => ?_, fun h hf hn => ⟨fun out => ?_, fun inside wf low size => ?_⟩, fun h hf hn => ?_, fun h => ?_,
    fun h hf hn => ?_, fun h hf hn => ?_, fun h hf hn => ⟨fun known => ?_, fun two fallen => ?_, fun out => ?_⟩⟩
  · intro window link status
    have data : statusData s = status := by
      unfold statusData
      simp only [append_window, num_indication, linkStatus_eq]
      rfl
    refine ⟨reportsEmptied s, ?_, rfl, rfl, linkUnit_reportsEmptied s, storeUnit_reportsEmptied s⟩
    rw [← data]
    exact congrArg _ (takeAtOnce_of_admits h (statusRead_unqueued c.fields s))
  · exact congrArg _ (takeAtOnce_refused h (holdRead_beyond (one rfl hf hn) out))
  · intro held returned hold
    have sent : (fun m => holdBytes m (s.slot m)) = hold := funext fun m => holdBytes_eq m (s.slot m)
    rw [← sent]
    exact congrArg _ (takeAtOnce_answers h (holdRead_returns (s := s.unqueued) (one rfl hf hn) inside wf low size))
  · intro e k fields
    have data : programData e = fields := by
      simp only [programData, num_yesNoCode, optional_eq_sentMaybe]
      rfl
    rw [← data]
    exact congrArg _ (takeAtOnce_answers h (programRead_eq (one rfl hf hn) s.unqueued))
  · intro w slot status parked
    have park (e : Nat × ParkEntry) : parkBytes e.1 e.2 = parked e := by
      cases body : e.2.item.body with
      | till t =>
        simp only [parkBytes_till e.1 body, parked, body]
        rfl
      | _ =>
        simp only [parked, body]
        exact parkBytes_other e.1 fun t => by simp [body]
    refine (congrArg _ (takeAtOnce_answers (rule := watchRead) h rfl)).trans ?_
    simp only [watchData, watchSlotBytes_eq, watchStatusBytes_eq, park]
    rfl
  · intro hit way
    have listed : s.quarantined n = decide (n ∈ s.tmc.quarantine) := List.contains_eq_mem ..
    refine (congrArg _ (takeAtOnce_answers h (cacheProbe_data (one rfl hf hn) hn s.unqueued))).trans ?_
    have data : probeData n s.unqueued = probeData n s := rfl
    rw [data]
    simp only [probeData, num_yesNoCode, optional_eq_sentMaybe, wayBytes_eq, listed]
    rfl
  · exact congrArg _ (takeAtOnce_of_admits h (returnSizeSet_sets (s := s.unqueued) (one rfl hf hn)))
  · exact congrArg _ (takeAtOnce_of_admits h (accessSet_sets (s := s.unqueued) (one rfl hf hn) known))
  · exact congrArg _ (takeAtOnce_refused h (accessSet_level (one rfl hf hn) two fallen))
  · exact congrArg _ (takeAtOnce_refused h (accessSet_beyond (one rfl hf hn) out))

end Sys2Proof.Machine

/-! # The promotion of a load (R90) -/

namespace Sys2Proof.Machine

theorem Tab.rising_iff_pairwise {α : Type} {t : Tab α} : Tab.rising t = true ↔ t.Pairwise fun a b => a.1 < b.1 := by
  induction t with
  | nil => simp [Tab.rising]
  | cons e t ih => rw [Tab.rising_cons, List.pairwise_cons, ih]

/-- A property of the power-on value holds of every listed entry exactly where it holds of what every key holds. -/
theorem forall_mem_iff_forall_get {α : Type} [DecidableEq α] {initial : α} {t : Tab α}
    (h : Tab.wfWith initial t = true) {P : Nat → α → Prop} (hi : ∀ k, P k initial) :
    (∀ e ∈ t, P e.1 e.2) ↔ ∀ k, P k (Tab.get initial t k) := by
  have fails := exists_mem_iff_exists_get h (P := fun k v => ¬P k v) fun k hn => hn (hi k)
  simpa using not_congr fails

section Selection
variable {p day amount : Nat} {t : Tab Promotion} {best other : Option (Nat × Promotion)}

/-- `best` is the selection of R90 from the listed entries: a candidate with a bonus above 0, none has a greater bonus, and
none of the same bonus a lower number. -/
structure IsSelection (p day amount : Nat) (t : Tab Promotion) (best : Option (Nat × Promotion)) : Prop where
  listed : ∀ e ∈ best, e ∈ t ∧ isCandidate p day amount e.2 = true ∧ 0 < candidateBonus amount e.2
  greatest : ∀ x ∈ t, isCandidate p day amount x.2 = true → candidateBonus amount x.2 ≤ selectedBonus amount best
  lowest : ∀ e ∈ best, ∀ x ∈ t, isCandidate p day amount x.2 = true →
    candidateBonus amount x.2 = candidateBonus amount e.2 → e.1 ≤ x.1

/-- The better of a selection and an entry of a higher number is the selection from both. -/
theorem IsSelection.concat {x : Nat × Promotion} (h : IsSelection p day amount t best) (last : ∀ y ∈ t, y.1 < x.1) :
    IsSelection p day amount (t ++ [x]) (betterPromotion p day amount best x) := by
  obtain ⟨listed, greatest, lowest⟩ := h
  unfold betterPromotion
  split
  case isTrue better =>
    obtain ⟨candidate, more⟩ : isCandidate p day amount x.2 = true ∧
        selectedBonus amount best < candidateBonus amount x.2 := by simpa using better
    have below (y : Nat × Promotion) (hy : y ∈ t) (hc : isCandidate p day amount y.2 = true) :
        candidateBonus amount y.2 < candidateBonus amount x.2 := (greatest y hy hc).trans_lt more
    refine ⟨?_, ?_, ?_⟩
    · rintro _ ⟨⟩
      exact ⟨by simp, candidate, by omega⟩
    · rintro y hy hc
      obtain hy | rfl := by simpa using hy
      · exact (below y hy hc).le
      · exact le_rfl
    · rintro _ ⟨⟩ y hy hc same
      obtain hy | rfl := by simpa using hy
      · exact absurd same (below y hy hc).ne
      · exact le_rfl
  case isFalse worse =>
    have most (hc : isCandidate p day amount x.2 = true) : candidateBonus amount x.2 ≤ selectedBonus amount best := by
      simpa [hc] using worse
    refine ⟨fun e he => ?_, fun y hy hc => ?_, fun e he y hy hc same => ?_⟩
    · obtain ⟨mem, rest⟩ := listed e he
      exact ⟨List.mem_append_left _ mem, rest⟩
    · obtain hy | rfl := by simpa using hy
      · exact greatest y hy hc
      · exact most hc
    · obtain hy | rfl := by simpa using hy
      · exact lowest e he y hy hc same
      · exact (last e (listed e he).1).le

theorem selectPromotion_isSelection (h : Tab.rising t = true) :
    IsSelection p day amount t (selectPromotion p day amount t) := by
  rw [Tab.rising_iff_pairwise] at h
  induction t using List.reverseRecOn with
  | nil => exact ⟨nofun, nofun, nofun⟩
  | append_singleton t x ih =>
    obtain ⟨front, -, last⟩ := List.pairwise_append.1 h
    rw [selectPromotion, List.foldl_concat]
    exact (ih front).concat fun y hy => last y hy x (List.mem_singleton_self x)

/-- Two selections are equal: their bonuses are each the greatest, and their numbers each the lowest. -/
theorem IsSelection.eq (rising : Tab.rising t = true) (h : IsSelection p day amount t best)
    (k : IsSelection p day amount t other) : best = other := by
  rcases best with _ | e <;> rcases other with _ | f
  · rfl
  · obtain ⟨mem, candidate, more⟩ := k.listed f rfl
    exact absurd (h.greatest f mem candidate) (Nat.not_le.2 more)
  · obtain ⟨mem, candidate, more⟩ := h.listed e rfl
    exact absurd (k.greatest e mem candidate) (Nat.not_le.2 more)
  · obtain ⟨eMem, eCandidate, -⟩ := h.listed e rfl
    obtain ⟨fMem, fCandidate, -⟩ := k.listed f rfl
    have same : candidateBonus amount e.2 = candidateBonus amount f.2 :=
      (k.greatest e eMem eCandidate).antisymm (h.greatest f fMem fCandidate)
    have number : e.1 = f.1 :=
      (h.lowest e rfl f fMem fCandidate same.symm).antisymm (k.lowest f rfl e eMem eCandidate same)
    have find {x : Nat × Promotion} (hx : x ∈ t) : Tab.find t x.1 = some x.2 := (Tab.find_eq_some_iff rising).2 hx
    have entry : some e.2 = some f.2 := (find eMem).symm.trans ((congrArg _ number).trans (find fMem))
    exact congrArg _ (Prod.ext number (Option.some.inj entry))

theorem selectPromotion_eq_iff (rising : Tab.rising t = true) :
    selectPromotion p day amount t = best ↔ IsSelection p day amount t best :=
  ⟨fun h => h ▸ selectPromotion_isSelection rising, (selectPromotion_isSelection rising).eq rising⟩

theorem isCandidate_iff {e : Promotion} :
    isCandidate p day amount e = true ↔
      e.enabled = true ∧ e.mask.getLsbD p = true ∧ e.startDay ≤ day ∧ day ≤ e.endDay ∧ e.trigger ≤ amount := by
  simp [isCandidate, and_assoc]

/-- A Promotion Table entry at its power-on values is no candidate. -/
theorem not_isCandidate_initial : ¬isCandidate p day amount .initial = true := fun h => nomatch (isCandidate_iff.1 h).1

section Table
variable {s : State} (form : Tab.wfWith .initial s.promotions = true)
include form

theorem mem_promotions_iff {n : Nat} {e : Promotion} (candidate : isCandidate p day amount e = true) :
    (n, e) ∈ s.promotions ↔ s.promotion n = e := by
  refine ⟨get_of_mem form, fun h => ?_⟩
  subst h
  exact mem_of_get_ne form fun (initial : s.promotion n = .initial) => not_isCandidate_initial (initial ▸ candidate)

/-- What the listed candidates have, every entry of the table has that is a candidate. -/
theorem forall_candidate_iff {P : Nat → Promotion → Prop} :
    (∀ x ∈ s.promotions, isCandidate p day amount x.2 = true → P x.1 x.2) ↔
      ∀ m, isCandidate p day amount (s.promotion m) = true → P m (s.promotion m) :=
  forall_mem_iff_forall_get form (P := fun m e => isCandidate p day amount e = true → P m e)
    fun _ h => absurd h not_isCandidate_initial

theorem isSelection_none_iff :
    IsSelection p day amount s.promotions none ↔
      ∀ m, isCandidate p day amount (s.promotion m) = true → candidateBonus amount (s.promotion m) = 0 := by
  rw [← forall_candidate_iff form (P := fun _ e => candidateBonus amount e = 0)]
  exact ⟨fun h x hx hc => Nat.le_zero.1 (h.greatest x hx hc), fun h => ⟨nofun, fun x hx hc => (h x hx hc).le, nofun⟩⟩

theorem isSelection_some_iff {n : Nat} {e : Promotion} :
    IsSelection p day amount s.promotions (some (n, e)) ↔
      s.promotion n = e ∧ isCandidate p day amount e = true ∧ 0 < candidateBonus amount e ∧
        ∀ m, isCandidate p day amount (s.promotion m) = true →
          candidateBonus amount (s.promotion m) ≤ candidateBonus amount e ∧
            (candidateBonus amount (s.promotion m) = candidateBonus amount e → n ≤ m) := by
  rw [← forall_candidate_iff form (P := fun m x =>
    candidateBonus amount x ≤ candidateBonus amount e ∧ (candidateBonus amount x = candidateBonus amount e → n ≤ m))]
  constructor
  · intro h
    obtain ⟨mem, candidate, more⟩ := h.listed (n, e) rfl
    exact ⟨(mem_promotions_iff form candidate).1 mem, candidate, more,
      fun x hx hc => ⟨h.greatest x hx hc, h.lowest (n, e) rfl x hx hc⟩⟩
  · rintro ⟨entry, candidate, more, best⟩
    refine ⟨?_, fun x hx hc => (best x hx hc).1, ?_⟩
    · rintro _ ⟨⟩
      exact ⟨(mem_promotions_iff form candidate).2 entry, candidate, more⟩
    · rintro _ ⟨⟩ x hx hc
      exact (best x hx hc).2

end Table
end Selection

/-- Settles O33: the fold over the listed entries is their selection, and what is not listed is no candidate. -/
theorem promotionSelected : Obligations.PromotionSelected := by
  intro p day amount s form bonus candidate
  have rising := (Tab.wfWith_iff.1 form).1
  have none_iff := (selectPromotion_eq_iff rising).trans (isSelection_none_iff (p := p) (day := day) (amount := amount) form)
  have some_iff (n : Nat) (e : Promotion) :=
    (selectPromotion_eq_iff rising).trans (isSelection_some_iff (p := p) (day := day) (amount := amount) (n := n) (e := e) form)
  simp only [isCandidate_iff] at none_iff some_iff
  exact ⟨none_iff, some_iff⟩

end Sys2Proof.Machine

/-! # The commands of the Promotion Table (R89) -/

namespace Sys2Proof.Machine

theorem promotionInRange_iff {e : Promotion} : promotionInRange e = true ↔ promotionAllowed e := by
  simp [promotionInRange, promotionAllowed, and_assoc]

/-- A Promotion Table read after a write of an entry. -/
theorem promotion_setPromotion {s : State} (h : Tab.wfWith .initial s.promotions = true) (n m : Nat) (e : Promotion) :
    (s.setPromotion n e).promotion m = if m = n then e else s.promotion m := by
  unfold State.promotion State.setPromotion
  split
  · subst m; exact Tab.get_set_same _ _ h
  · exact Tab.get_set_other _ _ _ ‹_›

/-! ## The fields -/

/-- The fields of a promotion but its state, in the order of R88. -/
def promotionFieldBytes (e : Promotion) : List Byte :=
  leBytes 4 e.mask.toNat ++ leBytes 3 e.trigger ++ leBytes 2 e.rate ++ leBytes 3 e.cap ++ leBytes 2 e.startDay
    ++ leBytes 2 e.endDay ++ leBytes 2 e.lifetime

/-- Each field of a promotion fits the bytes that carry it. -/
abbrev promotionFits (e : Promotion) : Prop :=
  e.trigger < 2 ^ 24 ∧ e.rate < 2 ^ 16 ∧ e.cap < 2 ^ 24 ∧ e.startDay < 2 ^ 16 ∧ e.endDay < 2 ^ 16 ∧ e.lifetime < 2 ^ 16

theorem promotionWriteFields_bytes {n : Nat} (hn : n < 256) {e : Promotion} (fits : promotionFits e) (extra : List Byte) :
    promotionWriteFields (leBytes 1 n ++ promotionFieldBytes e ++ extra) = some (n, { e with enabled := false }) := by
  obtain ⟨trigger, rate, cap, startDay, endDay, lifetime⟩ := fits
  simp only [promotionFieldBytes, List.append_assoc]
  refine (takeNum_bind _ rfl hn).trans <| (takeNum_bind (max := 16777216) _ rfl e.mask.isLt).trans <|
    (takeNum_bind _ rfl trigger).trans <| (takeNum_bind _ rfl rate).trans <| (takeNum_bind _ rfl cap).trans <|
    (takeNum_bind _ rfl startDay).trans <| (takeNum_bind _ rfl endDay).trans <| (takeNum_bind _ rfl lifetime).trans ?_
  rw [BitVec.ofNat_toNat, BitVec.setWidth_eq]
  rfl

/-- The data of a PROMOTION READ: the state, then the fields (R88, R89). -/
theorem promotionData_eq (e : Promotion) :
    promotionData e =
      [if e.enabled then 1#8 else 0#8] ++ leBytes 4 e.mask.toNat ++ leBytes 3 e.trigger ++ leBytes 2 e.rate
        ++ leBytes 3 e.cap ++ leBytes 2 e.startDay ++ leBytes 2 e.endDay ++ leBytes 2 e.lifetime := by
  rw [promotionData, num_indication]
  rfl

/-! ## The rules -/

section Rules
variable {s : State} {fields : List Byte} {n : Nat}

section Write
variable {e : Promotion} (hf : promotionWriteFields fields = some (n, e))
include hf

theorem promotionWrite_beyond (beyond : 64 ≤ n) : promotionWrite fields s = refuse .range s := by
  rw [promotionWrite, hf]
  exact if_pos beyond

theorem promotionWrite_enabled (inside : n < 64) (enabled : (s.promotion n).enabled = true) :
    promotionWrite fields s = refuse .state s := by
  rw [promotionWrite, hf]
  exact (if_neg (Nat.not_le.2 inside)).trans (if_pos enabled)

theorem promotionWrite_disabled (inside : n < 64) (disabled : (s.promotion n).enabled = false) :
    promotionWrite fields s = if promotionInRange e then (s.setPromotion n e, .done []) else refuse .range s := by
  rw [promotionWrite, hf]
  exact (if_neg (Nat.not_le.2 inside)).trans (if_neg (by simp [disabled]))

end Write

section Numbered
variable (hf : oneNumber 63 fields = some n)
include hf

theorem promotionEnable_refused (h : 64 ≤ n ∨ ¬promotionAllowed (s.promotion n)) :
    promotionEnable fields s = refuse .range s := by
  simp only [promotionEnable, hf]
  obtain beyond | bad := h
  · exact if_pos beyond
  · rw [if_neg (mt promotionInRange_iff.1 bad), ite_self]

theorem promotionEnable_enables (inside : n < 64) (allowed : promotionAllowed (s.promotion n)) :
    promotionEnable fields s = (s.setPromotion n { s.promotion n with enabled := true }, .done []) := by
  simp only [promotionEnable, hf, if_pos (promotionInRange_iff.2 allowed)]
  exact if_neg (Nat.not_le.2 inside)

theorem promotionDisable_beyond (beyond : 64 ≤ n) : promotionDisable fields s = refuse .range s := by
  simp only [promotionDisable, hf]
  exact if_pos beyond

theorem promotionDisable_disables (inside : n < 64) :
    promotionDisable fields s = (s.setPromotion n { s.promotion n with enabled := false }, .done []) := by
  simp only [promotionDisable, hf]
  exact if_neg (Nat.not_le.2 inside)

theorem promotionRead_beyond (beyond : 64 ≤ n) : promotionRead fields s = refuse .range s := by
  simp only [promotionRead, hf]
  exact if_pos beyond

theorem promotionRead_reads (inside : n < 64) : promotionRead fields s = (s, .done (promotionData (s.promotion n))) := by
  simp only [promotionRead, hf]
  exact if_neg (Nat.not_le.2 inside)

end Numbered
end Rules

/-! ## The commands -/

section Commands
variable {s : State} {code : Nat} {c : MgmtCommand}

/-- A command above the access level is refused LEVEL, whatever its rule says (R166). -/
theorem takeCommand_level (head : headCommand s = some c) (hc : c.code = code)
    (low : s.mgmt.level < (levelOf code).getD 0) (rule : MgmtCommand → State → State) :
    takeCommand code rule s = s.answering c (.refused .level) := by
  simp only [takeCommand, head, if_pos hc, if_pos low]
  rfl

/-- A command that writes one Promotion Table entry leaves the others, and everything else but its answer. -/
theorem takeAtOnce_promotion {n : Nat} {after : Promotion} (form : Tab.wfWith .initial s.promotions = true)
    (h : admits s code c = true) {rule : List Byte → State → State × MgmtResult}
    (hr : rule c.fields s.unqueued = (s.unqueued.setPromotion n after, .done [])) :
    ∃ t : State, takeCommand code (atOnce rule) s = t.answering c (.done []) ∧ t = { s with promotions := t.promotions } ∧
      t.promotion n = after ∧ ∀ m, m ≠ n → t.promotion m = s.promotion m :=
  ⟨s.setPromotion n after, takeAtOnce_of_admits h hr, rfl, (promotion_setPromotion form n n after).trans (if_pos rfl),
    fun m other => (promotion_setPromotion form n m after).trans (if_neg other)⟩

end Commands

/-- Settles O55, a clause for each command, from the bytes its fields are sent as. -/
theorem promotionsAreWrittenAndEnabled : Obligations.PromotionsAreWrittenAndEnabled := by
  intro s c n extra hn form e refused becomes
  have writes {i : Instr} {code : Nat} {rule : List Byte → State → State × MgmtResult} {after : Promotion}
      (hi : exec i s = .next (takeCommand code (atOnce rule) s)) (h : admits s code c = true)
      (hr : rule c.fields s.unqueued = (s.unqueued.setPromotion n after, .done [])) : becomes i after := by
    obtain ⟨t, run, rest⟩ := takeAtOnce_promotion form h hr
    exact ⟨t, hi.trans (congrArg _ run), rest⟩
  refine ⟨fun mask trigger rate cap startDay endDay lifetime h hf fitTrigger fitRate fitCap fitStart fitEnd fitLifetime => ?_,
    fun hf => ?_, fun head low i k listed hc => ?_⟩
  · intro written
    have fields : promotionWriteFields c.fields = some (n, written) := by
      have sent : c.fields = leBytes 1 n ++ promotionFieldBytes written ++ extra := by
        simp only [hf, promotionFieldBytes, List.append_assoc, written]
      rw [sent]
      exact promotionWriteFields_bytes hn ⟨fitTrigger, fitRate, fitCap, fitStart, fitEnd, fitLifetime⟩ extra
    refine ⟨fun beyond => ?_, fun inside enabled => ?_, fun inside disabled bad => ?_, fun inside disabled allowed => ?_⟩
    · exact congrArg _ (takeAtOnce_refused h (promotionWrite_beyond fields beyond))
    · exact congrArg _ (takeAtOnce_refused h (promotionWrite_enabled (s := s.unqueued) fields inside enabled))
    · have run := promotionWrite_disabled (s := s.unqueued) fields inside disabled
      rw [if_neg (mt promotionInRange_iff.1 bad)] at run
      exact congrArg _ (takeAtOnce_refused h run)
    · have run := promotionWrite_disabled (s := s.unqueued) fields inside disabled
      rw [if_pos (promotionInRange_iff.2 allowed)] at run
      exact writes rfl h run
  · have number : oneNumber 63 c.fields = some n := (congrArg _ hf).trans (oneNumber_leBytes extra rfl hn)
    refine ⟨fun h => ⟨fun bad => ?_, fun inside allowed => ?_⟩, fun h => ⟨fun beyond => ?_, fun inside => ?_⟩,
      fun h => ⟨fun beyond => ?_, fun inside => ?_⟩⟩
    · exact congrArg _ (takeAtOnce_refused h (promotionEnable_refused (s := s.unqueued) number bad))
    · exact writes rfl h (promotionEnable_enables (s := s.unqueued) number inside allowed)
    · exact congrArg _ (takeAtOnce_refused h (promotionDisable_beyond number beyond))
    · exact writes rfl h (promotionDisable_disables (s := s.unqueued) number inside)
    · exact congrArg _ (takeAtOnce_refused h (promotionRead_beyond number beyond))
    · rw [← promotionData_eq]
      exact congrArg _ (takeAtOnce_answers h (promotionRead_reads (s := s.unqueued) number inside))
  · simp only [List.mem_cons, Prod.mk.injEq, List.not_mem_nil, or_false] at listed
    obtain ⟨rfl, rfl⟩ | ⟨rfl, rfl⟩ | ⟨rfl, rfl⟩ := listed
    iterate 3 exact congrArg _ (takeCommand_level head hc low _)

end Sys2Proof.Machine

/-! # REVERSE past its checks (R103 to R107) -/

namespace Sys2Proof.Machine

/-- Marking the request of an original marks the original alone: no other recent reference is of its request (R15, R107). -/
theorem markReversed_eq {l : List RecentRef} (distinct : l.Pairwise fun a b => ¬(a.till = b.till ∧ a.seq = b.seq))
    {x : RecentRef} (hx : x ∈ l) :
    markReversed x.till x.seq l = l.map fun y => if y = x then { y with reversed := true } else y := by
  refine List.map_congr_left fun y hy => ?_
  have same : (y.till = x.till ∧ y.seq = x.seq) ↔ y = x := by
    refine ⟨fun ⟨till, seq⟩ => ?_, by rintro rfl; exact ⟨rfl, rfl⟩⟩
    have found := findRecent_eq_some distinct hy till seq
    rw [findRecent_eq_some distinct hx rfl rfl] at found
    exact (Option.some.inj found).symm
  simp only [same]

section Reverse
variable {card p : Nat} {t : TillRequest} {s : State} {r : CardRecord} {x : RecentRef}

theorem decideReverse_undo_ok {v : Reversed} (hk : t.kind = .reverse) (hg : gateSettle r.state = none)
    (ho : originalOf t s.mgmt.day r = some x) (hu : undo card p x s r = .ok v) :
    decideTill card p t s r r = recordReversal card t x s r v := by
  simp only [decideTill, hk, decideReverse, hg, ho, hu]

/-- Only the kinds of R102 are undone. -/
theorem kind_of_undo_ok {v : Reversed} (hu : undo card p x s r = .ok v) :
    x.kind ∈ [.activate, .load, .redeem, .hold, .complete] := by
  cases hk : x.kind with
  | activate | load | redeem | hold | complete => decide
  | inquire | release | reverse | withdraw =>
    simp only [undo, hk] at hu
    cases hu

/-- How much of a bonus return is kept (R61). -/
theorem settleReturn_kept (ret ceiling day : Nat) (r : CardRecord) :
    (settleReturn ret ceiling day r).1 =
      if ∀ d, r.bonusExpiry = some d → day ≤ d then min ret (ceiling - r.bonus) else 0 := by
  split
  · rw [settleReturn_live ‹_›]
    split
    · simp [*]
    · rfl
  · rename_i passed
    push Not at passed
    obtain ⟨d, hd, late⟩ := passed
    rw [settleReturn_expired hd late]

section Stocked
variable (free : journalFree s ≠ 0)
include free

/-- A reversed REDEEM or COMPLETE gives back what it drew (R103, R104); only a REDEEM's counts back on the day amount, and only
a COMPLETE's names its hold. -/
theorem undo_gives_back (hk : x.kind = .redeem ∨ x.kind = .complete) :
    undo card p x s r =
      .ok
        (giveBack x (settingsOf s p).bonusCeiling (if x.kind = .redeem then x.approved else 0) card
          (if x.kind = .redeem then none else x.holdRef) s r) := by
  rcases hk with hk | hk <;> simp only [undo, hk, if_neg free] <;> rfl

theorem undo_hold_open {ref : HoldRef} {h : HoldSlot} (hk : x.kind = .hold) (hr : x.holdRef = some ref)
    (hf : resolveHold s card ref = .found h) :
    undo card p x s r = .ok (undoHold card ref h (settingsOf s p).bonusCeiling s r) := by
  simp only [undo, hk, hr, Option.getD_some, hf, if_neg free]

theorem undo_load_covered (hk : x.kind = .load ∨ x.kind = .activate) (paid : x.approved ≤ r.paid)
    (bonus : x.bonusGranted ≤ r.bonus) : undo card p x s r = .ok (takeBack x card s r) := by
  have covered : ¬(r.paid < x.approved ∨ r.bonus < x.bonusGranted) := by omega
  rcases hk with hk | hk <;> simp only [undo, hk, if_neg covered, if_neg free]

end Stocked

/-- A return in the terms of the bonus it keeps (R61, R103, R104). -/
theorem giveBack_eq {kept ceiling : Nat}
    (hk : kept = if ∀ d, r.bonusExpiry = some d → s.mgmt.day ≤ d then min x.bonusPart (ceiling - r.bonus) else 0)
    (dayBack card : Nat) (ref : Option HoldRef) :
    giveBack x ceiling dayBack card ref s r =
      { st := s
        record :=
          { r with
            paid := r.paid + x.paidPart
            bonus := r.bonus + kept
            bonusExpiry :=
              expiryAfter (r.bonus + kept) (holdsBonus s card)
                (if x.bonusPart = 0 then r.bonusExpiry else r.bonusExpiry.or (some s.mgmt.day))
            dayAmount := r.dayAmount - dayBack }
        paidPart := x.paidPart, bonusPart := kept, paidDelta := x.paidPart, bonusDelta := kept, heldDelta := 0,
        forfeited := x.bonusPart - kept, holdRef := ref, promotion := none } := by
  simp only [giveBack, settleReturn_expiry, hk.trans (settleReturn_kept ..).symm]
  rfl

/-- The record that taking back a covered load leaves: an ACTIVATE's card is INACTIVE again where all its value was the load's
(R106). -/
theorem takeBack_record (paid : x.approved ≤ r.paid) (bonus : x.bonusGranted ≤ r.bonus) :
    (takeBack x card s r).record =
      { r with
        paid := r.paid - x.approved
        bonus := r.bonus - x.bonusGranted
        bonusExpiry := expiryAfter (r.bonus - x.bonusGranted) (holdsBonus s card) r.bonusExpiry
        state :=
          if x.kind = .activate ∧ r.state = .active ∧ r.paid = x.approved ∧ r.bonus = x.bonusGranted ∧ r.held = 0 then
            .inactive
          else r.state } := by
  have allPaid : r.paid - x.approved = 0 ↔ r.paid = x.approved := by omega
  have allBonus : r.bonus - x.bonusGranted = 0 ↔ r.bonus = x.bonusGranted := by omega
  simp only [takeBack, allPaid, allBonus]
  rfl

end Reverse

/-- Settles O36: each kind of original undoes what it moved, and every settlement is marked, recorded, appended and answered
alike. -/
theorem reverseSettles : Obligations.ReverseSettles := by
  intro s it q₀ p r t q n x h hk hn distinct open_ hx own named unreversed today free k settled
  have hc : exec (.reverse it.card) s = onCard it.card (takeHead (isTill q₀.kind) it.card) s := by rw [hk]; rfl
  have stocked := Nat.ne_of_gt free
  have settles (v : Reversed) (hu : undo it.card p x t q = .ok v) :
      settled v.st v.record v.paidPart v.bonusPart v.paidDelta v.bonusDelta v.heldDelta v.forfeited v.holdRef v.promotion := by
    have original := originalOf_eq_some hn distinct hx ⟨own, named⟩ ⟨kind_of_undo_ok hu, unreversed, today⟩
    simp only [settled, ← addRecent_eq_joined, ← markReversed_eq distinct hx]
    exact exec_ends h hc (decideReverse_undo_ok hk (gateSettle_open open_) original hu) rfl
  refine ⟨fun kind => ?_, fun ref kind hr listed reuse card taken => ?_, fun kind paid bonus => ?_⟩
  · intro kept
    have dayAmount : (if x.kind = .redeem then q.dayAmount - x.approved else q.dayAmount) =
        q.dayAmount - if x.kind = .redeem then x.approved else 0 := by split <;> rfl
    rw [dayAmount]
    exact settles _ ((undo_gives_back stocked kind).trans (congrArg _ (giveBack_eq (kept := kept) rfl ..)))
  · exact settles _ (undo_hold_open stocked kind hr (resolveHold_of_open ⟨listed, reuse, card⟩ taken))
  · have moved := settles _ (undo_load_covered stocked kind paid bonus)
    rwa [takeBack_record paid bonus] at moved

end Sys2Proof.Machine

/-! # CARD RESTORE at the end of its scan and of its write (R113) -/

namespace Sys2Proof.Machine

/-- The open holds of a card are the slots that are not FREE and name it, in ascending slot number. -/
theorem openHoldsOf_eq {s : State} (wf : Tab.wfWith .initial s.slots = true) (low : ∀ e ∈ s.slots, e.1 < 16384) (card : Nat) :
    openHoldsOf s card =
      ((List.range 16384).filter fun n => (s.slot n).card == card && decide ((s.slot n).state ≠ .free)).map s.slot := by
  rw [openHoldsOf, Tab.filter_eq_map_range wf low (P := fun _ h => h.card == card && decide (h.state ≠ .free))
    fun _ => Bool.and_false _, List.map_map]
  rfl

section Scan
variable {s : State} {j : RestoreJob}

theorem exec_restoreScanEnd (hj : s.tmc.restore = some j) (working : s.working = true) (hw : j.written = none) :
    exec .restoreScanEnd s = .next (completeScan j s) := by
  show Host.Outcome.next (scanEnd s) = _
  simp only [scanEnd, hj, working, hw, true_and, if_true]

theorem completeScan_state (inactive : j.load.stateCode = 0) (held : openHoldsOf s j.card ≠ []) :
    completeScan j s = refuseRestore j .state s := if_pos ⟨inactive, held⟩

theorem completeScan_journalFull (h : ¬(j.load.stateCode = 0 ∧ openHoldsOf s j.card ≠ [])) (full : journalFree s = 0) :
    completeScan j s = refuseRestore j .journalFull s := (if_neg h).trans (if_pos full)

theorem completeScan_restores (h : ¬(j.load.stateCode = 0 ∧ openHoldsOf s j.card ≠ [])) (free : journalFree s ≠ 0) :
    let r := restoredRecord j s.mgmt.day (openHoldsOf s j.card)
    let t := appendJournal (restoreEntry j s r) s
    completeScan j s =
      { t with
        tmc :=
          { t.tmc with
            writes := t.tmc.writes ++ [{ id := t.tmc.nextWrite, body := .card j.card r .restore }]
            nextWrite := t.tmc.nextWrite + 1
            restore := some { j with written := some (r, s.journal.next) } } } := (if_neg h).trans (if_neg free)

/-- The record restored from the card's holds as they stand in their slots (R113). -/
theorem restoredRecord_slots (j : RestoreJob) (day : Nat) (slot : Nat → HoldSlot) (holds : List Nat) :
    restoredRecord j day (holds.map slot) =
      { program := j.program, state := (cardStateOf j.load.stateCode).getD .inactive, paid := j.load.paid,
        bonus := j.load.bonus
        bonusExpiry :=
          if 0 < j.load.bonus then j.load.bonusExpiry
          else if ∃ n ∈ holds, 0 < (slot n).bonusPart then some (j.load.bonusExpiry.getD day)
          else none
        held := (holds.map fun n => (slot n).amount).sum
        openHolds := holds.length, lastDay := day, dayCount := 0, dayAmount := 0
        verify := j.load.verify.bind verifyValueOf
        verifyFailures := 0, frozen := false, recents := [] } := by
  simp [restoredRecord, restoredExpiry, Function.comp_def]

end Scan

/-- The restore ends with the write of its record, where no engine reset is under way (R113). -/
theorem exec_restoreWriteComplete {s : State} {j : RestoreJob} {r x : CardRecord} {seq : Nat} (hj : s.tmc.restore = some j)
    (settled : s.resetPending = false) (hw : j.written = some (r, seq))
    (oldest : oldestCardWrite j.card s = some (x, .restore)) :
    exec .restoreWriteComplete s =
      .next
        (replyStarted 0x26 j.tag (.done (encodeCardRecord r ++ leBytes 4 seq))
          ((storeCard j.card x s).withTmc
            { (storeCard j.card x s).tmc with
              restore := none, quarantine := (storeCard j.card x s).tmc.quarantine.erase j.card })) := by
  show Host.Outcome.next (restoreWriteDone s) = _
  simp only [restoreWriteDone, hj, hw, oldest, endRestore, replyEnded]
  rw [if_neg (by simp [storeCard, settled])]
  rfl

/-- Settles O46: the scan is cut at its refusals, and the holds it reads are those of the slots in rising order. -/
theorem restoreRuns : Obligations.RestoreRuns := by
  intro s j hj high settled
  refine ⟨fun hw wf low => ?_, fun r seq a i x b hw queued before => ?_⟩
  · intro holds refused
    have listed : openHoldsOf s j.card = holds.map s.slot := openHoldsOf_eq wf low j.card
    clear_value holds
    have run := exec_restoreScanEnd hj (working_iff.2 ⟨high, settled⟩) hw
    have none_iff : openHoldsOf s j.card = [] ↔ holds = [] := by rw [listed, List.map_eq_nil_iff]
    have passes (h : j.load.stateCode ≠ 0 ∨ holds = []) : ¬(j.load.stateCode = 0 ∧ openHoldsOf s j.card ≠ []) := by
      rw [ne_eq, none_iff]; tauto
    refine ⟨fun inactive held => ?_, fun h full => ?_, fun h free => ?_⟩
    · exact run.trans (congrArg _ (completeScan_state inactive (mt none_iff.1 held)))
    · exact run.trans (congrArg _ (completeScan_journalFull (passes h) full))
    · intro record entry t
      have stored : restoredRecord j s.mgmt.day (openHoldsOf s j.card) = record := by
        rw [listed]; exact restoredRecord_slots ..
      have restores := completeScan_restores (passes h) (Nat.ne_of_gt free)
      rw [stored] at restores
      exact run.trans (congrArg _ restores)
  · rw [exec_restoreWriteComplete hj settled hw (oldestCardWrite_of_split queued before), storeCard_of_split queued before]
    rfl

end Sys2Proof.Machine

/-! # Park timeouts and the REFERRED answer of a parked item (R122, R123) -/

namespace Sys2Proof.Machine

/-! ## Keys erased from a table -/

theorem Tab.find_foldl_erase {α : Type} (keys : List Nat) {t : Tab α} (rising : Tab.rising t = true) (key : Nat) :
    Tab.find (keys.foldl Tab.erase t) key = if key ∈ keys then none else Tab.find t key := by
  induction keys generalizing t with
  | nil => rfl
  | cons k keys ih =>
    rw [List.foldl_cons, ih (Tab.rising_erase k rising)]
    by_cases hk : key = k
    · simp [hk, Tab.find_erase_same rising]
    · simp [hk, Tab.find_erase_other t hk]

/-- The keys of the entries that have a property are those looked up with it. -/
theorem Tab.mem_map_filter_iff {α : Type} {t : Tab α} (rising : Tab.rising t = true) (P : α → Bool) (key : Nat) :
    key ∈ (t.filter fun e => P e.2).map (·.1) ↔ ∃ v, Tab.find t key = some v ∧ P v = true := by
  simp only [Tab.find_eq_some_iff rising]
  simp

/-- Where the entries that have a property are erased, the lookup finds the entries without it. -/
theorem Tab.find_erase_filter {α : Type} {t : Tab α} (rising : Tab.rising t = true) (P : α → Bool) (key : Nat) :
    Tab.find (((t.filter fun e => P e.2).map (·.1)).foldl Tab.erase t) key = (Tab.find t key).filter fun v => !P v := by
  rw [Tab.find_foldl_erase _ rising]
  simp only [Tab.mem_map_filter_iff rising]
  cases found : Tab.find t key with
  | none => simp
  | some v => cases holds : P v <;> simp [Option.filter, holds]

/-! ## A parked item is referred -/

section Refer
variable {s : State} {p : ParkEntry}

/-- A parked item that is referred leaves the park, and the other entries stand. -/
@[simp] theorem referParked_park (id : Nat) (p : ParkEntry) (s : State) :
    (referParked id p s).watch.park = Tab.erase s.watch.park id := by
  rw [referParked, freeIfDone_watch, countOut_watch]
  split <;> rfl

theorem foldl_referParked_park (l : List (Nat × ParkEntry)) (s : State) :
    (l.foldl (fun s e => referParked e.1 e.2 s) s).watch.park = (l.map (·.1)).foldl Tab.erase s.watch.park := by
  induction l generalizing s with
  | nil => rfl
  | cons e l ih => rw [List.foldl_cons, ih, referParked_park]; rfl

/-- The record of a busy entry whose way is valid is the record of that way. -/
theorem recordOf_of_valid {card w : Nat} {e : BusyEntry} (he : s.busyOf card = some e) (way : e.way = some w)
    (valid : (s.wayAt card w).valid = true) : recordOf s e = (s.wayAt card w).record := by
  rw [recordOf, way, busyOf_card he]
  exact if_pos valid

/-- The answer to a parked till item shows the record of its card's entry (R122). -/
theorem referParked_till {t : TillRequest} {e : BusyEntry} (id : Nat) (body : p.item.body = .till t)
    (he : s.busyOf p.card = some e) :
    referParked id p s =
      freeIfDone p.card
        (countOut p.item.program
          (answerTaken t .referred false none none none (recordOf s e)
            (updateBusy p.card (fun x => { x with state := .active, current := none })
              (s.withWatch { s.watch with park := Tab.erase s.watch.park id })))) := by
  simp only [referParked, body, he]

end Refer

/-! ## The timeouts -/

section Timeouts
variable {s : State}

theorem expiredParks_eq_nil_iff : expiredParks s = [] ↔ ∀ e ∈ s.watch.park, s.time.seconds < e.2.expirySecond := by
  simp [expiredParks, List.filter_eq_nil_iff]

theorem watchTimeouts_idle (h : expiredParks s = []) : watchTimeouts s = s := if_pos (by simp [h])

theorem watchTimeouts_expired (working : s.working = true) (h : expiredParks s ≠ []) :
    watchTimeouts s =
      raiseNotice .watchTimeout false ((expiredParks s).foldl (fun s e => referParked e.1 e.2 s) s) :=
  if_neg (by simp [working, h])

/-- The park once the expired items are referred: each entry stands that has not reached its expiry second. -/
theorem find_park_expired (rising : Tab.rising s.watch.park = true) (id : Nat) :
    Tab.find ((expiredParks s).foldl (fun s e => referParked e.1 e.2 s) s).watch.park id =
      (Tab.find s.watch.park id).filter fun p => decide (s.time.seconds < p.expirySecond) := by
  rw [foldl_referParked_park, expiredParks,
    Tab.find_erase_filter rising fun p => decide (p.expirySecond ≤ s.time.seconds)]
  simp only [← decide_not, Nat.not_le]

end Timeouts

/-- Settles O18: the expired entries are a filter of the park, and each that is referred is erased from it. -/
theorem watchTimeoutsRefer : Obligations.WatchTimeoutsRefer := by
  refine ⟨fun s => ⟨fun pending => ?_, fun high settled reached => ?_⟩, fun s id p e q₀ w r body _ he way valid record => ?_⟩
  · exact congrArg _ (watchTimeouts_idle (expiredParks_eq_nil_iff.2 pending))
  · have expired : expiredParks s ≠ [] := by
      rw [ne_eq, expiredParks_eq_nil_iff]
      obtain ⟨e, parked, due⟩ := reached
      exact fun pending => Nat.not_lt.2 due (pending e parked)
    exact ⟨_, congrArg _ (watchTimeouts_expired (working_iff.2 ⟨high, settled⟩) expired), rfl, find_park_expired⟩
  · rw [referParked_till id body he, recordOf_of_valid he way valid, record]
    rfl

end Sys2Proof.Machine

/-! # CACHE FLUSH, PACE SET and ENGINE RESET (R133, R163, R178) -/

namespace Sys2Proof.Machine

/-! ## CACHE FLUSH (R133) -/

theorem wayOf_flushedSet (n : Nat) (c : CacheSet) (w : Nat) : wayOf (flushedSet n c) w = flushedWay (wayOf c w) := by
  unfold wayOf
  split <;> rfl

section Flush
variable {s : State} (form : Tab.wfWith .empty s.cache = true)
include form

/-- A cache set of the part whose ways are flushed. -/
theorem cacheSet_flushed (n : Nat) :
    (s.withCache (Tab.update .empty flushedSet s.cache)).cacheSet n = flushedSet n (s.cacheSet n) :=
  Tab.get_update n (fun _ => rfl) form

theorem wayAt_flushed (card w : Nat) :
    (s.withCache (Tab.update .empty flushedSet s.cache)).wayAt card w = flushedWay (s.wayAt card w) := by
  rw [State.wayAt, cacheSet_flushed form, wayOf_flushedSet]
  rfl

end Flush

/-! ## PACE SET (R163) -/

theorem paceSetFields_bytes {choice : Nat} {p : PacerSettings} (hc : choice < 256) (high : p.highMark < 256)
    (low : p.lowMark < 256) (pause : p.pauseTime < 256) (gap : p.gapTime < 256) (count : p.pauseCount < 256)
    (extra : List Byte) :
    paceSetFields
        (leBytes 1 choice ++ leBytes 1 p.highMark ++ leBytes 1 p.lowMark ++ leBytes 1 p.pauseTime ++ leBytes 1 p.gapTime
          ++ leBytes 1 p.pauseCount ++ extra) = some (choice, p) := by
  simp only [List.append_assoc]
  exact (takeNum_bind _ rfl hc).trans <| (takeNum_bind _ rfl high).trans <| (takeNum_bind _ rfl low).trans <|
    (takeNum_bind _ rfl pause).trans <| (takeNum_bind _ rfl gap).trans <| takeNum_bind _ rfl count

/-- A low mark at or above the high mark becomes the high mark minus 1 (R163). -/
theorem lowMark_below (high low : Nat) : (if high ≤ low then high - 1 else low) = min low (high - 1) := by
  split <;> omega

/-- The settings as applied, where the times fit the bytes that carry them. -/
theorem clampPace_eq {p : PacerSettings} (pause : p.pauseTime < 256) (gap : p.gapTime < 256) :
    clampPace p =
      { highMark := max 2 (min p.highMark 64)
        lowMark := min (max 1 (min p.lowMark 63)) (max 2 (min p.highMark 64) - 1)
        pauseTime := max 1 p.pauseTime, gapTime := max 1 p.gapTime, pauseCount := min p.pauseCount 15 } := by
  simp only [clampPace, clamp, PacerSettings.mk.injEq, true_and]
  refine ⟨lowMark_below _ _, ?_⟩
  omega

/-- A store link's unit once settings are staged for its pacer. -/
def stagedUnit (p : PacerSettings) (u : StoreUnit) : StoreUnit :=
  { u with pacer := { u.pacer with staged := p, active := if u.pacer.state = .idle then p else u.pacer.active } }

theorem stagePace_eq (p : PacerSettings) (l : StoreLink) (s : State) :
    stagePace p l s = s.setStoreUnit l (stagedUnit p (s.storeUnit l)) := rfl

theorem stagedUnit_idem (p : PacerSettings) (u : StoreUnit) : stagedUnit p (stagedUnit p u) = stagedUnit p u := by
  simp only [stagedUnit]
  split <;> rfl

theorem foldl_stagePace_frame (p : PacerSettings) (links : List StoreLink) (s : State) :
    links.foldl (fun s l => stagePace p l s) s =
      { s with stores := (links.foldl (fun s l => stagePace p l s) s).stores } := by
  induction links generalizing s with
  | nil => rfl
  | cons k links ih => exact ih (stagePace p k s)

theorem storeUnit_foldl_stagePace (p : PacerSettings) (links : List StoreLink) (s : State) (l : StoreLink) :
    (links.foldl (fun s l => stagePace p l s) s).storeUnit l =
      if l ∈ links then stagedUnit p (s.storeUnit l) else s.storeUnit l := by
  induction links generalizing s with
  | nil => rfl
  | cons k links ih =>
    rw [List.foldl_cons, ih, stagePace_eq, storeUnit_setStoreUnit]
    by_cases hk : l = k
    · subst hk
      simp [stagedUnit_idem]
    · simp [hk]

theorem linksChosen_beyond {choice : Nat} (h : 4 < choice) : linksChosen choice = none := by
  unfold linksChosen
  split
  iterate 5 omega
  rfl

/-- A link choice names one link by its code, or all four as 4 (R163). -/
theorem linksChosen_names {choice : Nat} (h : choice ≤ 4) :
    ∃ links, linksChosen choice = some links ∧ ∀ l, l ∈ links ↔ choice = 4 ∨ choice = storeLinkCode l := by
  interval_cases choice
  iterate 5 exact ⟨_, rfl, fun l => by cases l <;> decide⟩

section Pace
variable {fields : List Byte} {choice : Nat} {p : PacerSettings} (read : paceSetFields fields = some (choice, p))
include read

theorem paceSet_beyond (h : 4 < choice) (s : State) : paceSet fields s = refuse .range s := by
  simp only [paceSet, read, linksChosen_beyond h]

theorem paceSet_stages {links : List StoreLink} (h : linksChosen choice = some links) (s : State) :
    paceSet fields s =
      (links.foldl (fun s l => stagePace (clampPace p) l s) s, .done (paceData (clampPace p))) := by
  simp only [paceSet, read, h]

end Pace

/-- Settles O57, a clause for each command. -/
theorem flushPaceAndResetCommands : Obligations.FlushPaceAndResetCommands := by
  refine fun s c extra => ⟨fun h form => ?_, fun choice high low pause gap count h hc fitHigh fitLow fitPause fitGap fitCount
    hf => ?_, fun h => ?_⟩
  · refine ⟨s.withCache (Tab.update .empty flushedSet s.cache), congrArg _ (takeAtOnce_of_admits (rule := cacheFlush) h rfl),
      rfl, fun n => ?_, fun card w => ⟨fun flushes => ?_, fun stays => ?_⟩⟩
    · rw [cacheSet_flushed form]
      rfl
    · have gone : flushedWay (s.wayAt card w) = .empty := if_pos flushes
      rw [wayAt_flushed form, gone]
      exact ⟨rfl, rfl⟩
    · exact (wayAt_flushed form card w).trans (if_neg (Bool.eq_false_iff.1 stays))
  · have read := (congrArg paceSetFields hf).trans
      (paceSetFields_bytes (p := ⟨high, low, pause, gap, count⟩) hc fitHigh fitLow fitPause fitGap fitCount extra)
    refine ⟨fun beyond => congrArg _ (takeAtOnce_refused h (paceSet_beyond read beyond _)), fun known => ?_⟩
    intro mark applied
    have clamped : clampPace ⟨high, low, pause, gap, count⟩ = applied := clampPace_eq fitPause fitGap
    obtain ⟨links, chosen, names⟩ := linksChosen_names known
    have rule := paceSet_stages read chosen s.unqueued
    rw [clamped] at rule
    have frame := foldl_stagePace_frame applied links s.unqueued
    have unit := storeUnit_foldl_stagePace applied links s.unqueued
    generalize links.foldl (fun s l => stagePace applied l s) s.unqueued = u at rule frame unit
    refine ⟨{ u with central := s.central }, ?_, ?_, fun l => ⟨fun named => ?_, fun other => ?_⟩⟩
    · have central : u.central = s.unqueued.central := by rw [frame]
      exact congrArg _ ((takeAtOnce_of_admits h rule).trans (reply_eq_answering central _))
    · exact congrArg (fun v : State => { v with central := s.central }) frame
    · exact (unit l).trans (if_pos ((names l).2 named))
    · exact (unit l).trans (if_neg (mt (names l).1 other))
  · exact congrArg _ (takeCommand_of_admits h engineReset)

end Sys2Proof.Machine

/-! # The reads the Management Unit waits for (R134 to R136, R147, R148, R170, R174) -/

namespace Sys2Proof.Machine

/-! ## The write a read is queued behind (R135) -/

theorem sameAddress_card_iff {n : Nat} {r : CardRecord} {who : CardWriter} {body : ReadBody} :
    sameAddress (.card n r who) body = true ↔ body = .fetch n ∨ body = .direct n ∨ body = .window n := by
  cases body <;> simp [sameAddress, eq_comm (a := n)]

theorem sameAddress_journal_iff {n : Nat} {e : JournalEntry} {body : ReadBody} :
    sameAddress (.journal n e) body = true ↔ body = .journal n := by
  cases body <;> simp [sameAddress, eq_comm (a := n)]

theorem lastWriteTo_eq_none {s : State} {body : ReadBody} (h : ∀ x ∈ s.tmc.writes, sameAddress x.body body = false) :
    lastWriteTo body s = none := by
  rw [lastWriteTo, List.filter_eq_nil_iff.2 fun x hx => Bool.eq_false_iff.1 (h x hx)]
  rfl

theorem lastWriteTo_of_split {s : State} {body : ReadBody} {a b : List QueuedWrite} {x : QueuedWrite}
    (writes : s.tmc.writes = a ++ x :: b) (own : sameAddress x.body body = true)
    (last : ∀ y ∈ b, sameAddress y.body body = false) : lastWriteTo body s = some x.body := by
  have none : b.filter (fun w => sameAddress w.body body) = [] :=
    List.filter_eq_nil_iff.2 fun y hy => Bool.eq_false_iff.1 (last y hy)
  rw [lastWriteTo, writes, List.filter_append, List.filter_cons_of_pos (by exact own), none, List.getLast?_concat]
  rfl

/-! ## What a queued read delivers (R135) -/

section Delivered
variable {s : State} {body : ReadBody} {behind : Option WriteBody}

theorem readCard_of_behind (h : writeBehind body s = behind) (card : Nat) :
    readCard body card s = recordRead s behind card := by
  rcases behind with _ | _ | _ <;> simp only [readCard, recordRead, h]

theorem directCardBytes_of_behind (h : writeBehind body s = behind) (card : Nat) :
    directCardBytes s body card = recordBytes s behind card := by
  rw [directCardBytes, readCard_of_behind h]
  rfl

theorem ringBytes_of_behind {position : Nat} (h : writeBehind (.journal position) s = behind) :
    ringBytes s position = entryBytes s behind position := by
  rcases behind with _ | _ | _ <;> simp only [ringBytes, readEntry, entryBytes, h] <;> rfl

end Delivered

/-! ## The reads at the front of the queue leave together -/

/-- The part with `b` as its read queue. -/
def State.withReads (s : State) (b : List QueuedRead) : State := s.withTmc { s.tmc with reads := b }

/-- The read at the front leaves where no write of its address is before it (R135). -/
theorem takeRead_of_front {s : State} {x : QueuedRead} {b : List QueuedRead} (reads : s.tmc.reads = x :: b)
    (free : ∀ w ∈ s.tmc.writes, ¬(w.id < x.after ∧ sameAddress w.body x.body = true)) :
    takeRead x.body s = some (s.withReads b) :=
  takeRead_of_split (a := []) reads rfl (by simp) fun w hw => by simpa [blocksRead] using free w hw

section Front
variable {s : State} {rd : Nat} {behind : ReadBody → Option WriteBody} {bodies : List ReadBody} {b : List QueuedRead}
  (reads : s.tmc.reads = bodies.map (fun x => { body := x, after := rd, behind := behind x }) ++ b)
include reads

theorem writeBehind_of_front {y : ReadBody} (hy : y ∈ bodies) : writeBehind y s = behind y := by
  obtain ⟨front, rest, rfl, first⟩ := List.eq_append_cons_of_mem hy
  rw [List.map_append, List.map_cons, List.append_assoc, List.cons_append] at reads
  refine writeBehind_of_split reads rfl fun x hx same => ?_
  obtain ⟨z, hz, rfl⟩ := List.mem_map.1 hx
  exact first (same ▸ hz)

theorem takeReads_of_front (free : ∀ x ∈ s.tmc.writes, ∀ y ∈ bodies, ¬(x.id < rd ∧ sameAddress x.body y = true)) :
    takeReads bodies s = some (s.withReads b) := by
  induction bodies generalizing s with
  | nil =>
    have left : s.tmc.reads = b := reads
    rw [takeReads, ← left]
    rfl
  | cons y bodies ih =>
    simp only [takeReads, takeRead_of_front reads fun w hw => free w hw y List.mem_cons_self]
    exact ih rfl fun x hx z hz => free x hx z (List.mem_cons_of_mem y hz)

end Front

/-! ## The read ends -/

/-- The Management Unit waits for no read. -/
def readEnded (s : State) : State := s.withMgmt { s.mgmt with reading := none }

theorem readEnded_raiseNotice (k : NoticeKind) (overflow : Bool) (s : State) :
    readEnded (raiseNotice k overflow s) = raiseNotice k overflow (readEnded s) := by
  unfold raiseNotice
  exact apply_ite readEnded ..

theorem readEnded_invalidateCard (card : Nat) (s : State) :
    readEnded (invalidateCard card s) = invalidateCard card (readEnded s) := by
  have same : hitWay (readEnded s) card = hitWay s card := rfl
  simp only [invalidateCard, same]
  split <;> rfl

/-- The quarantine rule of a direct read: the card joins the list where it has no busy entry, is not listed and finds room
(R136; log entry 49). -/
theorem quarantineDirect_eq (card : Nat) (s : State) :
    quarantineDirect card s =
      if card ∈ s.tmc.quarantine ∨ (s.busyOf card).isSome = true then raiseNotice .memoryError false s
      else if s.tmc.quarantine.length < 32 then
        raiseNotice .memoryError false
          (invalidateCard card { s with tmc := { s.tmc with quarantine := s.tmc.quarantine ++ [card] } })
      else raiseNotice .memoryError true s := by
  simp only [quarantineDirect, quarantineRule, Bool.or_eq_true, quarantined_iff, Option.not_isNone]
  rfl

theorem readEnded_quarantineDirect (card : Nat) (s : State) :
    readEnded (quarantineDirect card s) = quarantineDirect card (readEnded s) := by
  simp only [quarantineDirect_eq, apply_ite readEnded, readEnded_raiseNotice, readEnded_invalidateCard]
  rfl

theorem countCorrected_zero {s : State} (h : s.tmc.corrected ≤ 65535) : countCorrected 0 s = s := by
  have stays : saturating s.tmc.corrected 0 = s.tmc.corrected := Nat.min_eq_right h
  rw [countCorrected, stays]
  rfl

/-! ## A direct CARD READ (R170) -/

section Direct
variable {s taken : State} {tag card : Nat} (waits : s.mgmt.reading = some (.card tag card))
  (taking : takeRead (.direct card) s = some taken)
include waits taking

theorem directDone_delivers {outcome : ReadOutcome} (bound : taken.tmc.corrected ≤ 65535)
    (good : outcome ≠ .uncorrectable) :
    directDone outcome s =
      endRead 0x02 tag (.done (leBytes 3 card ++ [1#8] ++ directCardBytes s (.direct card) card))
        (countCorrected (if outcome = .corrected then 1 else 0) taken) := by
  simp only [directDone, waits, taking]
  cases outcome with
  | data => rw [if_neg (by decide), countCorrected_zero bound]; rfl
  | corrected => rfl
  | uncorrectable => exact absurd rfl good

theorem directDone_lost :
    directDone .uncorrectable s = endRead 0x02 tag (.refused .unavailable) (quarantineDirect card taken) := by
  simp only [directDone, waits, taking]
  rfl

end Direct

/-! ## A JOURNAL READ (R148) -/

theorem journalData_eq (sel : JournalSelection) (entries : List Byte) :
    journalData sel entries = journalAnswer sel entries := by
  rw [journalData, num_indication]
  rfl

section Entries
variable {s taken : State} {tag : Nat} {sel : JournalSelection} {outcomes : List ReadOutcome}
  (waits : s.mgmt.reading = some (.journal tag sel)) (whole : outcomes.length = sel.count)
  (taking : takeReads ((selectionPositions s.journal sel).map .journal) s = some taken)
include waits whole taking

theorem journalReadDone_delivers (good : .uncorrectable ∉ outcomes) :
    journalReadDone outcomes s =
      endRead 0x04 tag (.done (journalAnswer sel ((selectionPositions s.journal sel).flatMap (ringBytes s))))
        (countCorrected (correctedIn outcomes) taken) := by
  simp only [journalReadDone, waits, if_pos whole, taking, List.contains_iff_mem, if_neg good, journalData_eq]
  rfl

theorem journalReadDone_lost (bad : .uncorrectable ∈ outcomes) :
    journalReadDone outcomes s =
      endRead 0x04 tag (.refused .unavailable)
        (raiseNotice .memoryError false (countCorrected (correctedIn outcomes) taken)) := by
  simp only [journalReadDone, waits, if_pos whole, taking, List.contains_iff_mem, if_pos bad]
  rfl

end Entries

/-! ## A LOAD FETCH (R174) -/

/-- An outcome for each of the records, all with data, ends a LOAD FETCH (R174). -/
theorem fetchOutcomesOk_whole {count : Nat} {outcomes : List ReadOutcome} (good : .uncorrectable ∉ outcomes)
    (whole : outcomes.length = count) : fetchOutcomesOk count outcomes = true := by
  simp [fetchOutcomesOk, good, whole]

/-- Data up to a record that is uncorrectable ends a LOAD FETCH (R174). -/
theorem fetchOutcomesOk_upTo {count : Nat} {good : List ReadOutcome} (data : .uncorrectable ∉ good)
    (within : (good ++ [ReadOutcome.uncorrectable]).length ≤ count) :
    fetchOutcomesOk count (good ++ [.uncorrectable]) = true := by
  rw [fetchOutcomesOk, if_pos (by simp), List.dropLast_concat, decide_eq_true within]
  simpa using data

theorem mem_countUp_of_le {n count first card : Nat} (h : n ≤ count) (hc : card ∈ countUp n first) :
    card ∈ countUp count first := by
  rw [countUp_eq_range', List.mem_range'_1] at hc ⊢
  omega

section Records
variable {s : State} {p pointer : Nat} {d : Direction} (window : s.mgmt.window = .opened d p pointer)
include window

/-- The data of a LOAD FETCH in an open window (R174; log entry 12), over what each of its reads was queued behind. -/
theorem loadFetchData_opened {first count : Nat} {behind : ReadBody → Option WriteBody}
    (front : ∀ card ∈ countUp count first, writeBehind (.window card) s = behind (.window card)) (passed : Nat)
    (failing : Option Nat) :
    loadFetchData s first count passed failing =
      (countUp count first).flatMap (fun card => leBytes 3 card ++ recordBytes s (behind (.window card)) card)
        ++ leBytes 4 passed
        ++ [if passed < (s.program p).settings.tableBase + (s.program p).settings.serialCount then 1#8 else 0#8]
        ++ sentMaybe (failing.map (leBytes 3)) := by
  have records : (countUp count first).flatMap (fun card => num 16777215 card ++ directCardBytes s (.window card) card) =
      (countUp count first).flatMap fun card => leBytes 3 card ++ recordBytes s (behind (.window card)) card :=
    List.flatMap_congr fun card hc => congrArg (leBytes 3 card ++ ·) (directCardBytes_of_behind (front card hc) card)
  simp only [loadFetchData, records, windowEnd, window, num_indication, decide_eq_true_eq, optional_eq_sentMaybe]
  rfl

end Records

section Fetch
variable {s taken : State} {tag first count : Nat} {outcomes : List ReadOutcome}
  (waits : s.mgmt.reading = some (.window tag first count)) (ends : fetchOutcomesOk count outcomes = true)
  (taking : takeReads ((countUp count first).map .window) s = some taken)
include waits ends taking

theorem loadFetchDone_delivers (good : .uncorrectable ∉ outcomes) :
    loadFetchDone outcomes s =
      endRead 0x29 tag (.done (loadFetchData s first outcomes.length (first + outcomes.length) none))
        (movePointer (first + outcomes.length) (countCorrected (correctedIn outcomes) taken)) := by
  simp only [loadFetchDone, waits, if_pos ends, taking, List.contains_iff_mem, if_neg good]
  rfl

theorem loadFetchDone_lost (bad : .uncorrectable ∈ outcomes) :
    loadFetchDone outcomes s =
      endRead 0x29 tag
        (.done
          (loadFetchData s first (outcomes.length - 1) (first + outcomes.length) (some (first + outcomes.length - 1))))
        (quarantineDirect (first + outcomes.length - 1)
          (movePointer (first + outcomes.length) (countCorrected (correctedIn outcomes) taken))) := by
  simp only [loadFetchDone, waits, if_pos ends, taking, List.contains_iff_mem, if_pos bad]
  rfl

end Fetch

/-- Settles O47: for each command its reads leave the queue, and the read ends with the answer of its outcomes. -/
theorem managementReadsComplete : Obligations.ManagementReadsComplete := by
  refine ⟨fun s body => ⟨fun n r who => sameAddress_card_iff, fun n e => sameAddress_journal_iff, lastWriteTo_eq_none,
    fun a x b => lastWriteTo_of_split⟩, ?_⟩
  intro s tag rd behind b fixed records read counted answered lost bound
  have ends (code : Nat) (result : MgmtResult) (t : State) : endRead code tag result t = answered code result (readEnded t) :=
    rfl
  have listed (card : Nat) (t : State) : quarantineDirect card t = lost card t := quarantineDirect_eq card t
  refine ⟨fun card outcome waits ⟨reads, free⟩ hfixed => ?_, fun sel outcomes waits whole => ?_,
    fun d p pointer first count outcomes waits window ⟨reads, free⟩ hfixed => ?_⟩
  · have run : exec (.cardReadDirectComplete outcome) s = .next (directDone outcome s) := rfl
    have taking := takeRead_of_front reads fun w hw => free w hw _ List.mem_cons_self
    refine ⟨fun good => ?_, fun bad => ?_⟩
    · rw [run, directDone_delivers waits taking bound good, ends, ← hfixed,
        directCardBytes_of_behind (writeBehind_of_front reads List.mem_cons_self)]
      rfl
    · subst bad hfixed
      have uncounted : readEnded (s.withReads b) = counted :=
        congrArg readEnded (countCorrected_zero (s := s.withReads b) bound).symm
      rw [run, directDone_lost waits taking, ends, readEnded_quarantineDirect, listed, ← uncounted]
      rfl
  · intro positions ⟨reads, free⟩ hfixed
    have run : exec (.journalReadComplete outcomes) s = .next (journalReadDone outcomes s) := rfl
    have taking := takeReads_of_front reads free
    have entries : positions.flatMap (ringBytes s) = positions.flatMap fun n => entryBytes s (behind (.journal n)) n :=
      List.flatMap_congr fun n hn => ringBytes_of_behind (writeBehind_of_front reads (List.mem_map_of_mem hn))
    have corrected : correctedIn outcomes = fixed := hfixed.symm
    refine ⟨fun good => ?_, fun bad => ?_⟩
    · rw [run, journalReadDone_delivers waits whole taking good, ends, corrected, entries]
      rfl
    · rw [run, journalReadDone_lost waits whole taking bad, ends, readEnded_raiseNotice, corrected]
      rfl
  · intro passed moved further
    have run : exec (.loadFetchComplete outcomes) s = .next (loadFetchDone outcomes s) := rfl
    have taking := takeReads_of_front reads free
    have corrected : correctedIn outcomes = fixed := hfixed.symm
    have closed :
        readEnded (movePointer (first + outcomes.length) (countCorrected fixed (s.withReads b))) = moved :=
      congrArg readEnded (movePointer_opened (s := countCorrected fixed (s.withReads b)) window _)
    have front (card : Nat) (hc : card ∈ countUp count first) : writeBehind (.window card) s = behind (.window card) :=
      writeBehind_of_front reads (List.mem_map_of_mem hc)
    refine ⟨fun good whole => ?_, fun good hgood data within => ?_⟩
    · rw [run, loadFetchDone_delivers waits (fetchOutcomesOk_whole good whole) taking good, ends, corrected, closed,
        loadFetchData_opened window (whole ▸ front), ← whole]
      rfl
    · have bad : .uncorrectable ∈ outcomes := by simp [hgood]
      have stops : fetchOutcomesOk count outcomes = true := hgood ▸ fetchOutcomesOk_upTo data (hgood ▸ within)
      have length : outcomes.length = good.length + 1 := by simp [hgood]
      have last : first + outcomes.length - 1 = first + good.length := by omega
      have before : outcomes.length - 1 = good.length := by omega
      have served (card : Nat) (hc : card ∈ countUp good.length first) := front card (mem_countUp_of_le (by omega) hc)
      rw [run, loadFetchDone_lost waits stops taking bad, ends, corrected, readEnded_quarantineDirect, closed, last, before,
        loadFetchData_opened window served, listed]
      rfl

end Sys2Proof.Machine

/-! # The gate of the management commands (R166, R168, R181) -/

namespace Sys2Proof.Machine

/-! ## The command at the head of the FIFO -/

theorem headCommand_of_cons {s : State} {c : MgmtCommand} {rest : List MgmtCommand} (fifo : s.central.fifo = c :: rest)
    (high : s.resetN = true) (settled : s.resetPending = false) (free : s.mgmt.reading = none) :
    headCommand s = some c := by
  simp [headCommand, working_iff.2 ⟨high, settled⟩, free, fifo]

theorem headCommand_eq_none {s : State}
    (h : s.central.fifo = [] ∨ s.resetN = false ∨ s.resetPending = true ∨ s.mgmt.reading ≠ none) :
    headCommand s = none := by
  obtain empty | low | pending | waits := h
  · simp [headCommand, empty]
  · simp [headCommand, State.working, low]
  · simp [headCommand, State.working, pending]
  · simp [headCommand, waits]

section Head
variable {s : State}

theorem takeCommand_of_noHead (h : headCommand s = none) (code : Nat) (rule : MgmtCommand → State → State) :
    takeCommand code rule s = s := by
  simp only [takeCommand, h]

theorem exec_unknownCommand_of_noHead (h : headCommand s = none) : exec .unknownCommand s = .next s := by
  simp only [exec, execUnknownCommand, h]

variable {c : MgmtCommand} (head : headCommand s = some c)
include head

theorem takeCommand_other {code : Nat} (other : c.code ≠ code) (rule : MgmtCommand → State → State) :
    takeCommand code rule s = s := by
  simp only [takeCommand, head, if_neg other]

theorem exec_unknownCommand_refused (unknown : levelOf c.code = none) :
    exec .unknownCommand s = .next (s.answering c (.refused .unknown)) := by
  simp only [exec, execUnknownCommand, head, unknown, Option.isNone_none, if_true]
  rfl

theorem exec_unknownCommand_known {level : Nat} (known : levelOf c.code = some level) :
    exec .unknownCommand s = .next s := by
  simp only [exec, execUnknownCommand, head, known, Option.isNone_some, Bool.false_eq_true, if_false]

end Head

/-! ## The command table (R167) -/

/-- Each command of the table is the taking of its code by its own rule (R166). -/
theorem exec_eq_takeCommand {i : Instr} {code : Nat} (h : (i, code) ∈ managementCommands) :
    ∃ rule, ∀ s, exec i s = .next (takeCommand code rule s) := by
  have table : ∀ e ∈ managementCommands, ∃ rule, ∀ s, exec e.1 s = .next (takeCommand e.2 rule s) := by
    simp only [managementCommands, List.forall_mem_cons, List.not_mem_nil, IsEmpty.forall_iff, implies_true, and_true]
    and_intros <;> exact ⟨_, fun _ => rfl⟩
  exact table _ h

/-- The level of a command is the upper digit of its code (12.3). -/
theorem levelOf_of_mem {i : Instr} {code : Nat} (h : (i, code) ∈ managementCommands) :
    levelOf code = some (code / 16) := by
  have table : ∀ e ∈ managementCommands, levelOf e.2 = some (e.2 / 16) := by decide
  exact table _ h

theorem levelOf_eq_none {code : Nat} (h : ∀ i, (i, code) ∉ managementCommands) : levelOf code = none := by
  have table : ∀ n < 0x2F, levelOf n = none ∨ n ∈ managementCommands.map Prod.snd := by decide
  by_cases inside : code < 0x2F
  · refine (table code inside).resolve_right fun listed => ?_
    obtain ⟨⟨i, _⟩, mem, rfl⟩ := List.mem_map.1 listed
    exact h i mem
  · rw [levelOf, if_neg (by omega), if_neg (by omega), if_neg (by omega)]

/-! ## Fields that end early (R181) -/

/-- Reading a field takes `n` bytes or more. -/
def TakesBytes {α : Type} (n : Nat) (f : List Byte → Option (α × List Byte)) : Prop :=
  ∀ bs v rest, f bs = some (v, rest) → n + rest.length ≤ bs.length

/-- A reader gives nothing for fewer than `k` bytes. -/
def NeedsBytes {α : Type} (k : Nat) (f : List Byte → Option α) : Prop := ∀ bs, bs.length < k → f bs = none

theorem takeNum_takes (max : Nat) : TakesBytes (byteWidth max) (takeNum max) := by
  intro bs v rest h
  obtain ⟨-, rfl⟩ := (takeNum_eq_some rfl).1 h
  simp

theorem takeNumber_takes (n : Nat) : TakesBytes n (takeNumber n) := by
  intro bs v rest h
  obtain ⟨-, rfl⟩ := takeNumber_eq_some.1 h
  simp

theorem takeBytes_takes (n : Nat) : TakesBytes n (takeBytes n) := by
  intro bs v rest h
  obtain ⟨length, rfl⟩ := takeBytes_eq_some.1 h
  simp [length]

/-- An optional field takes its presence byte at least. -/
theorem takeOptional_takes {α : Type} {n : Nat} {f : List Byte → Option (α × List Byte)} (h : TakesBytes n f) :
    TakesBytes 1 (takeOptional f) := by
  intro bs v rest taken
  unfold takeOptional at taken
  split at taken
  · cases taken
  · rw [List.length_cons]
    split at taken
    · cases taken
      omega
    · split at taken
      · obtain ⟨p, read, same⟩ := Option.map_eq_some_iff.1 taken
        cases same
        have := h _ p.1 p.2 read
        omega
      · cases taken

/-- A card's name takes 4 bytes by its index and 17 by its number (R170). -/
theorem four_le_nameBytes_length {name : CardName} (fits : nameFits name) : 4 ≤ (nameBytes name).length := by
  cases name with
  | number digits =>
    have length : digits.length = 16 := fits
    simp [nameBytes, length]
  | index n => simp [nameBytes]

theorem takeCardName_takes : TakesBytes 4 takeCardName := by
  intro bs name rest h
  obtain ⟨fits, rfl⟩ := takeCardName_eq_some.1 h
  rw [List.length_append]
  exact Nat.add_le_add_right (four_le_nameBytes_length fits) _

theorem takeTill_takes : TakesBytes 3 takeTill := by
  intro bs v rest h
  simp only [takeTill, Option.bind_eq_bind, Option.bind_eq_some_iff, Prod.exists] at h
  obtain ⟨store, left, readStore, lane, last, readLane, same⟩ := h
  cases same
  have first := takeNum_takes 65535 _ _ _ readStore
  have second := takeNum_takes 255 _ _ _ readLane
  have widths : byteWidth 65535 = 2 ∧ byteWidth 255 = 1 := by decide
  omega

section Needs
variable {α β : Type} {k : Nat}

theorem needsBytes_zero (f : List Byte → Option α) : NeedsBytes 0 f := fun _ h => absurd h (Nat.not_lt_zero _)

/-- A field of `n` bytes leaves `k - n` bytes for what is read after it. -/
theorem NeedsBytes.bind {n : Nat} {f : List Byte → Option (β × List Byte)} {g : β × List Byte → Option α}
    (hf : TakesBytes n f) (hg : ∀ v, NeedsBytes (k - n) fun rest => g (v, rest)) : NeedsBytes k fun bs => f bs >>= g := by
  intro bs short
  change (f bs).bind g = none
  cases read : f bs with
  | none => rfl
  | some p =>
    have taken := hf bs p.1 p.2 read
    exact hg p.1 p.2 (by omega)

/-- A check between two fields takes no bytes. -/
theorem NeedsBytes.check {o : Option β} {g : β → List Byte → Option α} (hg : ∀ v, NeedsBytes k (g v)) :
    NeedsBytes k fun bs => o >>= fun v => g v bs := by
  intro bs short
  cases o with
  | none => rfl
  | some v => exact hg v bs short

theorem NeedsBytes.map {f : List Byte → Option α} (hf : NeedsBytes k f) (g : α → β) :
    NeedsBytes k fun bs => (f bs).map g :=
  fun bs short => congrArg (Option.map g) (hf bs short)

theorem TakesBytes.needs {f : List Byte → Option (β × List Byte)} (hf : TakesBytes k f) : NeedsBytes k f := by
  intro bs short
  by_contra taken
  obtain ⟨⟨v, rest⟩, read⟩ := Option.ne_none_iff_exists'.1 taken
  have := hf bs v rest read
  omega

end Needs

theorem oneNumber_needs (max : Nat) : NeedsBytes (byteWidth max) (oneNumber max) := (takeNum_takes max).needs.map Prod.fst

theorem noticeSet_needs : NeedsBytes 1 noticeSet := (oneNumber_needs 255).map _

theorem cardFields_needs : NeedsBytes 4 cardFields := takeCardName_takes.needs.map Prod.fst

theorem cardRestoreFields_needs : NeedsBytes 27 cardRestoreFields :=
  .bind (takeNum_takes _) fun _ => .bind (takeBytes_takes 24) fun _ => needsBytes_zero _

theorem cardWriteFields_needs : NeedsBytes 15 cardWriteFields :=
  .bind takeCardName_takes fun _ => .bind (takeNum_takes _) fun _ => .check fun _ => .bind (takeNum_takes _) fun _ =>
    .bind (takeNum_takes _) fun _ => .bind (takeOptional_takes (takeNum_takes _)) fun _ =>
    .bind (takeOptional_takes (takeBytes_takes 3)) fun _ => .bind (takeNum_takes _) fun _ => needsBytes_zero _

theorem watchSetFields_needs : NeedsBytes 10 watchSetFields := by
  iterate 7 refine .bind (takeNum_takes _) fun _ => ?_
  exact needsBytes_zero _

theorem watchReleaseFields_needs : NeedsBytes 10 watchReleaseFields := by
  iterate 3 refine .bind (takeNum_takes _) fun _ => ?_
  exact .bind takeTill_takes fun _ => .bind (takeNum_takes _) fun _ => needsBytes_zero _

theorem programWriteFields_needs : NeedsBytes 35 programWriteFields := by
  iterate 15 refine .bind (takeNum_takes _) fun _ => ?_
  exact needsBytes_zero _

theorem programStateFields_needs : NeedsBytes 2 programStateFields := by
  iterate 2 refine .bind (takeNum_takes _) fun _ => ?_
  exact needsBytes_zero _

theorem promotionWriteFields_needs : NeedsBytes 19 promotionWriteFields := by
  refine .bind (takeNum_takes _) fun _ => .bind (takeNumber_takes 4) fun _ => ?_
  iterate 6 refine .bind (takeNum_takes _) fun _ => ?_
  exact needsBytes_zero _

theorem loadOpenFields_needs : NeedsBytes 6 loadOpenFields := by
  iterate 3 refine .bind (takeNum_takes _) fun _ => ?_
  exact needsBytes_zero _

theorem paceSetFields_needs : NeedsBytes 6 paceSetFields := by
  iterate 6 refine .bind (takeNum_takes _) fun _ => ?_
  exact needsBytes_zero _

/-! ## A command cut short is refused (R181) -/

/-- A command is refused RANGE, and nothing else changes, where its fields are fewer than `k` bytes. -/
def RefusesShort (i : Instr) (code k : Nat) : Prop :=
  ∀ s c, admits s code c = true → c.fields.length < k → exec i s = .next (s.answering c (.refused .range))

section Short
variable {i : Instr} {code k : Nat} {α : Type} {f : List Byte → Option α} (needs : NeedsBytes k f)
include needs

theorem refusesShort_of_rule {rule : MgmtCommand → State → State}
    (takes : ∀ s, exec i s = .next (takeCommand code rule s))
    (early : ∀ c s, f c.fields = none → rule c s = reply c.code c.tag (.refused .range) s) : RefusesShort i code k := by
  intro s c h short
  rw [takes, takeCommand_of_admits h, early c _ (needs _ short)]
  rfl

theorem refusesShort_of_atOnce {rule : List Byte → State → State × MgmtResult}
    (takes : ∀ s, exec i s = .next (takeCommand code (atOnce rule) s))
    (early : ∀ bs s, f bs = none → rule bs s = refuse .range s) : RefusesShort i code k :=
  refusesShort_of_rule needs takes fun c s none => by simp only [atOnce, early c.fields s none, refuse]

end Short

/-- Each command with required fields refuses what its reader of fields does not accept (R181). -/
theorem refusesShort_of_mem {i : Instr} {code n : Nat} (h : (i, code, n) ∈ requiredBytes) : RefusesShort i code n := by
  have table : ∀ e ∈ requiredBytes, RefusesShort e.1 e.2.1 e.2.2 := by
    simp only [requiredBytes, List.forall_mem_cons]
    exact
      ⟨refusesShort_of_rule cardFields_needs (fun _ => rfl) fun _ _ h => by simp only [cardRead, h, Option.bind_none],
        refusesShort_of_atOnce (oneNumber_needs 16383) (fun _ => rfl) fun _ _ h => by simp only [holdRead, h],
        refusesShort_of_atOnce (oneNumber_needs 31) (fun _ => rfl) fun _ _ h => by simp only [programRead, h],
        refusesShort_of_atOnce (oneNumber_needs 63) (fun _ => rfl) fun _ _ h => by simp only [promotionRead, h],
        refusesShort_of_atOnce (oneNumber_needs 16777215) (fun _ => rfl) fun _ _ h => by simp only [cacheProbe, h],
        refusesShort_of_atOnce (oneNumber_needs 64) (fun _ => rfl) fun _ _ h => by simp only [returnSizeSet, h],
        refusesShort_of_atOnce (oneNumber_needs 2) (fun _ => rfl) fun _ _ h => by simp only [accessSet, h],
        refusesShort_of_atOnce (oneNumber_needs 65535) (fun _ => rfl) fun _ _ h => by simp only [dayAdvance, h],
        refusesShort_of_atOnce (oneNumber_needs counterMax) (fun _ => rfl) fun _ _ h => by simp only [journalRelease, h],
        refusesShort_of_rule cardFields_needs (fun _ => rfl) fun _ _ h => by
          simp only [cardFreeze, cardCorrection, h, Option.bind_none],
        refusesShort_of_rule cardFields_needs (fun _ => rfl) fun _ _ h => by
          simp only [cardThaw, cardCorrection, h, Option.bind_none],
        refusesShort_of_atOnce watchSetFields_needs (fun _ => rfl) fun _ _ h => by simp only [watchSet, h],
        refusesShort_of_atOnce (oneNumber_needs 3) (fun _ => rfl) fun _ _ h => by simp only [watchClear, h],
        refusesShort_of_rule watchReleaseFields_needs (fun _ => rfl) fun _ _ h => by simp only [watchRelease, h],
        refusesShort_of_rule noticeSet_needs (fun _ => rfl) fun _ _ h => by simp only [noticeEnable, h],
        refusesShort_of_atOnce noticeSet_needs (fun _ => rfl) fun _ _ h => by simp only [noticeClear, h],
        refusesShort_of_rule (oneNumber_needs 4194303) (fun _ => rfl) fun _ _ h => by simp only [holdDrop, h],
        refusesShort_of_atOnce programWriteFields_needs (fun _ => rfl) fun _ _ h => by simp only [programWrite, h],
        refusesShort_of_atOnce programStateFields_needs (fun _ => rfl) fun _ _ h => by simp only [programState, h],
        refusesShort_of_atOnce promotionWriteFields_needs (fun _ => rfl) fun _ _ h => by simp only [promotionWrite, h],
        refusesShort_of_atOnce (oneNumber_needs 63) (fun _ => rfl) fun _ _ h => by simp only [promotionEnable, h],
        refusesShort_of_atOnce (oneNumber_needs 63) (fun _ => rfl) fun _ _ h => by simp only [promotionDisable, h],
        refusesShort_of_rule cardWriteFields_needs (fun _ => rfl) fun _ _ h => by simp only [cardWrite, h],
        refusesShort_of_rule cardRestoreFields_needs (fun _ => rfl) fun _ _ h => by simp only [cardRestore, h],
        refusesShort_of_atOnce loadOpenFields_needs (fun _ => rfl) fun _ _ h => by simp only [loadOpen, h],
        refusesShort_of_rule (oneNumber_needs 31) (fun _ => rfl) fun _ _ h => by simp only [loadClear, h],
        refusesShort_of_atOnce paceSetFields_needs (fun _ => rfl) fun _ _ h => by simp only [paceSet, h],
        nofun⟩
  exact table _ h

/-- Settles O48: the head of the FIFO, the level of its code and the bytes its fields take decide. -/
theorem commandsAreGated : Obligations.CommandsAreGated := by
  intro s i code listed
  obtain ⟨rule, takes⟩ := exec_eq_takeCommand listed
  have level : levelOf code = some (code / 16) := levelOf_of_mem listed
  refine ⟨fun c rest fifo high settled free => ?_, fun closed => ?_, fun c n admitted required short => ?_⟩
  · have head : headCommand s = some c := headCommand_of_cons fifo high settled free
    refine ⟨fun own above => ?_, fun other => ?_, fun unknown => ?_, fun own => ?_⟩
    · have above : s.mgmt.level < (levelOf code).getD 0 := by rwa [level]
      exact (takes s).trans (congrArg _ (takeCommand_level head own above rule))
    · exact (takes s).trans (congrArg _ (takeCommand_other head other rule))
    · exact exec_unknownCommand_refused head (levelOf_eq_none unknown)
    · exact exec_unknownCommand_known head (own ▸ level)
  · have noHead : headCommand s = none := headCommand_eq_none closed
    exact ⟨(takes s).trans (congrArg _ (takeCommand_of_noHead noHead code rule)), exec_unknownCommand_of_noHead noHead⟩
  · exact refusesShort_of_mem required s c admitted short

end Sys2Proof.Machine

/-! # The journal: the append of an entry, JOURNAL READ and JOURNAL RELEASE (R142, R143, R146 to R149) -/

namespace Sys2Proof.Machine

/-! ## The append (R142, R143) -/

/-- The ring position after a position of the ring, 0 after the last (R143). -/
theorem nextPosition_eq {p : Nat} (h : p < 1048576) :
    (p + 1) % ringSize = if p + 1 = 1048576 then 0 else p + 1 := by
  split
  · rw [‹p + 1 = 1048576›]; rfl
  · exact Nat.mod_eq_of_lt (by rw [ringSize]; omega)

/-- Settles O42. -/
theorem appendTakesTheNextSequence : Obligations.AppendTakesTheNextSequence := by
  intro x s j t inRing
  have wraps := nextPosition_eq (p := s.journal.position) inRing
  simp only [appendJournal, journalHighMark, journalFullMark, wraps]
  rfl

/-! ## JOURNAL READ (R147, R148) -/

theorem journalReadRoom_eq : journalReadRoom = 15 := by decide

theorem journalReadFields_optional {start : Option Nat} (fits : ∀ n, start = some n → n < 4294967296)
    (extra : List Byte) : journalReadFields (optional (leBytes 4) start ++ extra) = some start := by
  rw [journalReadFields, takeOptional_optional start extra fun n hn => takeNum_leBytes (n := 4) extra rfl (fits n hn)]
  rfl

section Read
variable {s : State} {start : Option Nat}

theorem selectionStart_oldest
    (h : start = none ∨ ∃ n, start = some n ∧ 2147483648 ≤ stepsFrom s.journal.oldest n) :
    selectionStart s start = (s.journal.oldest, readableCount s) := by
  obtain rfl | ⟨n, rfl, before⟩ := h
  · rfl
  · simp [selectionStart, atOrAfterOldest, before]

theorem selectionStart_after {n : Nat} (h : stepsFrom s.journal.oldest n < 2147483648) :
    selectionStart s (some n) = (n, readableCount s - stepsFrom s.journal.oldest n) := by
  simp [selectionStart, atOrAfterOldest, h]

theorem selectEntries_eq {first readable : Nat} (h : selectionStart s start = (first, readable)) :
    selectEntries s start =
      { first := first, count := min (min s.mgmt.returnSize 15) readable
        more := decide (min (min s.mgmt.returnSize 15) readable < readable)
        continuation := (first - 1 + min (min s.mgmt.returnSize 15) readable) % 4294967295 + 1
        oldest := s.journal.oldest, written := s.journal.written, free := 1048576 - s.journal.occupancy } := by
  rw [selectEntries, h, journalReadRoom_eq]
  rfl

theorem selectionPositions_eq (j : Journal) (sel : JournalSelection) :
    selectionPositions j sel = (List.range sel.count).map fun k => (positionOf j sel.first + k) % 1048576 := by
  rw [selectionPositions, countUp_eq_range', List.range_eq_range']
  rfl

variable {c : MgmtCommand} (hf : journalReadFields c.fields = some start)
include hf

theorem journalRead_zero (zero : start = some 0) : journalRead c s = reply c.code c.tag (.refused .range) s := by
  simp only [journalRead, hf, if_pos zero]

section Selects
variable (nonzero : start ≠ some 0) {sel : JournalSelection} (selected : selectEntries s start = sel)
include nonzero selected

theorem journalRead_none (none : sel.count = 0) :
    journalRead c s = reply c.code c.tag (.done (journalAnswer sel [])) s := by
  simp only [journalRead, hf, if_neg nonzero, selected, if_pos none, journalData_eq]

theorem journalRead_queues (some : sel.count ≠ 0) :
    journalRead c s =
      { s with
        mgmt := { s.mgmt with reading := .some (.journal c.tag sel) }
        tmc :=
          { s.tmc with
            reads := s.tmc.reads ++
              (List.range sel.count).map fun k =>
                queuedRead s (.journal ((positionOf s.journal sel.first + k) % 1048576)) } } := by
  simp only [journalRead, hf, if_neg nonzero, selected, if_neg some, foldl_queueRead, selectionPositions_eq, List.map_map]
  rfl

end Selects
end Read

/-! ## JOURNAL RELEASE (R149) -/

section Release
variable {s : State} {fields : List Byte} {n : Nat} (hf : oneNumber counterMax fields = some n)
include hf

theorem journalRelease_zero (zero : n = 0) : journalRelease fields s = refuse .range s := by
  simp only [journalRelease, hf, if_pos zero]

variable (nonzero : n ≠ 0)
include nonzero

theorem journalRelease_before (before : 2147483648 ≤ stepsFrom s.journal.oldest n) :
    journalRelease fields s = (s, .done (releaseData s)) := by
  simp [journalRelease, hf, nonzero, atOrAfterOldest, before]

variable (after : stepsFrom s.journal.oldest n < 2147483648)
include after

theorem journalRelease_beyond (beyond : readableCount s ≤ stepsFrom s.journal.oldest n) :
    journalRelease fields s = refuse .range s := by
  simp [journalRelease, hf, nonzero, atOrAfterOldest, after, beyond]

theorem journalRelease_releases (readable : stepsFrom s.journal.oldest n < readableCount s) :
    journalRelease fields s = (releaseThrough n s, .done (releaseData (releaseThrough n s))) := by
  simp [journalRelease, hf, nonzero, atOrAfterOldest, after, readable]

end Release

/-- Settles O50: what is selected decides whether a read is answered at once, and where its sequence stands what a release
removes. -/
theorem journalIsReadAndReleased : Obligations.JournalIsReadAndReleased := by
  intro s c extra
  refine ⟨fun start h fits sent => ?_, fun n h sent hn => ?_⟩
  · have fields : c.fields = optional (leBytes 4) start ++ extra := sent.trans (by cases start <;> rfl)
    have read : journalReadFields c.fields = some start :=
      (congrArg journalReadFields fields).trans (journalReadFields_optional fits extra)
    have run : exec .journalRead s = .next (journalRead c s.unqueued) := congrArg _ (takeCommand_of_admits h journalRead)
    refine ⟨fun zero => ?_, fun nonzero first readable begins => ?_⟩
    · rw [run, journalRead_zero read zero]
      rfl
    · intro count sel
      have starts : selectionStart s.unqueued start = (first, readable) := by
        obtain ⟨oldest, rfl, rfl⟩ | ⟨rfl, after, rfl⟩ := begins
        · exact selectionStart_oldest oldest
        · exact selectionStart_after after
      have selected : selectEntries s.unqueued start = sel := selectEntries_eq starts
      refine ⟨fun none => ?_, fun some => ?_⟩
      · rw [run, journalRead_none read nonzero selected none]
        rfl
      · rw [run, journalRead_queues read nonzero selected (Nat.ne_of_gt some)]
        rfl
  · intro marks steps
    have number : oneNumber counterMax c.fields = some n := (congrArg _ sent).trans (oneNumber_leBytes extra rfl hn)
    refine ⟨fun zero => ?_, fun nonzero before => ?_, fun nonzero after beyond => ?_, fun nonzero after readable => ?_⟩
    · exact congrArg _ (takeAtOnce_refused h (journalRelease_zero number zero))
    · exact congrArg _ (takeAtOnce_answers h (journalRelease_before (s := s.unqueued) number nonzero before))
    · exact congrArg _ (takeAtOnce_refused h (journalRelease_beyond (s := s.unqueued) number nonzero after beyond))
    · exact congrArg _ (takeAtOnce_of_admits h (journalRelease_releases (s := s.unqueued) number nonzero after readable))

end Sys2Proof.Machine

/-! # The header check (R156, R157) -/

namespace Sys2Proof.Machine

/-! ## The ones of a number's low bits -/

theorem onesIn_eq_countP (n v : Nat) : onesIn n v = (List.range n).countP fun i => v.testBit i := by
  induction n generalizing v with
  | zero => rfl
  | succ n ih =>
    have low : v % 2 = if v.testBit 0 = true then 1 else 0 := by
      have := Nat.mod_two_eq_zero_or_one v
      simp only [Nat.testBit_zero, decide_eq_true_eq]
      split <;> omega
    rw [onesIn, ih, List.range_succ_eq_map, List.countP_cons, List.countP_map, low, Nat.add_comm]
    simp only [Function.comp_def, Nat.testBit_succ]

theorem onesIn_add (m n v : Nat) : onesIn (m + n) v = onesIn m v + onesIn n (v / 2 ^ m) := by
  induction m generalizing v with
  | zero => simp [onesIn]
  | succ m ih => rw [Nat.succ_add, onesIn, ih, onesIn, Nat.div_div_eq_div_mul, Nat.pow_succ', Nat.add_assoc]

theorem onesIn_mod (n v : Nat) : onesIn n (v % 2 ^ n) = onesIn n v := by
  induction n generalizing v with
  | zero => rfl
  | succ n ih =>
    rw [onesIn, Nat.pow_succ', Nat.mod_mul_right_mod, Nat.mod_mul_right_div_self, ih, onesIn]

theorem onesIn_xor (n v w : Nat) : onesIn n (v ^^^ w) % 2 = (onesIn n v + onesIn n w) % 2 := by
  induction n generalizing v w with
  | zero => rfl
  | succ n ih =>
    have low : (v ^^^ w) % 2 = (v + w) % 2 := Nat.xor_mod_two_eq
    have high := ih (v / 2) (w / 2)
    rw [onesIn, Nat.xor_div_two, onesIn, onesIn]
    omega

theorem onesIn_two_pow {n i : Nat} (h : i < n) : onesIn n (2 ^ i) = 1 := by
  have one : (fun j => (2 ^ i).testBit j) = fun j => j == i := by
    funext j
    rw [Nat.testBit_two_pow, Bool.eq_iff_iff, decide_eq_true_eq, beq_iff_eq, eq_comm]
  rw [onesIn_eq_countP, one]
  exact List.count_eq_one_of_mem List.nodup_range (List.mem_range.2 h)

/-! ## The codes of a number's bits -/

theorem xorOfCodes_zero (cs : List Nat) : xorOfCodes 0 cs = 0 := by
  induction cs with
  | nil => rfl
  | cons c cs ih => simp [xorOfCodes, ih]

/-- The XOR of the codes is linear in the number. -/
theorem xorOfCodes_xor (v w : Nat) (cs : List Nat) :
    xorOfCodes (v ^^^ w) cs = xorOfCodes v cs ^^^ xorOfCodes w cs := by
  induction cs generalizing v w with
  | nil => exact (Nat.xor_self 0).symm
  | cons c cs ih =>
    have low : (if (v ^^^ w) % 2 = 1 then c else 0) = (if v % 2 = 1 then c else 0) ^^^ (if w % 2 = 1 then c else 0) := by
      rw [Nat.xor_mod_two_eq]
      rcases Nat.mod_two_eq_zero_or_one v with hv | hv <;> rcases Nat.mod_two_eq_zero_or_one w with hw | hw <;>
        simp [Nat.add_mod, hv, hw]
    rw [xorOfCodes, xorOfCodes, xorOfCodes, Nat.xor_div_two, ih, low]
    ac_rfl

theorem xorOfCodes_two_pow (i : Nat) (cs : List Nat) : xorOfCodes (2 ^ i) cs = cs.getD i 0 := by
  induction cs generalizing i with
  | nil => rfl
  | cons c cs ih =>
    cases i with
    | zero => simp [xorOfCodes, xorOfCodes_zero]
    | succ i => simp [xorOfCodes, Nat.pow_succ, ih]

theorem xorOfCodes_append (v : Nat) (cs ds : List Nat) :
    xorOfCodes v (cs ++ ds) = xorOfCodes v cs ^^^ xorOfCodes (v / 2 ^ cs.length) ds := by
  induction cs generalizing v with
  | nil => simp [xorOfCodes]
  | cons c cs ih =>
    rw [List.cons_append, xorOfCodes, xorOfCodes, ih, List.length_cons, Nat.pow_succ', Nat.div_div_eq_div_mul,
      Nat.xor_assoc]

theorem xorOfCodes_mod (v : Nat) (cs : List Nat) : xorOfCodes (v % 2 ^ cs.length) cs = xorOfCodes v cs := by
  induction cs generalizing v with
  | nil => rfl
  | cons c cs ih =>
    rw [xorOfCodes, List.length_cons, Nat.pow_succ', Nat.mod_mul_right_mod, Nat.mod_mul_right_div_self, ih, xorOfCodes]

theorem xorOfCodes_lt {n : Nat} (v : Nat) {cs : List Nat} (h : ∀ c ∈ cs, c < 2 ^ n) : xorOfCodes v cs < 2 ^ n := by
  induction cs generalizing v with
  | nil => exact Nat.two_pow_pos n
  | cons c cs ih =>
    obtain ⟨first, rest⟩ := List.forall_mem_cons.1 h
    refine Nat.xor_lt_two_pow ?_ (ih (v / 2) rest)
    split
    · exact first
    · exact Nat.two_pow_pos n

/-- A check bit is the XOR of the bits whose code has it (R156). -/
theorem testBit_xorOfCodes (k v : Nat) (cs : List Nat) :
    (xorOfCodes v cs).testBit k = true ↔
      ((List.range cs.length).countP fun i => v.testBit i && (cs.getD i 0).testBit k) % 2 = 1 := by
  induction cs generalizing v with
  | nil => simp [xorOfCodes]
  | cons c cs ih =>
    have low : (if v % 2 = 1 then c else 0).testBit k = (v.testBit 0 && c.testBit k) := by
      rw [Nat.testBit_zero]
      split <;> simp [*]
    rw [xorOfCodes, Nat.testBit_xor, low, List.length_cons, List.range_succ_eq_map, List.countP_cons, List.countP_map]
    simp only [Function.comp_def, List.getD_cons_succ, List.getD_cons_zero, Nat.testBit_succ]
    cases v.testBit 0 && c.testBit k with
    | false => simpa only [Bool.false_xor, Bool.false_eq_true, if_false, Nat.add_zero] using ih (v / 2)
    | true =>
      rw [Bool.true_xor, Bool.not_eq_true', ← Bool.not_eq_true, ih (v / 2), if_pos rfl]
      omega

/-! ## The byte of the header check (R156) -/

theorem checkBits_lt (h : Nat) : checkBits h < 32 := xorOfCodes_lt (n := 5) h (by decide)

theorem headerCheckByte_lt (h : Nat) : headerCheckByte h < 64 := by
  have check := checkBits_lt h
  have parity : parityBit h (checkBits h) < 2 := Nat.mod_lt _ Nat.two_pos
  unfold headerCheckByte
  omega

theorem headerCheckByte_mod (h : Nat) : headerCheckByte h % 32 = checkBits h := by
  have check := checkBits_lt h
  unfold headerCheckByte
  omega

theorem headerCheckByte_div (h : Nat) : headerCheckByte h / 32 = parityBit h (checkBits h) := by
  have check := checkBits_lt h
  unfold headerCheckByte
  omega

theorem testBit_headerCheckByte (h : Nat) {k : Nat} (hk : k < 5) : (headerCheckByte h).testBit k = (checkBits h).testBit k := by
  have low := Nat.testBit_mod_two_pow (headerCheckByte h) 5 k
  rw [show (2 : Nat) ^ 5 = 32 from rfl, headerCheckByte_mod] at low
  simpa [hk] using low.symm

theorem headerWord_mod {h : Nat} (hh : h < 2 ^ 24) : headerWord h % 2 ^ 24 = h := by
  rw [headerWord, Nat.add_mul_mod_self_left, Nat.mod_eq_of_lt hh]

theorem headerWord_div {h : Nat} (hh : h < 2 ^ 24) : headerWord h / 2 ^ 24 = headerCheckByte h := by
  rw [headerWord, Nat.add_mul_div_left _ _ (Nat.two_pow_pos 24), Nat.div_eq_of_lt hh, Nat.zero_add]

/-! ## The header check as a syndrome of the 30 bits covered (R157) -/

/-- The codes of the 30 bits covered: those of the header bits, of the check bits and of the parity bit. -/
def wordCodes : List Nat := headerCodes ++ [1, 2, 4, 8, 16, 0]

/-- The check bits of a header word as received, against those of its header bits. -/
def syndromeOf (w : Nat) : Nat := xorOfCodes w wordCodes

/-- The XOR of the 30 bits covered. -/
def overallOf (w : Nat) : Nat := onesIn 30 w % 2

theorem xorOfCodes_checkByte (b : Nat) : xorOfCodes b [1, 2, 4, 8, 16, 0] = b % 32 := by
  have small : ∀ b < 64, xorOfCodes b [1, 2, 4, 8, 16, 0] = b % 32 := by decide
  have low : xorOfCodes (b % 64) [1, 2, 4, 8, 16, 0] = xorOfCodes b [1, 2, 4, 8, 16, 0] :=
    xorOfCodes_mod b [1, 2, 4, 8, 16, 0]
  rw [← low, small _ (Nat.mod_lt _ (by decide)), Nat.mod_mod_of_dvd _ (by decide)]

theorem syndromeOf_eq (w : Nat) : syndromeOf w = checkBits (w % 2 ^ 24) ^^^ (w / 2 ^ 24) % 32 := by
  rw [syndromeOf, wordCodes, xorOfCodes_append, xorOfCodes_checkByte, checkBits]
  exact congrArg (· ^^^ _) (xorOfCodes_mod w headerCodes).symm

theorem overallOf_eq (w : Nat) :
    overallOf w = (onesIn 24 (w % 2 ^ 24) + onesIn 5 (w / 2 ^ 24 % 32) + w / 2 ^ 24 / 32 % 2) % 2 := by
  have check : onesIn 5 (w / 2 ^ 24 % 32) = onesIn 5 (w / 2 ^ 24) := onesIn_mod 5 _
  rw [overallOf, show 30 = 24 + (5 + 1) from rfl, onesIn_add, onesIn_add, onesIn_mod, check, Nat.add_assoc]
  rfl

theorem checkHeaderWord_even {w : Nat} (even : overallOf w = 0) :
    checkHeaderWord w = if syndromeOf w = 0 then .clean (w % 2 ^ 24) else .uncorrectable := by
  rw [overallOf_eq] at even
  rw [syndromeOf_eq, checkHeaderWord, checkHeader, if_pos even]

section Odd
variable {w : Nat} (odd : overallOf w = 1)
include odd

theorem checkHeaderWord_odd_check (check : syndromeOf w ∈ [0, 1, 2, 4, 8, 16]) :
    checkHeaderWord w = .corrected (w % 2 ^ 24) := by
  rw [overallOf_eq] at odd
  simp only [syndromeOf_eq, List.mem_cons, List.not_mem_nil, or_false] at check
  rw [checkHeaderWord, checkHeader, if_neg (by rw [odd]; decide), if_pos check]

theorem checkHeaderWord_odd_header {i : Nat} (header : syndromeOf w ∉ [0, 1, 2, 4, 8, 16])
    (found : headerBitOf (syndromeOf w) 0 headerCodes = some i) :
    checkHeaderWord w = .corrected (w % 2 ^ 24 ^^^ 2 ^ i) := by
  rw [overallOf_eq] at odd
  simp only [syndromeOf_eq, List.mem_cons, List.not_mem_nil, or_false] at header
  rw [syndromeOf_eq] at found
  rw [checkHeaderWord, checkHeader, if_neg (by rw [odd]; decide), if_neg header, found]

end Odd

/-- A flipped bit changes the syndrome by its code. -/
theorem syndromeOf_flip (w i : Nat) : syndromeOf (w ^^^ 2 ^ i) = syndromeOf w ^^^ wordCodes.getD i 0 := by
  rw [syndromeOf, xorOfCodes_xor, xorOfCodes_two_pow, syndromeOf]

theorem overallOf_flip (w : Nat) {i : Nat} (hi : i < 30) : overallOf (w ^^^ 2 ^ i) = (overallOf w + 1) % 2 := by
  rw [overallOf, onesIn_xor, onesIn_two_pow hi, overallOf, Nat.mod_add_mod]

/-- The 30 codes are pairwise distinct, so two flipped bits leave a syndrome. -/
theorem wordCodes_injective {i j : Nat} (hi : i < 30) (hj : j < 30) (h : wordCodes.getD i 0 = wordCodes.getD j 0) : i = j := by
  have nodup : wordCodes.Nodup := by decide
  have li : i < wordCodes.length := hi
  have lj : j < wordCodes.length := hj
  rw [List.getD_eq_getElem _ _ li, List.getD_eq_getElem _ _ lj] at h
  exact nodup.getElem_inj_iff.1 h

theorem headerBitOf_code : ∀ i < 24,
    wordCodes.getD i 0 ∉ [0, 1, 2, 4, 8, 16] ∧ headerBitOf (wordCodes.getD i 0) 0 headerCodes = some i := by decide

theorem checkCode_mem : ∀ i < 30, 24 ≤ i → wordCodes.getD i 0 ∈ [0, 1, 2, 4, 8, 16] := by decide

/-! ## A header word as sent -/

theorem syndromeOf_headerWord {h : Nat} (hh : h < 2 ^ 24) : syndromeOf (headerWord h) = 0 := by
  rw [syndromeOf_eq, headerWord_mod hh, headerWord_div hh, headerCheckByte_mod, Nat.xor_self]

theorem overallOf_headerWord {h : Nat} (hh : h < 2 ^ 24) : overallOf (headerWord h) = 0 := by
  rw [overallOf_eq, headerWord_mod hh, headerWord_div hh, headerCheckByte_mod, headerCheckByte_div, parityBit]
  omega

theorem checkHeaderWord_headerWord {h : Nat} (hh : h < 2 ^ 24) : checkHeaderWord (headerWord h) = .clean h := by
  rw [checkHeaderWord_even (overallOf_headerWord hh), if_pos (syndromeOf_headerWord hh), headerWord_mod hh]

theorem checkHeaderWord_flip {h i : Nat} (hh : h < 2 ^ 24) (hi : i < 30) :
    checkHeaderWord (headerWord h ^^^ 2 ^ i) = .corrected h := by
  have odd : overallOf (headerWord h ^^^ 2 ^ i) = 1 := by rw [overallOf_flip _ hi, overallOf_headerWord hh]
  have syndrome : syndromeOf (headerWord h ^^^ 2 ^ i) = wordCodes.getD i 0 := by
    rw [syndromeOf_flip, syndromeOf_headerWord hh, Nat.zero_xor]
  have received : (headerWord h ^^^ 2 ^ i) % 2 ^ 24 = h ^^^ 2 ^ i % 2 ^ 24 := by rw [Nat.xor_mod_two_pow, headerWord_mod hh]
  rcases Nat.lt_or_ge i 24 with header | check
  · obtain ⟨outside, found⟩ := headerBitOf_code i header
    rw [← syndrome] at outside found
    rw [checkHeaderWord_odd_header odd outside found, received, Nat.mod_eq_of_lt (Nat.pow_lt_pow_right (by decide) header),
      Nat.xor_xor_cancel_right]
  · have inside := checkCode_mem i hi check
    rw [← syndrome] at inside
    rw [checkHeaderWord_odd_check odd inside, received, Nat.mod_eq_zero_of_dvd (Nat.pow_dvd_pow 2 check), Nat.xor_zero]

theorem checkHeaderWord_flip_two {h i j : Nat} (hh : h < 2 ^ 24) (hi : i < 30) (hj : j < 30) (hij : i ≠ j) :
    checkHeaderWord (headerWord h ^^^ 2 ^ i ^^^ 2 ^ j) = .uncorrectable := by
  have even : overallOf (headerWord h ^^^ 2 ^ i ^^^ 2 ^ j) = 0 := by
    rw [overallOf_flip _ hj, overallOf_flip _ hi, overallOf_headerWord hh]
  rw [checkHeaderWord_even even, syndromeOf_flip, syndromeOf_flip, syndromeOf_headerWord hh, Nat.zero_xor, if_neg]
  exact fun same => hij (wordCodes_injective hi hj (Nat.xor_eq_zero_iff.1 same))

/-- Bits 6 and 7 of byte 3 lie above the 30 bits covered. -/
theorem checkHeaderWord_above (w k : Nat) : checkHeaderWord (w + 2 ^ 30 * k) = checkHeaderWord w := by
  have header : (w + 2 ^ 30 * k) % 2 ^ 24 = w % 2 ^ 24 := by omega
  have check : (w + 2 ^ 30 * k) / 2 ^ 24 % 32 = w / 2 ^ 24 % 32 := by omega
  have parity : (w + 2 ^ 30 * k) / 2 ^ 24 / 32 % 2 = w / 2 ^ 24 / 32 % 2 := by omega
  simp only [checkHeaderWord, checkHeader, header, check, parity]

/-- Settles O6: a check bit is a bit of the XOR of codes, and the parity bit makes the ones of the word even. -/
theorem headerCheckByteFollowsCodes : Obligations.HeaderCheckByteFollowsCodes := by
  refine ⟨by decide, fun h hh => ⟨headerCheckByte_lt h, fun k hk => ?_, ?_⟩⟩
  · rw [testBit_headerCheckByte h hk]
    exact testBit_xorOfCodes k h headerCodes
  · rw [← onesIn_eq_countP]
    exact overallOf_headerWord hh

/-- Settles O7: a single flip leaves an odd word whose syndrome is the code of its bit, and two leave an even word with a
syndrome. -/
theorem headerCorrectsOneDetectsTwo : Obligations.HeaderCorrectsOneDetectsTwo := fun _ hh =>
  ⟨checkHeaderWord_headerWord hh, fun _ hi => checkHeaderWord_flip hh hi,
    fun _ _ hi hj hij => checkHeaderWord_flip_two hh hi hj hij, fun w k _ _ => checkHeaderWord_above w k⟩

end Sys2Proof.Machine

/-! # Parcels as sent (R155 to R159) -/

namespace Sys2Proof.Machine

/-! ## The fields of a header (12.1) -/

section Fields
variable {kind ret length : Nat} (hk : kind < 64)
include hk

theorem headerKind_headerOf : headerKind (headerOf kind ret length) = kind := by
  unfold headerKind headerOf
  omega

variable (hr : ret < 4)
include hr

theorem headerReturn_headerOf : headerReturn (headerOf kind ret length) = ret := by
  unfold headerReturn headerOf
  omega

theorem headerLength_headerOf : headerLength (headerOf kind ret length) = length := by
  unfold headerLength headerOf
  omega

theorem headerOf_lt (hl : length ≤ 1024) : headerOf kind ret length < 2 ^ 24 := by
  unfold headerOf
  omega

end Fields

/-! ## The bytes of a parcel -/

/-- The four bytes of a header as sent: the header bits and their check byte (R156). -/
def sentHeader (h : Nat) : List Byte := leBytes 3 h ++ [BitVec.ofNat 8 (headerCheckByte h)]

/-- The payload check as sent, behind a payload that is not empty (R155, R158). -/
def sentCheck (payload : List Byte) : List Byte :=
  if payload.isEmpty then [] else leBytes 2 (payloadCheck payload).toNat

theorem encodeParcel_eq (kind ret : Nat) (payload : List Byte) :
    encodeParcel kind ret payload = sentHeader (headerOf kind ret payload.length) ++ (payload ++ sentCheck payload) :=
  List.append_assoc ..

theorem length_encodeParcel (kind ret : Nat) (payload : List Byte) :
    (encodeParcel kind ret payload).length = if payload = [] then 4 else payload.length + 6 := by
  rw [encodeParcel_eq, List.length_append, List.length_append]
  cases payload with
  | nil => rfl
  | cons b bs => simp [sentHeader, sentCheck]; omega

theorem leNat_take_sentHeader {h : Nat} (hh : h < 2 ^ 24) (rest : List Byte) : leNat ((sentHeader h ++ rest).take 3) = h :=
  leNat_leBytes_of_lt (n := 3) hh

theorem byteAt_sentHeader (h : Nat) (rest : List Byte) : byteAt (sentHeader h ++ rest) 3 = headerCheckByte h := by
  have small := headerCheckByte_lt h
  have third : byteAt (sentHeader h ++ rest) 3 = (BitVec.ofNat 8 (headerCheckByte h)).toNat := rfl
  rw [third, BitVec.toNat_ofNat]
  omega

/-- A header as sent passes the header check (R157). -/
theorem checkHeader_headerCheckByte {h : Nat} (hh : h < 2 ^ 24) : checkHeader h (headerCheckByte h) = .clean h := by
  have word := checkHeaderWord_headerWord hh
  rwa [checkHeaderWord, headerWord_mod hh, headerWord_div hh] at word

theorem frame_of_clean {bytes : List Byte} {h : Nat} (whole : 4 ≤ bytes.length)
    (clean : checkHeader (leNat (bytes.take 3)) (byteAt bytes 3) = .clean h) (small : headerLength h ≤ 1024)
    (size : bytes.length = if headerLength h = 0 then 4 else headerLength h + 6) : frame bytes = .framed false h := by
  rw [frame, if_neg (Nat.not_lt.2 whole), clean]
  exact if_pos (Bool.and_eq_true_iff.2 ⟨decide_eq_true small, decide_eq_true size⟩)

section Sent
variable {kind ret : Nat} {payload : List Byte} (hk : kind < 64) (hr : ret < 4)
include hk hr

/-- The receive checks read a parcel's header as sent (R157, R159). -/
theorem frame_encodeParcel (hl : payload.length ≤ 1024) :
    frame (encodeParcel kind ret payload) = .framed false (headerOf kind ret payload.length) := by
  have hh := headerOf_lt hk hr hl
  have length := length_encodeParcel kind ret payload
  refine frame_of_clean ?_ ?_ ?_ ?_
  · rw [length]
    split <;> omega
  · rw [encodeParcel_eq, leNat_take_sentHeader hh, byteAt_sentHeader, checkHeader_headerCheckByte hh]
  · rwa [headerLength_headerOf hk hr]
  · simpa only [headerLength_headerOf hk hr, List.length_eq_zero_iff] using length

theorem payloadOf_encodeParcel :
    payloadOf (headerOf kind ret payload.length) (encodeParcel kind ret payload) = payload := by
  rw [payloadOf, headerLength_headerOf hk hr, encodeParcel_eq]
  exact List.take_left' rfl

/-- A parcel as sent passes the payload check (R158, R159). -/
theorem payloadOk_encodeParcel :
    payloadOk (headerOf kind ret payload.length) (encodeParcel kind ret payload) = true := by
  rw [payloadOk, payloadOf_encodeParcel hk hr, headerLength_headerOf hk hr]
  cases payload with
  | nil => rfl
  | cons b bs =>
    have behind : slice (encodeParcel kind ret (b :: bs)) (4 + (b :: bs).length) 2 =
        leBytes 2 (payloadCheck (b :: bs)).toNat := by
      rw [encodeParcel_eq, slice, ← List.drop_drop, List.drop_left' (show (sentHeader _).length = 4 from rfl),
        List.drop_left' rfl]
      rfl
    rw [behind, leNat_leBytes_of_lt (BitVec.isLt _), beq_self_eq_true, Bool.or_true]

end Sent

/-- Settles O8: the header in use is the header as sent, and every field is read from it. -/
theorem parcelsDecodeAsEncoded : Obligations.ParcelsDecodeAsEncoded := fun kind ret payload hk hr hl =>
  ⟨headerOf kind ret payload.length, frame_encodeParcel hk hr hl, headerKind_headerOf hk, headerReturn_headerOf hk hr,
    headerLength_headerOf hk hr, payloadOf_encodeParcel hk hr, payloadOk_encodeParcel hk hr,
    length_encodeParcel kind ret payload⟩

end Sys2Proof.Machine

/-! # The layouts of what the part sends (12.2 to 12.6, R180, R181) -/

namespace Sys2Proof.Machine

/-! ## Parts one behind the other -/

/-- Each part with its offset, where the parts stand one behind the other from `offset` on. -/
def laidFrom : Nat → List (List Byte) → List (Nat × List Byte)
  | _, [] => []
  | offset, p :: ps => (offset, p) :: laidFrom (offset + p.length) ps

theorem laidFrom_stands (front : List Byte) (ps : List (List Byte)) :
    ∀ p ∈ laidFrom front.length ps, ((front ++ ps.flatten).drop p.1).take p.2.length = p.2 := by
  induction ps generalizing front with
  | nil => exact fun p hp => absurd hp List.not_mem_nil
  | cons q qs ih =>
    refine List.forall_mem_cons.2 ⟨?_, ?_⟩
    · rw [List.flatten_cons, List.drop_left' rfl, List.take_left' rfl]
    · have rest := ih (front ++ q)
      rwa [List.length_append, List.append_assoc] at rest

theorem laidFrom_append (offset : Nat) (ps qs : List (List Byte)) :
    laidFrom offset (ps ++ qs) = laidFrom offset ps ++ laidFrom (offset + ps.flatten.length) qs := by
  induction ps generalizing offset with
  | nil => rfl
  | cons p ps ih => rw [List.cons_append, laidFrom, ih, laidFrom, List.flatten_cons, List.length_append, Nat.add_assoc]; rfl

/-- Bytes that are parts one behind the other hold each part at its offset. -/
theorem hasLayout_flatten (ps : List (List Byte)) : HasLayout ps.flatten ps.flatten.length (laidFrom 0 ps) :=
  ⟨rfl, laidFrom_stands [] ps⟩

theorem HasLayout.of_subset {bytes : List Byte} {size : Nat} {parts fewer : List (Nat × List Byte)}
    (h : HasLayout bytes size parts) (sub : fewer ⊆ parts) : HasLayout bytes size fewer :=
  ⟨h.1, fun p hp => h.2 p (sub hp)⟩

/-! ## Flags, references and signed numbers -/

theorem testBit_flagBits (bs : List Bool) (k : Nat) : (flagBits bs).testBit k = bs.getD k false := by
  induction bs generalizing k with
  | nil => simp [flagBits]
  | cons b bs ih =>
    cases k with
    | zero => cases b <;> simp [flagBits]
    | succ k =>
      have high : flagBits (b :: bs) / 2 = flagBits bs := by
        cases b <;> simp only [flagBits, Bool.false_eq_true, if_false, if_true] <;> omega
      rw [Nat.testBit_succ, high, ih, List.getD_cons_succ]

/-- A flags byte holds its flags, bit 0 first (12). -/
theorem hasFlags_flagBits (bs : List Bool) : HasFlags (BitVec.ofNat 8 (flagBits bs)) bs := fun k hk => by
  rw [BitVec.getLsbD_ofNat, decide_eq_true hk, Bool.true_and, testBit_flagBits]

theorem referenceNumber_eq (r : Option HoldRef) : (r.map holdRefNat).getD 0 = referenceNumber r := by
  cases r with
  | none => rfl
  | some r => exact congrArg (· + r.reuse) (Nat.mul_comm ..)

theorem length_leSigned (n : Nat) (v : Int) : (leSigned n v).length = n := leBytes_length ..

theorem leSigned_four (v : Int) : leSigned 4 v = leBytes 4 (BitVec.ofInt 32 v).toNat := by
  rw [BitVec.toNat_ofInt]
  rfl

/-! ## The payloads of ANSWER, MGMT_ANSWER and NOTICE -/

theorem encodeAnswer_laidOut (a : AnswerRecord) : answerLaidOut a := by
  refine ⟨_, hasFlags_flagBits _, ?_⟩
  rw [← referenceNumber_eq]
  exact hasLayout_flatten
    [leBytes 1 _, leBytes 1 _, [_], leBytes 1 _, leBytes 2 _, leBytes 2 _, leBytes 1 _, leBytes 4 _, leBytes 4 _, leBytes 4 _,
      leBytes 4 _, leBytes 2 _, leBytes 3 _, leBytes 4 _]

theorem encodeMgmtAnswer_laidOut (a : MgmtAnswer) : mgmtAnswerLaidOut a := by
  obtain ⟨code, tag, result⟩ := a
  cases result <;> rfl

theorem encodeNotice_laidOut (n : Notice) : noticeLaidOut n :=
  hasLayout_flatten [[_], [_], [_], leBytes 2 _, leBytes 4 _]

/-! ## Journal entries (12.4) -/

/-- The fields of a journal entry, in their order (12.4). -/
def entryParts (e : JournalEntry) : List (List Byte) :=
  [leBytes 4 e.seq, leBytes 1 (journalKindCode e.kind),
    leBytes 1 (flagBits [e.till.isSome, e.holdRef.isSome, e.promotion.isSome, e.restore]), leBytes 2 e.day, leBytes 4 e.minute,
    leBytes 3 e.card, leBytes 1 e.program, leBytes 1 ((e.till.map (·.1.lane)).getD 0),
    leBytes 2 ((e.till.map (·.1.store)).getD 0), leBytes 2 ((e.till.map (·.2)).getD 0), leSigned 4 e.paidDelta,
    leSigned 4 e.bonusDelta, leSigned 4 e.heldDelta, leBytes 4 e.forfeited, leBytes 4 e.paid, leBytes 4 e.bonus,
    leBytes 4 e.held, leBytes 3 ((e.holdRef.map holdRefNat).getD 0), leBytes 1 (e.promotion.getD 0), leBytes 11 0]

theorem encodeJournalEntry_eq (e : JournalEntry) : encodeJournalEntry e = (entryParts e).flatten := by
  unfold encodeJournalEntry entryParts oneByte
  simp only [Option.map_map, Function.comp_def, List.flatten_cons, List.flatten_nil, List.append_assoc, List.append_nil]

theorem length_encodeJournalEntry (e : JournalEntry) : (encodeJournalEntry e).length = 64 := by
  simp [encodeJournalEntry_eq, entryParts, length_leSigned]

theorem encodeJournalEntry_laidOut (e : JournalEntry) : entryLaidOut e := by
  refine ⟨_, hasFlags_flagBits [e.till.isSome, e.holdRef.isSome, e.promotion.isSome, e.restore], ?_⟩
  have laid := hasLayout_flatten (entryParts e)
  rw [← encodeJournalEntry_eq, length_encodeJournalEntry] at laid
  simp only [entryParts, laidFrom, leBytes_length, length_leSigned] at laid
  rw [← referenceNumber_eq]
  simp only [← leSigned_four]
  exact laid

/-! ## Card records (12.5) -/

theorem encodeRecent_laidOut (x : RecentRef) : recentLaidOut (encodeRecent x) x := by
  refine ⟨_, hasFlags_flagBits _, ?_⟩
  rw [← referenceNumber_eq]
  exact hasLayout_flatten
    [leBytes 2 _, leBytes 1 _, leBytes 2 _, leBytes 1 _, [_], leBytes 4 _, leBytes 4 _, leBytes 4 _, leBytes 2 _, leBytes 3 _,
      leBytes 1 _, leBytes 4 _]

/-- One recent-reference slot: a reference, or zero bytes where the list has ended. -/
def sentRecent : Option RecentRef → List Byte
  | none => leBytes 29 0
  | some x => encodeRecent x

theorem length_sentRecent (o : Option RecentRef) : (sentRecent o).length = 29 := by cases o <;> rfl

theorem encodeRecents_succ (n : Nat) (rs : List RecentRef) :
    encodeRecents (n + 1) rs = sentRecent rs.head? ++ encodeRecents n rs.tail := by cases rs <;> rfl

theorem length_encodeRecents (n : Nat) (rs : List RecentRef) : (encodeRecents n rs).length = 29 * n := by
  induction n generalizing rs with
  | zero => rfl
  | succ n ih => rw [encodeRecents_succ, List.length_append, length_sentRecent, ih, Nat.mul_succ, Nat.add_comm]

theorem slice_encodeRecents {n k : Nat} (hk : k < n) (rs : List RecentRef) :
    ((encodeRecents n rs).drop (29 * k)).take 29 = sentRecent rs[k]? := by
  induction n generalizing k rs with
  | zero => exact absurd hk (Nat.not_lt_zero k)
  | succ n ih =>
    rw [encodeRecents_succ]
    cases k with
    | zero => rw [Nat.mul_zero, List.drop_zero, List.take_left' (length_sentRecent _), List.head?_eq_getElem?]
    | succ k =>
      rw [Nat.mul_succ, Nat.add_comm, ← List.drop_drop, List.drop_left' (length_sentRecent _),
        ih (Nat.lt_of_succ_lt_succ hk), List.getElem?_tail]

/-- The three bytes of a verify value, zero where it is absent (12.5). -/
def sentVerify (o : Option Nat) : List Byte := (o.map verifyBytes).getD [0#8, 0#8, 0#8]

theorem length_sentVerify (o : Option Nat) : (sentVerify o).length = 3 := by cases o <;> rfl

/-- The fields of a card record before its recent-reference slots (12.5). -/
def recordParts (r : CardRecord) : List (List Byte) :=
  [leBytes 1 r.program, leBytes 1 (cardStateCode r.state),
    [BitVec.ofNat 8 (flagBits [r.bonusExpiry.isSome, r.verify.isSome, r.frozen])], leBytes 1 r.verifyFailures,
    leBytes 4 r.paid, leBytes 4 r.bonus, leBytes 4 r.held, leBytes 2 (r.bonusExpiry.getD 0), leBytes 1 r.openHolds,
    leBytes 2 r.lastDay, leBytes 1 r.dayCount, leBytes 4 r.dayAmount, sentVerify r.verify,
    leBytes 1 r.recents.length]

theorem encodeCardRecord_eq (r : CardRecord) :
    encodeCardRecord r = (recordParts r ++ [encodeRecents 4 r.recents]).flatten := by
  rw [List.flatten_append, List.flatten_singleton, encodeCardRecord, recordParts]
  cases r.verify <;> rfl

theorem length_recordParts (r : CardRecord) : (recordParts r).flatten.length = 30 := by
  simp [recordParts, length_sentVerify]

theorem length_encodeCardRecord (r : CardRecord) : (encodeCardRecord r).length = 146 := by
  rw [encodeCardRecord_eq, List.flatten_append, List.flatten_singleton, List.length_append, length_recordParts,
    length_encodeRecents]

theorem encodeCardRecord_laidOut (r : CardRecord) : recordLaidOut r := by
  have front := length_recordParts r
  refine ⟨⟨_, hasFlags_flagBits [r.bonusExpiry.isSome, r.verify.isSome, r.frozen], ?_⟩, fun k hk => ?_⟩
  · have laid := hasLayout_flatten (recordParts r ++ [encodeRecents 4 r.recents])
    rw [laidFrom_append, ← encodeCardRecord_eq, length_encodeCardRecord] at laid
    refine laid.of_subset (List.subset_append_of_subset_left _ ?_)
    simp only [recordParts, laidFrom, leBytes_length, List.length_singleton, length_sentVerify]
    exact List.Subset.refl _
  · have slot : ((encodeCardRecord r).drop (30 + 29 * k)).take 29 = sentRecent r.recents[k]? := by
      rw [encodeCardRecord_eq, List.flatten_append, List.flatten_singleton, ← List.drop_drop, List.drop_left' front,
        slice_encodeRecents hk]
    rw [slot]
    refine ⟨fun ended => ?_, fun x listed => ?_⟩
    · rw [List.getElem?_eq_none ended]
      rfl
    · rw [listed]
      exact encodeRecent_laidOut x

end Sys2Proof.Machine

/-! # The link units: parcels handed and sent, carrier, errors and notices (R152 to R155, R160, R176, R177) -/

namespace Sys2Proof.Machine

/-! ## The unit of a link -/

theorem linkUnit_setLinkUnit (s : State) (l k : Link) (v : LinkUnit) :
    (s.setLinkUnit l v).linkUnit k = if k = l then v else s.linkUnit k := by
  cases l with
  | store l =>
    cases k with
    | store k =>
      have unit := congrArg (·.link) (storeUnit_setStoreUnit s l k { s.storeUnit l with link := v })
      simp only [apply_ite StoreUnit.link] at unit
      simp only [Link.store.injEq]
      exact unit
    | central => rfl
  | central => cases k <;> rfl

theorem setLinkUnit_frame (s : State) (l : Link) (v : LinkUnit) :
    s.setLinkUnit l v =
      { s with stores := (s.setLinkUnit l v).stores, central := (s.setLinkUnit l v).central } := by
  cases l <;> rfl

theorem fifo_setLinkUnit (s : State) (l : Link) (v : LinkUnit) : (s.setLinkUnit l v).central.fifo = s.central.fifo := by
  cases l <;> rfl

theorem storeUnit_setLinkUnit (s : State) (l : Link) (v : LinkUnit) (k : StoreLink) :
    ((s.setLinkUnit l v).storeUnit k).intake = (s.storeUnit k).intake ∧
      ((s.setLinkUnit l v).storeUnit k).pacer = (s.storeUnit k).pacer := by
  cases l with
  | store l => cases l <;> cases k <;> exact ⟨rfl, rfl⟩
  | central => exact ⟨rfl, rfl⟩

/-! ## Parcels handed to a link unit (R153, R154) -/

theorem handTo_up {u : LinkUnit} (up : u.up = true) (p : OutParcel) : handTo u p = { u with out := u.out ++ [p] } := if_pos up

section Down
variable {u : LinkUnit} {p : OutParcel} (down : u.up = false)
include down

theorem handTo_counted (h : countedDrop p = true) : handTo u p = { u with dropped := min 65535 (u.dropped + 1) } := by
  rw [handTo, down, if_neg Bool.false_ne_true, if_pos h]
  rfl

theorem handTo_uncounted (h : countedDrop p = false) : handTo u p = u := by
  rw [handTo, down, h, if_neg Bool.false_ne_true, if_neg Bool.false_ne_true]

end Down

theorem countedDrop_eq_false {p : OutParcel} :
    countedDrop p = false ↔ (∃ n, p = .pause n) ∨ ∃ ret payload, p = .forwardedRequest ret payload := by
  cases p <;> simp [countedDrop]

theorem codes_inOrder : codesInOrder := by
  unfold codesInOrder
  decide

/-! ## PARCEL_SEND (R155) -/

/-- Nothing is sent with nothing waiting, or while the link is DOWN. -/
theorem sendParcel_none {l : Link} {s : State} (h : (s.linkUnit l).out = [] ∨ (s.linkUnit l).up = false) :
    sendParcel l s = s := by
  cases waits : (s.linkUnit l).out with
  | nil => simp only [sendParcel, waits]
  | cons p rest =>
    have down : (s.linkUnit l).up = false := h.resolve_left (by simp [waits])
    simp only [sendParcel, waits, down, Bool.false_eq_true, if_false]

theorem sendParcel_sends {l : Link} {s : State} {p : OutParcel} {rest : List OutParcel} (h : (s.linkUnit l).out = p :: rest)
    (up : (s.linkUnit l).up = true) :
    sendParcel l s =
      s.setLinkUnit l { s.linkUnit l with out := rest, line := (s.linkUnit l).line ++ [parcelBytes l p] } := by
  simp only [sendParcel, h, up, if_true]

/-- Settles O10: the rules of a hand-over, the parcel that PARCEL_SEND puts on the line, and the layouts. -/
theorem parcelsAreHandedAndSent : Obligations.ParcelsAreHandedAndSent := by
  refine ⟨fun u p => ⟨fun up => handTo_up up p, handTo_counted, handTo_uncounted, countedDrop_eq_false⟩, fun l s => ?_,
    encodeAnswer_laidOut, encodeMgmtAnswer_laidOut, encodeNotice_laidOut, encodeJournalEntry_laidOut,
    encodeCardRecord_laidOut, codes_inOrder⟩
  refine ⟨fun silent => congrArg _ (sendParcel_none silent), fun p rest waits up => ?_⟩
  refine ⟨_, congrArg Host.Outcome.next (sendParcel_sends waits up), setLinkUnit_frame .., ?_, fun k other => ?_,
    fifo_setLinkUnit .., fun j => storeUnit_setLinkUnit ..⟩
  · rw [linkUnit_setLinkUnit, if_pos rfl]
    cases p <;> rfl
  · rw [linkUnit_setLinkUnit, if_neg other]

/-! ## Carrier (R152 to R154) -/

theorem carrierOn_up {l : Link} {s : State} (up : (s.linkUnit l).up = true) : carrierOn l s = s := if_pos up

theorem carrierOff_down {l : Link} {s : State} (down : (s.linkUnit l).up = false) : carrierOff l s = s :=
  if_pos (by rw [down]; rfl)

theorem carrierOn_store {k : StoreLink} {s : State} (down : (s.storeUnit k).link.up = false) :
    carrierOn (.store k) s =
      s.setStoreUnit k { s.storeUnit k with link := { (s.storeUnit k).link with up := true } } :=
  if_neg (Bool.eq_false_iff.1 down)

/-- What C sends on becoming UP: a NOTICE, where an enabled kind is pending (R154, R177). -/
def noticesAtCarrier (s : State) : List OutParcel :=
  if s.mgmt.pending &&& s.mgmt.enabled = 0#8 then [] else [.notice (noticeOf s)]

theorem carrierOn_central {s : State} (down : s.central.link.up = false) :
    carrierOn .central s =
      { s with
        central :=
          { s.central with link := { s.central.link with up := true, out := s.central.link.out ++ noticesAtCarrier s } } } := by
  have raised : carrierOn .central s =
      let up := s.setLinkUnit .central { s.central.link with up := true }
      if enabledPending up then sendNotice up else up := if_neg (Bool.eq_false_iff.1 down)
  rw [raised, noticesAtCarrier]
  by_cases quiet : s.mgmt.pending &&& s.mgmt.enabled = 0#8
  · have silent : enabledPending s = false := by rw [enabledPending, quiet]; rfl
    rw [if_pos quiet, List.append_nil]
    exact if_neg (Bool.eq_false_iff.1 silent)
  · have pends : enabledPending s = true := bne_iff_ne.2 quiet
    rw [if_neg quiet]
    exact if_pos pends

theorem carrierOff_store {k : StoreLink} {s : State} (up : (s.storeUnit k).link.up = true) :
    carrierOff (.store k) s =
      (s.setStoreUnit k
        { link := linkDown (s.storeUnit k).link, intake := [], pacer := stoppedPacer (s.storeUnit k).pacer }).withDispatcher
        { s.dispatcher with blocked := s.dispatcher.blocked.filter fun x => x != k } := by
  rw [carrierOff, show (s.linkUnit (.store k)).up = true from up]
  rfl

theorem carrierOff_central {s : State} (up : s.central.link.up = true) :
    carrierOff .central s = { s with central := { s.central with link := linkDown s.central.link } } := by
  rw [carrierOff, show (s.linkUnit .central).up = true from up]
  rfl

/-- Settles O11: a link that is DOWN becomes UP at carrier, one that is UP loses what waited at its loss. -/
theorem linksFollowCarrier : Obligations.LinksFollowCarrier := by
  refine ⟨fun s => ⟨fun l up => congrArg _ (carrierOn_up up), fun k down => ?_, fun down => ?_⟩,
    fun s => ⟨fun l down => congrArg _ (carrierOff_down down), fun k up => ?_, fun up => ?_⟩⟩
  · refine ⟨_, congrArg Host.Outcome.next (carrierOn_store down), rfl, ?_, fun j other => ?_⟩
    · rw [storeUnit_setStoreUnit, if_pos rfl]
    · rw [storeUnit_setStoreUnit, if_neg other]
  · exact congrArg _ (carrierOn_central down)
  · refine ⟨_, congrArg Host.Outcome.next (carrierOff_store up), rfl, ?_, fun j other => ?_, rfl, rfl, fun j => ?_⟩
    · exact (storeUnit_setStoreUnit ..).trans (if_pos rfl)
    · exact (storeUnit_setStoreUnit ..).trans (if_neg other)
    · exact List.mem_filter.trans (and_congr_right' bne_iff_ne)
  · exact congrArg _ (carrierOff_central up)

/-! ## Errors and notices (R160, R176, R177) -/

section Errors
variable {l : Link} {k : LinkError} {s : State}

theorem recordError_known (h : (s.linkUnit l).errors.getLsbD (linkErrorBit k) = true) : recordError l k s = s := if_pos h

theorem recordError_new (h : (s.linkUnit l).errors.getLsbD (linkErrorBit k) = false) :
    recordError l k s =
      raiseNotice .linkError false
        (s.setLinkUnit l { s.linkUnit l with errors := (s.linkUnit l).errors ||| 1#8 <<< linkErrorBit k }) :=
  if_neg (Bool.eq_false_iff.1 h)

end Errors

/-- The qualifier a notice is raised with (R176). -/
theorem overflowMask_eq (k : NoticeKind) :
    overflowMask k = if k = .watchParked then 1#8 else if k = .memoryError then 2#8 else 0#8 := by
  cases k <;> rfl

/-- The part once a notice kind has joined the pending set with its qualifier (R176). -/
def withNotice (k : NoticeKind) (overflow : Bool) (s : State) : State :=
  s.withMgmt
    { s.mgmt with
      pending := s.mgmt.pending ||| 1#8 <<< noticeBit k
      qualifiers := s.mgmt.qualifiers ||| if overflow then overflowMask k else 0#8 }

/-- Whether a raised notice is sent: its kind is enabled, and it or its qualifier is new (R177). -/
def NoticeSent (k : NoticeKind) (overflow : Bool) (s : State) : Prop :=
  s.mgmt.enabled.getLsbD (noticeBit k) = true ∧
    (s.mgmt.pending.getLsbD (noticeBit k) = false ∨ (withNotice k overflow s).mgmt.qualifiers ≠ s.mgmt.qualifiers)

section Raised
variable {k : NoticeKind} {overflow : Bool} {s : State}

theorem noticeSent_iff :
    (noticeIn k s.mgmt.enabled &&
      (!noticeIn k s.mgmt.pending || (withNotice k overflow s).mgmt.qualifiers != s.mgmt.qualifiers)) = true ↔
      NoticeSent k overflow s := by
  rw [Bool.and_eq_true, Bool.or_eq_true, Bool.not_eq_true', bne_iff_ne]
  rfl

theorem raiseNotice_sent (h : NoticeSent k overflow s) : raiseNotice k overflow s = sendNotice (withNotice k overflow s) :=
  if_pos (noticeSent_iff.2 h)

theorem raiseNotice_silent (h : ¬NoticeSent k overflow s) : raiseNotice k overflow s = withNotice k overflow s :=
  if_neg (mt noticeSent_iff.1 h)

end Raised

/-- Settles O12: a new error is recorded and raises LINK_ERROR; a raised notice joins the set, and is sent by the rule. -/
theorem errorsAndNoticesRaisedOnce : Obligations.ErrorsAndNoticesRaisedOnce := by
  refine ⟨fun l k s => ⟨recordError_known, fun new => ?_⟩, fun k overflow s => ?_⟩
  · refine ⟨_, recordError_new new, setLinkUnit_frame .., ?_, fun j other => ?_, fifo_setLinkUnit ..,
      fun j => storeUnit_setLinkUnit ..⟩
    · rw [linkUnit_setLinkUnit, if_pos rfl]
    · rw [linkUnit_setLinkUnit, if_neg other]
  · rw [← overflowMask_eq]
    exact ⟨raiseNotice_sent, raiseNotice_silent⟩

end Sys2Proof.Machine

/-! # The reception of parcels (R152, R157 to R162, R164, R178, R181) -/

namespace Sys2Proof.Machine

/-! ## The receive checks in their order (R159) -/

section Checks
variable {l : Link} {bytes : List Byte} {s : State}

theorem receive_stopped (h : (s.linkUnit l).up = false ∨ s.resetN = false) : receive l bytes s = s :=
  if_pos (by rcases h with down | low <;> simp [*])

section Open
variable (up : (s.linkUnit l).up = true) (high : s.resetN = true)
include up high

theorem receive_open : (!(s.linkUnit l).up || !s.resetN) = false := by
  rw [up, high]
  rfl

theorem receive_headerBad (h : frame bytes = .headerBad) : receive l bytes s = recordError l .headerBad s := by
  simp only [receive, receive_open up high, Bool.false_eq_true, if_false, h]

theorem receive_lengthBad {fixed : Bool} (h : frame bytes = .lengthBad fixed) :
    receive l bytes s = recordError l .length (recordCorrected l fixed s) := by
  simp only [receive, receive_open up high, Bool.false_eq_true, if_false, h]

theorem receive_framed {fixed : Bool} {h : Nat} (framed : frame bytes = .framed fixed h) :
    receive l bytes s = receiveFramed l h bytes (recordCorrected l fixed s) := by
  simp only [receive, receive_open up high, Bool.false_eq_true, if_false, framed]

end Open

variable {h : Nat}

theorem receiveFramed_idle (idle : headerKind h = 0) : receiveFramed l h bytes s = s := if_pos idle

/-- IDLE is a kind no link accepts: it is ignored. -/
theorem kind_ne_idle_of_accepted {kind : Nat} (accepted : acceptedKind l kind = true) : kind ≠ kindIdle := by
  rintro rfl
  cases l <;> cases accepted

theorem receiveFramed_unexpected (named : headerKind h ≠ kindIdle)
    (unaccepted : acceptedKind l (headerKind h) = false) :
    receiveFramed l h bytes s = recordError l .unexpectedKind s := by
  rw [receiveFramed, if_neg named, unaccepted]
  rfl

theorem receiveFramed_accepted (accepted : acceptedKind l (headerKind h) = true) :
    receiveFramed l h bytes s =
      if payloadOk h bytes then handOn l h (payloadOf h bytes) s else recordError l .payloadBad s := by
  rw [receiveFramed, if_neg (kind_ne_idle_of_accepted accepted), accepted]
  cases payloadOk h bytes <;> rfl

end Checks

theorem recordCorrected_clean (l : Link) (s : State) : recordCorrected l false s = s := rfl

/-! ## A parcel as sent is received (R155, R159) -/

section Sent
variable {l : Link} {s : State} {kind ret : Nat} {payload : List Byte} (up : (s.linkUnit l).up = true)
  (high : s.resetN = true) (hk : kind < 64) (hr : ret < 4) (hl : payload.length ≤ 1024)
include up high hk hr hl

theorem receive_sent :
    receive l (encodeParcel kind ret payload) s =
      receiveFramed l (headerOf kind ret payload.length) (encodeParcel kind ret payload) s := by
  rw [receive_framed up high (frame_encodeParcel hk hr hl), recordCorrected_clean]

theorem receive_sent_unexpected (named : kind ≠ 0) (h : acceptedKind l kind = false) :
    receive l (encodeParcel kind ret payload) s = recordError l .unexpectedKind s := by
  rw [receive_sent up high hk hr hl]
  exact receiveFramed_unexpected (by rwa [headerKind_headerOf hk]) (by rwa [headerKind_headerOf hk])

theorem receive_sent_accepted (h : acceptedKind l kind = true) :
    receive l (encodeParcel kind ret payload) s = handOn l (headerOf kind ret payload.length) payload s := by
  rw [receive_sent up high hk hr hl, receiveFramed_accepted (by rwa [headerKind_headerOf hk]), payloadOk_encodeParcel hk hr,
    payloadOf_encodeParcel hk hr, if_pos rfl]

end Sent

/-- The five reception commands run one reception (log entry 6). -/
theorem exec_reception {s : State} {l : Link} {bytes : List Byte} {c : Instr}
    (h : c = .idle l bytes ∨ c = .unexpectedKind l bytes ∨ (∃ k, l = .store k ∧ c = .request k bytes) ∨
      (l = .central ∧ (c = .answer bytes ∨ c = .mgmt bytes))) :
    exec c s = .next (receive l bytes s) := by
  obtain rfl | rfl | ⟨k, rfl, rfl⟩ | ⟨rfl, rfl | rfl⟩ := h <;> rfl

/-- A kind other than those a link accepts (R155). -/
theorem acceptedKind_eq_false {l : Link} {kind : Nat}
    (h : (∃ k, l = .store k ∧ kind ≠ 0 ∧ kind ≠ 1) ∨ (l = .central ∧ kind ≠ 0 ∧ kind ≠ 2 ∧ kind ≠ 3)) :
    kind ≠ 0 ∧ acceptedKind l kind = false := by
  obtain ⟨k, rfl, named, request⟩ | ⟨rfl, named, answer, mgmt⟩ := h
  · exact ⟨named, beq_false_of_ne request⟩
  · exact ⟨named, Bool.or_eq_false_iff.2 ⟨beq_false_of_ne answer, beq_false_of_ne mgmt⟩⟩

/-- Settles O14: a clause for each check, in the order of the reception. -/
theorem receptionChecksInOrder : Obligations.ReceptionChecksInOrder := by
  refine ⟨fun s l bytes c reception => ?_, fun s l kind ret payload up high hk hr hl => ⟨?_, fun unexpected => ?_⟩⟩
  · rw [exec_reception reception]
    refine ⟨fun stopped => congrArg _ (receive_stopped stopped), fun up high => ⟨fun bad => ?_, fun fixed bad => ?_,
      fun fixed h framed => ⟨fun idle => ?_, fun named unaccepted => ?_, fun accepted failing => ?_⟩⟩⟩
    · rw [receive_headerBad up high bad]
    · rw [receive_lengthBad up high bad]
      rfl
    · rw [receive_framed up high framed, receiveFramed_idle idle]
      rfl
    · rw [receive_framed up high framed, receiveFramed_unexpected named unaccepted]
      rfl
    · rw [receive_framed up high framed, receiveFramed_accepted accepted, failing]
      rfl
  · have idle : headerKind (headerOf 0 ret payload.length) = 0 := headerKind_headerOf (by decide)
    exact congrArg Host.Outcome.next ((receive_sent up high (by decide) hr hl).trans (receiveFramed_idle idle))
  · obtain ⟨named, unaccepted⟩ := acceptedKind_eq_false unexpected
    exact congrArg Host.Outcome.next (receive_sent_unexpected up high hk hr hl named unaccepted)

/-! ## REQUEST (R161, R162, R180) -/

/-- The unit of a store link once a decoded request has arrived (R161, R162). -/
def arrivedUnit (u : StoreUnit) (q : Request) : StoreUnit :=
  if 64 ≤ u.intake.length then
    { u with
      link :=
        { u.link with
          out := u.link.out
            ++ [.answer
              { kindCode := q.kindCode, outcome := .busy, repeated := false, till := q.till, seq := q.seq,
                approved := none, balances := none, holdRef := none, journalSeq := none }] } }
  else if u.pacer.state = .idle ∧ u.pacer.active.highMark ≤ u.intake.length + 1 then
    { link := { u.link with out := u.link.out ++ [.pause u.pacer.active.pauseTime] }
      intake := u.intake ++ [q]
      pacer := { u.pacer with state := .pausing, timer := u.pacer.active.pauseTime, sent := 1 } }
  else { u with intake := u.intake ++ [q] }

theorem handStore_eq (l : StoreLink) (p : OutParcel) (s : State) :
    handStore l p s = s.setStoreUnit l { s.storeUnit l with link := handTo (s.storeUnit l).link p } := rfl

theorem setStoreUnit_setStoreUnit (s : State) (l : StoreLink) (v w : StoreUnit) :
    (s.setStoreUnit l v).setStoreUnit l w = s.setStoreUnit l w := by cases l <;> rfl

theorem joinIntake_eq {l : StoreLink} {s : State} (up : (s.storeUnit l).link.up = true) (q : Request) :
    joinIntake l q s = s.setStoreUnit l (arrivedUnit (s.storeUnit l) q) := by
  have unit : ∀ v, (s.setStoreUnit l v).storeUnit l = v := fun v => (storeUnit_setStoreUnit ..).trans (if_pos rfl)
  unfold joinIntake arrivedUnit
  by_cases full : 64 ≤ (s.storeUnit l).intake.length
  · simp only [if_pos full, intakeSize, handStore_eq, handTo_up up]
    rfl
  · simp only [if_neg full, intakeSize, pacerArrival, unit, List.length_append, List.length_singleton, handStore_setPacer,
      setStoreUnit_setStoreUnit, handTo_up up]
    split <;> rfl

theorem decodeRequest_eq_none {l : StoreLink} {payload : List Byte} (h : payload.length ≠ 36) :
    decodeRequest l payload = none := if_neg h

theorem decodeRequest_length {l : StoreLink} {payload : List Byte} {q : Request} (h : decodeRequest l payload = some q) :
    payload.length = 36 := by
  by_contra other
  rw [decodeRequest_eq_none other] at h
  cases h

/-! ## ANSWER and MGMT (R159, R164, R181) -/

/-- Two bits name one store link (12.1). -/
theorem eq_storeLinkOf_iff {ret : Nat} (hr : ret < 4) {j : StoreLink} : j = storeLinkOf ret ↔ storeLinkCode j = ret := by
  match ret with
  | 0 | 1 | 2 | 3 => cases j <;> decide

theorem decodeCommand_eq_none {payload : List Byte} (h : payload.length < 3) : decodeCommand payload = none := by
  match payload with
  | [] | [_] | [_, _] => rfl

theorem decodeCommand_leBytes {code tag : Nat} (hc : code < 256) (ht : tag < 65536) (fields : List Byte) :
    decodeCommand (leBytes 1 code ++ leBytes 2 tag ++ fields) = some { code := code, tag := tag, fields := fields } := by
  have number : decodeCommand (leBytes 1 code ++ leBytes 2 tag ++ fields) =
    some { code := (BitVec.ofNat 8 code).toNat, tag := leNat (leBytes 2 tag), fields := fields } := rfl
  rw [number, leNat_leBytes_of_lt ht, BitVec.toNat_ofNat, Nat.mod_eq_of_lt hc]

theorem joinFifo_eq {s : State} (up : s.central.link.up = true) (c : MgmtCommand) :
    joinFifo c s =
      { s with
        central :=
          if 16 ≤ s.central.fifo.length then
            { s.central with
              link :=
                { s.central.link with
                  out := s.central.link.out ++ [.mgmtAnswer { code := c.code, tag := c.tag, result := .refused .busy }] } }
          else { s.central with fifo := s.central.fifo ++ [c] } } := by
  have handed : ∀ p, handCentral p s =
      { s with central := { s.central with link := { s.central.link with out := s.central.link.out ++ [p] } } } := fun p => by
    rw [← handTo_up up]
    rfl
  rw [joinFifo, reply, handed, fifoSize]
  split <;> rfl

/-! ## What the payload of a parcel as sent is handed on to (R159) -/

theorem handOn_request {l : StoreLink} {h : Nat} {payload : List Byte} {q : Request} {s : State}
    (decoded : decodeRequest l payload = some q) : handOn (.store l) h payload s = joinIntake l q s := by
  simp only [handOn, decoded]

theorem handOn_request_bad {l : StoreLink} {h : Nat} {payload : List Byte} {s : State} (bad : payload.length ≠ 36) :
    handOn (.store l) h payload s = recordError (.store l) .decode s := by
  simp only [handOn, decodeRequest_eq_none bad]

theorem handOn_answer {h : Nat} {payload : List Byte} {s : State} (kind : headerKind h = 2) :
    handOn .central h payload s =
      handStore (storeLinkOf (headerReturn h)) (.forwardedAnswer (storeLinkOf (headerReturn h)) payload) s :=
  if_pos kind

section Mgmt
variable {h : Nat} {payload : List Byte} {s : State} (kind : headerKind h = 3)
include kind

theorem handOn_mgmt {c : MgmtCommand} (decoded : decodeCommand payload = some c) :
    handOn .central h payload s = joinFifo c s := by
  simp only [handOn, kind, kindAnswer, Nat.reduceEqDiff, if_false, decoded]

theorem handOn_mgmt_short (short : payload.length < 3) :
    handOn .central h payload s = recordError .central .decode s := by
  simp only [handOn, kind, kindAnswer, Nat.reduceEqDiff, if_false, decodeCommand_eq_none short]

end Mgmt

/-- Settles O13: a parcel as sent passes the receive checks, and its payload joins the queue of its kind. -/
theorem receivedParcelsJoinTheirQueues : Obligations.ReceivedParcelsJoinTheirQueues := by
  refine ⟨fun s l ret payload up high hr hl => ?_, fun s ret payload up high hr hl => ?_⟩
  · have received : exec (.request l (encodeParcel 1 ret payload)) s =
        .next (handOn (.store l) (headerOf 1 ret payload.length) payload s) :=
      congrArg Host.Outcome.next (receive_sent_accepted (l := .store l) up high (by decide) hr hl rfl)
    rw [received]
    refine ⟨fun bad => congrArg _ (handOn_request_bad bad), fun q decoded => ?_⟩
    refine ⟨_, congrArg Host.Outcome.next ((handOn_request decoded).trans (joinIntake_eq up q)), rfl, fun j other => ?_, ?_⟩
    · rw [storeUnit_setStoreUnit, if_neg other]
    · exact (storeUnit_setStoreUnit ..).trans (if_pos rfl)
  · have received : ∀ kind, acceptedKind .central kind = true → kind < 64 →
        receive .central (encodeParcel kind ret payload) s =
          handOn .central (headerOf kind ret payload.length) payload s :=
      fun kind accepted hk => receive_sent_accepted (l := .central) up high hk hr hl accepted
    have mgmt : headerKind (headerOf 3 ret payload.length) = 3 := headerKind_headerOf (by decide)
    refine ⟨?_, fun short => ?_, fun code tag fields hc ht sent => ?_⟩
    · have answer : headerKind (headerOf 2 ret payload.length) = 2 := headerKind_headerOf (by decide)
      refine ⟨_, congrArg Host.Outcome.next ((received 2 rfl (by decide)).trans (handOn_answer answer)), rfl, fun j => ?_⟩
      rw [headerReturn_headerOf (by decide) hr, handStore_eq, storeUnit_setStoreUnit]
      simp only [eq_storeLinkOf_iff hr]
      split
      case isTrue named => rw [← (eq_storeLinkOf_iff hr).2 named]
      case isFalse => rfl
    · exact congrArg Host.Outcome.next ((received 3 rfl (by decide)).trans (handOn_mgmt_short mgmt short))
    · have decoded := (congrArg decodeCommand sent).trans (decodeCommand_leBytes hc ht fields)
      exact congrArg Host.Outcome.next
        ((received 3 rfl (by decide)).trans ((handOn_mgmt mgmt decoded).trans (joinFifo_eq up _)))

end Sys2Proof.Machine

/-! # The pins TBLEN and RESET_N (R168, R178) -/

namespace Sys2Proof.Machine

/-- The model writes the fall of the level as a minimum; within the levels of R168 that is level 2 becoming 1. -/
theorem min_one_eq_of_le_two {level : Nat} (bounded : level ≤ 2) : min level 1 = if level = 2 then 1 else level := by
  split <;> omega

section Pins
variable {s : State}

theorem exec_tblenFall (bounded : s.mgmt.level ≤ 2) :
    exec .tblenFall s =
      .next { s with tblen := false, mgmt := { s.mgmt with level := if s.mgmt.level = 2 then 1 else s.mgmt.level } } := by
  rw [← min_one_eq_of_le_two bounded]
  rfl

theorem exec_resetNLow_of_high (high : s.resetN = true) :
    exec .resetNLow s = .next { s with resetN := false, resetPending := true } :=
  congrArg Host.Outcome.next (if_pos high)

theorem exec_resetNLow_of_low (low : s.resetN = false) : exec .resetNLow s = .next s :=
  congrArg Host.Outcome.next (if_neg (ne_true_of_eq_false low))

end Pins

/-- Settles O4: TBLEN_FALL caps the level at 1, RESET_N_LOW acts on a high pin only, and each rise raises its pin. -/
theorem pinEventsSetLevels : Obligations.PinEventsSetLevels := by
  intro s
  exact ⟨exec_tblenFall, rfl, exec_resetNLow_of_high, exec_resetNLow_of_low, rfl⟩

end Sys2Proof.Machine

/-! # The payload of a REQUEST (R180, 12.2) -/

namespace Sys2Proof.Machine

/-- The fields of a REQUEST payload, in their order (12.2). -/
def requestParts (kind channel presence lane : Byte) (store seq amount ref original : Nat) (number verify : List Byte) :
    List (List Byte) :=
  [[kind], [channel], [presence], [lane], leBytes 2 store, leBytes 2 seq, number, leBytes 4 amount, verify, leBytes 3 ref,
    leBytes 2 original]

/-- The bytes of a REQUEST payload hold each field at its offset (12.2). -/
theorem requestParts_laidOut (kind channel presence lane : Byte) (store seq amount ref original : Nat)
    {number verify : List Byte} (hn : number.length = 16) (hv : verify.length = 3) :
    HasLayout (requestParts kind channel presence lane store seq amount ref original number verify).flatten 36
      [(0, [kind]), (1, [channel]), (2, [presence]), (3, [lane]), (4, leBytes 2 store), (6, leBytes 2 seq), (8, number),
        (24, leBytes 4 amount), (28, verify), (31, leBytes 3 ref), (34, leBytes 2 original)] := by
  have laid := hasLayout_flatten (requestParts kind channel presence lane store seq amount ref original number verify)
  simpa [requestParts, laidFrom, hn, hv] using laid

/-- A part of a layout is what is read at its offset. -/
theorem HasLayout.slice_eq {bytes : List Byte} {size : Nat} {parts : List (Nat × List Byte)} (h : HasLayout bytes size parts)
    {offset n : Nat} {p : List Byte} (here : (offset, p) ∈ parts) (length : p.length = n) : slice bytes offset n = p := by
  subst n
  exact h.2 _ here

/-- A number of a layout is read at its offset, where it fits its bytes. -/
theorem HasLayout.leNat_slice {bytes : List Byte} {size : Nat} {parts : List (Nat × List Byte)} (h : HasLayout bytes size parts)
    {offset n v : Nat} (here : (offset, leBytes n v) ∈ parts) (small : v < 256 ^ n) :
    leNat (slice bytes offset n) = v := by
  rw [h.slice_eq here (leBytes_length n v), leNat_leBytes_of_lt small]

/-- The bits 22 and 23 of the hold reference field are ignored (12.2). -/
theorem holdRefOf_mod (ref : Nat) : holdRefOf (ref % 4194304) = { slot := ref / 256 % 16384, reuse := ref % 256 } := by
  simp only [holdRefOf, HoldRef.mk.injEq]
  omega

/-- Settles O9: each field is read at the offset where the layout has it. -/
theorem requestPayloadDecodes : Obligations.RequestPayloadDecodes := by
  refine ⟨fun _ _ => decodeRequest_eq_none, ?_⟩
  intro l kind channel presence lane store seq amount ref original number verify hn hv hstore hseq hamount href horiginal
    payload
  have parts : payload = (requestParts kind channel presence lane store seq amount ref original number verify).flatten := by
    simp [payload, requestParts]
  have laid := requestParts_laidOut kind channel presence lane store seq amount ref original hn hv
  rw [← parts] at laid
  have store_read : leNat (slice payload 4 2) = store := laid.leNat_slice (by simp) hstore
  have seq_read : leNat (slice payload 6 2) = seq := laid.leNat_slice (by simp) hseq
  have number_read : slice payload 8 16 = number := laid.slice_eq (by simp) hn
  have amount_read : leNat (slice payload 24 4) = amount := laid.leNat_slice (by simp) hamount
  have verify_read : slice payload 28 3 = verify := laid.slice_eq (by simp) hv
  have ref_read : leNat (slice payload 31 3) = ref := laid.leNat_slice (by simp) href
  have original_read : leNat (slice payload 34 2) = original := laid.leNat_slice (by simp) horiginal
  rw [decodeRequest, if_pos laid.1]
  simp only [store_read, seq_read, number_read, amount_read, verify_read, ref_read, original_read, holdRefOf_mod]
  rfl

end Sys2Proof.Machine

/-! # The queue of waiting commands, which no command touches -/

namespace Sys2Proof.Machine

theorem foldl_pending {α : Type} {f : State → α → State} (h : ∀ s a, (f s a).pending = s.pending) (l : List α) (s : State) :
    (l.foldl f s).pending = s.pending := by
  induction l generalizing s with
  | nil => rfl
  | cons a l ih => rw [List.foldl_cons, ih, h]

/-! ## The decisions -/

theorem applyRoll_pending {card : Nat} {s s' : State} {r r' : CardRecord} (h : applyRoll card s r = .applied s' r') :
    s'.pending = s.pending := by
  simp only [applyRoll] at h
  split at h
  · cases h; rfl
  · split at h
    · split at h
      · cases h
      · cases h; simp
    · cases h; rfl

@[simp] theorem rolledFor_pending (card : Nat) (s : State) (r : CardRecord) :
    (rolledFor card s r).1.pending = s.pending := by
  unfold rolledFor
  split
  · exact applyRoll_pending ‹_›
  · rfl

@[simp] theorem closeHold_pending (card n : Nat) (reason : CloseReason) (paid bonus ceiling : Nat) (s : State)
    (r : CardRecord) :
    (closeHold card n reason paid bonus ceiling s r).st.pending = s.pending := rfl

@[simp] theorem decline_pending (s : State) (r : CardRecord) (o : TillOutcome) :
    (decline s r o).st.pending = s.pending := rfl

@[simp] theorem declineVerify_pending (s : State) (before after : CardRecord) :
    (declineVerify s before after).st.pending = s.pending := by
  unfold declineVerify
  split <;> simp

@[simp] theorem settleRedeem_pending (card : Nat) (t : TillRequest) (s : State) (r : CardRecord) (x : Nat)
    (isPartial : Bool) :
    (settleRedeem card t s r x isPartial).st.pending = s.pending := by
  simp [settleRedeem]

theorem decideRedeem_pending (card p : Nat) (t : TillRequest) (s : State) (r : CardRecord) :
    (decideRedeem card p t s r).st.pending = s.pending := by
  simp only [decideRedeem]
  split
  · rfl
  · split_ifs
    · simp
    · rfl
    · rfl
    · split <;> simp

@[simp] theorem settleHold_pending (card p n : Nat) (t : TillRequest) (s : State) (r : CardRecord) (x : Nat)
    (isPartial : Bool) :
    (settleHold card p n t s r x isPartial).st.pending = s.pending := by
  simp [settleHold, allocateHold]

theorem decideHold_pending (card p : Nat) (t : TillRequest) (s : State) (r : CardRecord) :
    (decideHold card p t s r).st.pending = s.pending := by
  simp only [decideHold]
  split
  · rfl
  · split
    · simp
    · split
      · rfl
      · split
        · rfl
        · split
          · rfl
          · split
            · rfl
            · split <;> simp

theorem decideComplete_pending (card p : Nat) (t : TillRequest) (s : State) (r : CardRecord) :
    (decideComplete card p t s r).st.pending = s.pending := by
  simp only [decideComplete]
  split
  · rfl
  · split
    · rfl
    · rfl
    · split_ifs <;> simp [settleComplete]

theorem decideRelease_pending (card p : Nat) (t : TillRequest) (s : State) (r : CardRecord) :
    (decideRelease card p t s r).st.pending = s.pending := by
  simp only [decideRelease]
  split
  · rfl
  · split
    · rfl
    · rfl
    · split_ifs <;> simp [settleRelease]

@[simp] theorem loadSteps_pending (kind : JournalKind) (card p : Nat) (t : TillRequest) (s : State) (r : CardRecord) :
    (loadSteps kind card p t s r).st.pending = s.pending := by
  simp only [loadSteps]
  split_ifs <;> simp [settleLoad]

theorem undo_pending {card p : Nat} {x : RecentRef} {s : State} {r : CardRecord} {v : Reversed}
    (h : undo card p x s r = .ok v) : v.st.pending = s.pending := by
  simp only [undo] at h
  split at h
  · split_ifs at h; cases h; rfl
  · split_ifs at h; cases h; rfl
  · split at h
    · split_ifs at h; cases h; rfl
    all_goals cases h
  · split_ifs at h; cases h; rfl
  · split_ifs at h; cases h; rfl
  all_goals cases h

theorem decideReverse_pending (card p : Nat) (t : TillRequest) (s : State) (r : CardRecord) :
    (decideReverse card p t s r).st.pending = s.pending := by
  unfold decideReverse
  split
  · rfl
  · split
    · rfl
    · split
      · rfl
      · simpa [recordReversal] using undo_pending ‹_›

@[simp] theorem decideTill_pending (card p : Nat) (t : TillRequest) (s : State) (r shown : CardRecord) :
    (decideTill card p t s r shown).st.pending = s.pending := by
  unfold decideTill
  split
  · rfl
  · unfold decideActivate; split <;> simp
  · unfold decideLoad; split <;> simp
  · exact decideRedeem_pending ..
  · exact decideHold_pending ..
  · exact decideComplete_pending ..
  · exact decideRelease_pending ..
  · exact decideReverse_pending ..
  · rfl

/-! ## The steps of a decision event -/

theorem decideStep_pending (it : Item) (t : TillRequest) (before : CardRecord) (s : State) (r shown : CardRecord) :
    (decideStep it t before s r shown).pending = s.pending := by
  simp [decideStep]

theorem watchStep_pending (it : Item) (t : TillRequest) (before : CardRecord) (s : State) (r shown : CardRecord) :
    (watchStep it t before s r shown).pending = s.pending := by
  simp only [watchStep]
  split_ifs
  · exact decideStep_pending ..
  · simp [decideStep_pending]
  · split
    · simp [parkItem]
    · simp

theorem rollStep_pending (it : Item) (t : TillRequest) (s : State) (r : CardRecord) :
    (rollStep it t s r).pending = s.pending := by
  unfold rollStep
  split
  · exact (watchStep_pending ..).trans (applyRoll_pending ‹_›)
  · split
    · exact watchStep_pending ..
    · simp

theorem takeTillItem_pending (it : Item) (t : TillRequest) (s : State) (r : CardRecord) :
    (takeTillItem it t s r).pending = s.pending := by
  unfold takeTillItem
  split
  · simp
  · split
    · split <;> simp [repeatAnswer]
    · exact rollStep_pending ..

theorem takeLapse_pending (it : Item) (ref : HoldRef) (dropTag : Option Nat) (s : State) (r : CardRecord) :
    (takeLapse it ref dropTag s r).pending = s.pending := by
  simp only [takeLapse]
  split
  · simp
  · rename_i hr
    rw [← applyRoll_pending hr]
    split_ifs <;> simp [lapseHold]

theorem takeCardWrite_pending (it : Item) (tag : Nat) (f : CardWriteFields) (s : State) (r : CardRecord) :
    (takeCardWrite it tag f s r).pending = s.pending := by
  simp only [takeCardWrite]
  split
  · simp
  · split <;> simp

@[simp] theorem takeItem_pending (it : Item) (s : State) : (takeItem it s).pending = s.pending := by
  simp only [takeItem]
  split
  · rfl
  · split
    · exact takeTillItem_pending ..
    · exact takeLapse_pending ..
    · simp [takeCardRead]
    · simp [takeFreeze]
    · simp [takeFreeze]
    · exact takeCardWrite_pending ..

theorem takeHead_pending (named : Item → Bool) (card : Nat) (s : State) : (takeHead named card s).pending = s.pending := by
  unfold takeHead
  split
  · split
    · simp [unqueue]
    · rfl
  · rfl

/-! ## The Dispatcher -/

@[simp] theorem answerWithdrawn_pending (s : State) (it : Item) : (answerWithdrawn s it).pending = s.pending := by
  unfold answerWithdrawn
  split
  · simp
  all_goals rfl

@[simp] theorem withdrawCurrent_pending (card : Nat) (target : Option Item) (s : State) :
    (withdrawCurrent card target s).pending = s.pending := by
  cases target with
  | none => rfl
  | some it => simp [withdrawCurrent]

@[simp] theorem withdrawTargets_pending (t : TillRequest) (card : Nat) (e : BusyEntry) (s : State) :
    (withdrawTargets t card e s).pending = s.pending := by
  simp [withdrawTargets, withdrawWaiting, foldl_pending answerWithdrawn_pending]

theorem handOver_eq_pending {it : Item} {s s' : State} {v : HandOver} (h : handOver it s = (v, s')) :
    s'.pending = s.pending := by
  simpa only [h] using handOver_pending it s

theorem dispatchItem_pending {t : TillRequest} {p card : Nat} {s s' : State} (h : dispatchItem t p card s = .consumed s') :
    s'.pending = s.pending := by
  unfold dispatchItem at h
  split at h <;> cases h
  · exact handOver_eq_pending ‹_›
  · rfl
  · rfl

theorem dispatchWithdraw_pending {t : TillRequest} {p card : Nat} {s s' : State}
    (h : dispatchWithdraw t p card s = .consumed s') : s'.pending = s.pending := by
  simp only [dispatchWithdraw] at h
  split at h
  · exact dispatchItem_pending h
  · split at h
    · cases h; simp
    · split at h
      · cases h; rfl
      · exact dispatchItem_pending h

@[simp] theorem forward_pending (q : Request) (t : TillRequest) (s : State) : (forward q t s).pending = s.pending := by
  unfold forward
  split <;> rfl

theorem dispatchLive_pending {t : TillRequest} {p card : Nat} {s s' : State} (h : dispatchLive t p card s = .consumed s') :
    s'.pending = s.pending := by
  unfold dispatchLive at h
  split_ifs at h
  · cases h; rfl
  · cases h; rfl
  · exact dispatchWithdraw_pending h
  · exact dispatchItem_pending h

theorem dispatchRequest_pending {q : Request} {s s' : State} (h : dispatchRequest q s = .consumed s') :
    s'.pending = s.pending := by
  unfold dispatchRequest at h
  split at h
  · cases h; rfl
  · split at h
    · cases h; simp
    · split at h
      · cases h; simp
      · split at h
        · cases h; rfl
        · exact dispatchLive_pending h

theorem dispatchFrom_pending (l : StoreLink) (s : State) : (dispatchFrom l s).pending = s.pending := by
  simp only [dispatchFrom]
  split
  · rfl
  · split
    · rw [popIntake_pending, dispatchRequest_pending ‹_›]; rfl
    · simp

theorem dispatchNext_pending (s : State) : (dispatchNext s).pending = s.pending := by
  unfold dispatchNext
  split
  · split
    · exact dispatchFrom_pending ..
    · rfl
  · rfl

/-! ## The links -/

@[simp] theorem setLinkUnit_pending (l : Link) (u : LinkUnit) (s : State) : (s.setLinkUnit l u).pending = s.pending := by
  cases l <;> rfl

theorem handOn_pending (l : Link) (h : Nat) (payload : List Byte) (s : State) :
    (handOn l h payload s).pending = s.pending := by
  unfold handOn
  split
  · split
    · simp only [joinIntake]; split <;> simp
    · simp
  · split
    · rfl
    · split
      · unfold joinFifo; split <;> rfl
      · simp

theorem receive_pending (l : Link) (bytes : List Byte) (s : State) : (receive l bytes s).pending = s.pending := by
  unfold receive receiveFramed
  split
  · rfl
  · split
    · simp
    · simp
    · split_ifs
      · simp
      · simp
      · simp
      · simp [handOn_pending]

theorem sendParcel_pending (l : Link) (s : State) : (sendParcel l s).pending = s.pending := by
  simp only [sendParcel]
  split
  · rfl
  · split <;> simp

theorem carrierOn_pending (l : Link) (s : State) : (carrierOn l s).pending = s.pending := by
  simp only [carrierOn]
  split
  · rfl
  · split
    · simp
    · split <;> simp

theorem carrierOff_pending (l : Link) (s : State) : (carrierOff l s).pending = s.pending := by
  simp only [carrierOff]
  split
  · rfl
  · split <;> simp

/-! ## The ticks -/

@[simp] theorem referParked_pending (id : Nat) (p : ParkEntry) (s : State) : (referParked id p s).pending = s.pending := by
  simp only [referParked, freeIfDone_pending, countOut_pending]
  split <;> rfl

@[simp] theorem watchTimeouts_pending (s : State) : (watchTimeouts s).pending = s.pending := by
  simp only [watchTimeouts]
  split
  · rfl
  · simp [foldl_pending]

@[simp] theorem dueHolds_pending (s : State) : (dueHolds s).pending = s.pending := foldl_pending makeDue_pending _ s

theorem issueLapse_pending (s : State) (n : Nat) : (issueLapse s n).pending = s.pending := by
  simp only [issueLapse]
  split
  · rename_i entered
    simpa using handOver_eq_pending entered
  · rfl

@[simp] theorem issueLapses_pending (s : State) : (issueLapses s).pending = s.pending := by
  unfold issueLapses
  split
  · exact foldl_pending issueLapse_pending _ s
  · rfl

@[simp] theorem minuteTick_pending (s : State) : (minuteTick s).pending = s.pending := by
  unfold minuteTick
  split <;> simp

@[simp] theorem secondTick_pending (s : State) : (secondTick s).pending = s.pending := by
  simp only [secondTick]
  split_ifs <;> simp

theorem millisecondTick_pending (s : State) : (millisecondTick s).pending = s.pending := by
  simp only [millisecondTick]
  split <;> simp

/-! ## DRAM reads and writes -/

theorem takeRead_pending {b : ReadBody} {s s' : State} (h : takeRead b s = some s') : s'.pending = s.pending := by
  unfold takeRead at h
  split at h
  · cases h
  · split_ifs at h
    cases h
    rfl

theorem takeReads_pending {bs : List ReadBody} {s s' : State} (h : takeReads bs s = some s') : s'.pending = s.pending := by
  induction bs generalizing s with
  | nil => cases h; rfl
  | cons b bs ih =>
    simp only [takeReads] at h
    split at h
    · cases h
    · exact (ih h).trans (takeRead_pending ‹_›)

theorem dismissItem_pending (s : State) (it : Item) : (dismissItem s it).pending = s.pending := by
  rw [dismissItem, countOut_pending]
  split <;> simp

theorem fetchData_pending (card : Nat) (corrected : Bool) (s : State) :
    (fetchData card corrected s).pending = s.pending := by
  simp only [fetchData]
  split
  · rfl
  · rename_i taken
    rw [← takeRead_pending taken]
    cases corrected <;> split <;> rfl

theorem fetchLost_pending (card : Nat) (s : State) : (fetchLost card s).pending = s.pending := by
  simp only [fetchLost]
  split
  · rfl
  · rename_i taken
    rw [← takeRead_pending taken]
    split <;> simp [foldl_pending dismissItem_pending]

theorem cardWriteDone_pending (card : Nat) (s : State) : (cardWriteDone card s).pending = s.pending := by
  unfold cardWriteDone
  split
  · simp [completeCardWrite]
  all_goals rfl

theorem journalWriteDone_pending (seq : Nat) (s : State) : (journalWriteDone seq s).pending = s.pending := by
  unfold journalWriteDone
  split
  · rfl
  · split <;> rfl

/-! ## Loads, clears and restores -/

theorem clearQueueNext_pending (p : Nat) (s : State) : (clearQueueNext p s).pending = s.pending := by
  unfold clearQueueNext
  split
  · rfl
  · split
    · simp [updateClear]
    · rfl

theorem clearWriteComplete_pending (card : Nat) (s : State) : (clearWriteComplete card s).pending = s.pending := by
  unfold clearWriteComplete
  split
  · simp only [clearWriteDone]
    split
    · rfl
    · split
      · simp [endClear, updateClear]
      · rfl
  · rfl

theorem scanEnd_pending (s : State) : (scanEnd s).pending = s.pending := by
  unfold scanEnd
  split
  · rfl
  · split
    · simp only [completeScan]
      split_ifs <;> simp [refuseRestore]
    · rfl

theorem restoreWriteDone_pending (s : State) : (restoreWriteDone s).pending = s.pending := by
  unfold restoreWriteDone
  split
  · rfl
  · split
    · simp [endRestore]
    · rfl

/-! ## The Management Unit's reads -/

@[simp] theorem endRead_pending (code tag : Nat) (result : MgmtResult) (s : State) :
    (endRead code tag result s).pending = s.pending := rfl

@[simp] theorem movePointer_pending (pointer : Nat) (s : State) : (movePointer pointer s).pending = s.pending := rfl

theorem directDone_pending (outcome : ReadOutcome) (s : State) : (directDone outcome s).pending = s.pending := by
  simp only [directDone]
  split
  · split
    · rfl
    · rename_i taken
      rw [← takeRead_pending taken]
      cases outcome <;> simp [quarantineDirect]
  · rfl

theorem journalReadDone_pending (outcomes : List ReadOutcome) (s : State) :
    (journalReadDone outcomes s).pending = s.pending := by
  simp only [journalReadDone]
  split
  · split
    · split
      · rfl
      · rename_i taken
        rw [← takeReads_pending taken]
        split <;> simp
    · rfl
  · rfl

theorem loadFetchDone_pending (outcomes : List ReadOutcome) (s : State) :
    (loadFetchDone outcomes s).pending = s.pending := by
  simp only [loadFetchDone]
  split
  · split
    · split
      · rfl
      · rename_i taken
        rw [← takeReads_pending taken]
        split <;> simp [quarantineDirect]
    · rfl
  · rfl

/-! ## Management commands -/

theorem takeCommand_pending {rule : MgmtCommand → State → State} (h : ∀ c s, (rule c s).pending = s.pending) (code : Nat)
    (s : State) : (takeCommand code rule s).pending = s.pending := by
  unfold takeCommand
  split
  · rfl
  · split
    · split
      · simp
      · simp [h]
    · rfl

theorem takeAtOnce_pending {rule : List Byte → State → State × MgmtResult}
    (h : ∀ fields s, (rule fields s).1.pending = s.pending) (code : Nat) (s : State) : (takeCommand code (atOnce rule) s).pending = s.pending :=
  takeCommand_pending (rule := atOnce rule) (fun c s => h c.fields s) code s

theorem startItem_pending (code tag : Nat) (it : Item) (s : State) : (startItem code tag it s).pending = s.pending := by
  unfold startItem
  split
  · rename_i entered
    simpa using handOver_eq_pending entered
  all_goals rfl

theorem queueReads_pending (l : List ReadBody) (s : State) : (l.foldl (fun s b => queueRead b s) s).pending = s.pending :=
  foldl_pending (f := fun s b => queueRead b s) (fun _ _ => rfl) l s

theorem cardRead_pending (c : MgmtCommand) (s : State) : (cardRead c s).pending = s.pending := by
  unfold cardRead
  split
  · rfl
  · split
    · exact startItem_pending ..
    · rfl

theorem cardCorrection_pending (c : MgmtCommand) (name : Option CardName) (body : ItemBody) (s : State) :
    (cardCorrection c name body s).pending = s.pending := by
  unfold cardCorrection
  split
  · rfl
  · split
    · rfl
    · exact startItem_pending ..

theorem cardWrite_pending (c : MgmtCommand) (s : State) : (cardWrite c s).pending = s.pending := by
  unfold cardWrite
  split
  · rfl
  · exact cardCorrection_pending ..

theorem journalRead_pending (c : MgmtCommand) (s : State) : (journalRead c s).pending = s.pending := by
  simp only [journalRead]
  split
  · rfl
  · split_ifs
    · rfl
    · rfl
    · exact queueReads_pending ..

theorem watchRelease_pending (c : MgmtCommand) (s : State) : (watchRelease c s).pending = s.pending := by
  simp only [watchRelease]
  split
  · rfl
  · split
    · rfl
    · split
      · rfl
      · split_ifs <;> simp [allowParked]

theorem noticeEnable_pending (c : MgmtCommand) (s : State) : (noticeEnable c s).pending = s.pending := by
  simp only [noticeEnable]
  split
  · rfl
  · split <;> rfl

theorem issueDrop_pending (c : MgmtCommand) (ref : HoldRef) (s : State) : (issueDrop c ref s).pending = s.pending := by
  simp only [issueDrop]
  split
  · rename_i entered
    simpa using handOver_eq_pending entered
  all_goals rfl

theorem dropDue_pending (n : Nat) (s : State) : (dropDue n s).pending = s.pending := by
  unfold dropDue
  split <;> simp

theorem holdDrop_pending (c : MgmtCommand) (s : State) : (holdDrop c s).pending = s.pending := by
  simp only [holdDrop]
  split
  · rfl
  · split
    · exact (issueDrop_pending ..).trans (dropDue_pending ..)
    · rfl

theorem cardRestore_pending (c : MgmtCommand) (s : State) : (cardRestore c s).pending = s.pending := by
  unfold cardRestore
  split
  · rfl
  · split <;> rfl

theorem loadFetch_pending (c : MgmtCommand) (s : State) : (loadFetch c s).pending = s.pending := by
  simp only [loadFetch]
  split
  · split
    · rfl
    · exact queueReads_pending ..
  · rfl

theorem loadClear_pending (c : MgmtCommand) (s : State) : (loadClear c s).pending = s.pending := by
  unfold loadClear
  split
  · rfl
  · split
    · rfl
    · split <;> rfl

/-! ## The commands answered at once -/

theorem holdRead_pending (fields : List Byte) (s : State) : (holdRead fields s).1.pending = s.pending := by
  unfold holdRead
  split
  · rfl
  · split <;> rfl

theorem programRead_pending (fields : List Byte) (s : State) : (programRead fields s).1.pending = s.pending := by
  unfold programRead
  split
  · rfl
  · split <;> rfl

theorem promotionRead_pending (fields : List Byte) (s : State) : (promotionRead fields s).1.pending = s.pending := by
  unfold promotionRead
  split
  · rfl
  · split <;> rfl

theorem cacheProbe_pending (fields : List Byte) (s : State) : (cacheProbe fields s).1.pending = s.pending := by
  unfold cacheProbe
  split
  · rfl
  · split <;> rfl

theorem returnSizeSet_pending (fields : List Byte) (s : State) : (returnSizeSet fields s).1.pending = s.pending := by
  unfold returnSizeSet
  split <;> rfl

theorem accessSet_pending (fields : List Byte) (s : State) : (accessSet fields s).1.pending = s.pending := by
  unfold accessSet
  split
  · rfl
  · split_ifs <;> rfl

theorem dayAdvance_pending (fields : List Byte) (s : State) : (dayAdvance fields s).1.pending = s.pending := by
  unfold dayAdvance
  split
  · rfl
  · split <;> rfl

theorem journalRelease_pending (fields : List Byte) (s : State) : (journalRelease fields s).1.pending = s.pending := by
  unfold journalRelease
  split
  · rfl
  · split_ifs <;> rfl

theorem watchSet_pending (fields : List Byte) (s : State) : (watchSet fields s).1.pending = s.pending := by
  unfold watchSet
  split
  · rfl
  · split <;> rfl

theorem watchClear_pending (fields : List Byte) (s : State) : (watchClear fields s).1.pending = s.pending := by
  unfold watchClear
  split
  · rfl
  · split <;> rfl

theorem noticeClear_pending (fields : List Byte) (s : State) : (noticeClear fields s).1.pending = s.pending := by
  unfold noticeClear
  split <;> rfl

theorem programWrite_pending (fields : List Byte) (s : State) : (programWrite fields s).1.pending = s.pending := by
  unfold programWrite
  split
  · rfl
  · split
    · rfl
    · split <;> rfl

theorem programState_pending (fields : List Byte) (s : State) : (programState fields s).1.pending = s.pending := by
  unfold programState
  split
  · rfl
  · split
    · rfl
    · split
      · rfl
      · split
        · rfl
        · split <;> rfl

theorem promotionWrite_pending (fields : List Byte) (s : State) : (promotionWrite fields s).1.pending = s.pending := by
  unfold promotionWrite
  split
  · rfl
  · split_ifs <;> rfl

theorem promotionEnable_pending (fields : List Byte) (s : State) : (promotionEnable fields s).1.pending = s.pending := by
  unfold promotionEnable
  split
  · rfl
  · split_ifs <;> rfl

theorem promotionDisable_pending (fields : List Byte) (s : State) : (promotionDisable fields s).1.pending = s.pending := by
  unfold promotionDisable
  split
  · rfl
  · split <;> rfl

theorem loadOpen_pending (fields : List Byte) (s : State) : (loadOpen fields s).1.pending = s.pending := by
  unfold loadOpen
  split
  · rfl
  · split <;> rfl

theorem foldl_loadOne_pending (p last : Nat) (c : Settings) (l : List LoadRecord) (g : LoadProgress) :
    (l.foldl (loadOne p last c) g).st.pending = g.st.pending := by
  induction l generalizing g with
  | nil => rfl
  | cons r l ih =>
    rw [List.foldl_cons, ih]
    unfold loadOne
    split_ifs <;> simp

theorem loadData_pending (fields : List Byte) (s : State) : (loadData fields s).1.pending = s.pending := by
  simp only [loadData]
  split
  · exact foldl_loadOne_pending ..
  · rfl

theorem paceSet_pending (fields : List Byte) (s : State) : (paceSet fields s).1.pending = s.pending := by
  unfold paceSet
  split
  · rfl
  · split
    · rfl
    · exact foldl_pending (f := fun s l => stagePace _ l s) (fun _ _ => rfl) _ s

/-! ## Reset -/

/-- The completed writes leave the queue of commands alone, and so do the values that the blocks take (R139, R178). -/
theorem resetEffect_pending (s : State) : (resetEffect s).pending = s.pending := by
  unfold resetEffect
  split
  · rename_i under
    have same := drainWrites_drainParts (s := s) (Bool.and_eq_true_iff.1 under).1
    simp only [drainParts, Prod.mk.injEq] at same
    obtain ⟨-, -, -, -, -, -, -, -, -, -, -, -, pending, -⟩ := same
    exact pending
  · rfl

/-! ## Every command -/

/-- The answer `o` of a command over `s`: where its operands name what the part has, a next state with the queue of `s`;
otherwise a fault (log entry 39). -/
def Answers (wf : Bool) (o : Host.Outcome State Fault Refusal) (s : State) : Prop :=
  (wf = true → ∃ t, o = .next t ∧ t.pending = s.pending) ∧ (wf = false → ∃ f, o = .fault f)

theorem Answers.next {s t : State} (h : t.pending = s.pending) : Answers true (.next t) s :=
  ⟨fun _ => ⟨t, rfl, h⟩, nofun⟩

/-- A command that runs exactly where its operand lies in a range `p`. -/
theorem Answers.guarded {wf : Bool} {p : Prop} [Decidable p] {s t : State} {f : Fault} (range : wf = true ↔ p)
    (h : t.pending = s.pending) : Answers wf (if p then .next t else .fault f) s := by
  refine ⟨fun named => ⟨t, if_pos (range.1 named), h⟩, fun unnamed => ⟨f, if_neg fun within => ?_⟩⟩
  rw [range.2 within] at unnamed
  cases unnamed

theorem Answers.onCard {card : Nat} {f : State → State} {s : State} (h : (f s).pending = s.pending) :
    Answers (cardOk card) (onCard card f s) s := .guarded decide_eq_true_iff h

theorem execUnknownCommand_answers (s : State) : Answers true (execUnknownCommand s) s := by
  refine .next ?_
  split
  · rfl
  · split <;> rfl

theorem sequenceOk_iff {n : Nat} : sequenceOk n = true ↔ 1 ≤ n ∧ n ≤ counterMax := by
  simp [sequenceOk, counterMax]

/-- Every command answers as its operands name what the part has, block by block. -/
theorem exec_answers (s : State) : ∀ c : Instr, Answers c.wf (exec c s) s
  | .powerOn | .resetNHigh | .tblenFall | .tblenRise => .next rfl
  | .resetNLow => .next (by split <;> rfl)
  | .engineResetEffect => .next (resetEffect_pending s)
  | .carrierPresent l => .next (carrierOn_pending l s)
  | .carrierLost l => .next (carrierOff_pending l s)
  | .request .. | .answer _ | .mgmt _ | .idle .. | .unexpectedKind .. => .next (receive_pending ..)
  | .parcelSend l => .next (sendParcel_pending l s)
  | .millisecondTick => .next (millisecondTick_pending s)
  | .pacerExpiry l => .next (pacerExpire_pending l s)
  | .secondTick => .next (secondTick_pending s)
  | .watchTimeout => .next (watchTimeouts_pending s)
  | .minuteTick => .next (minuteTick_pending s)
  | .holdDue => .next (dueHolds_pending s)
  | .dispatch => .next (dispatchNext_pending s)
  | .inquire _ | .activate _ | .load _ | .redeem _ | .hold _ | .complete _ | .release _ | .reverse _ | .withdraw _
  | .lapse _ | .dropItem _ | .cardReadAtCard _ | .cardFreezeAtCard _ | .cardThawAtCard _ | .cardWriteAtCard _ =>
    .onCard (takeHead_pending ..)
  | .fetchComplete .. => .onCard (fetchData_pending ..)
  | .fetchUncorrectable _ => .onCard (fetchLost_pending ..)
  | .cardRecordWriteComplete _ => .onCard (cardWriteDone_pending ..)
  | .loadClearWriteComplete _ => .onCard (clearWriteComplete_pending ..)
  | .loadClearWriteQueue _ => .guarded decide_eq_true_iff (clearQueueNext_pending ..)
  | .journalWriteComplete _ => .guarded sequenceOk_iff (journalWriteDone_pending ..)
  | .restoreScanEnd => .next (scanEnd_pending s)
  | .restoreWriteComplete => .next (restoreWriteDone_pending s)
  | .cardReadDirectComplete o => .next (directDone_pending o s)
  | .journalReadComplete o => .next (journalReadDone_pending o s)
  | .loadFetchComplete o => .next (loadFetchDone_pending o s)
  | .unknownCommand => execUnknownCommand_answers s
  | .statusRead | .watchRead | .watchClearStatus | .intakeStop | .intakeStart | .loadClose | .cacheFlush =>
    .next (takeAtOnce_pending (fun _ _ => rfl) ..)
  | .holdRead => .next (takeAtOnce_pending holdRead_pending ..)
  | .programRead => .next (takeAtOnce_pending programRead_pending ..)
  | .promotionRead => .next (takeAtOnce_pending promotionRead_pending ..)
  | .cacheProbe => .next (takeAtOnce_pending cacheProbe_pending ..)
  | .returnSizeSet => .next (takeAtOnce_pending returnSizeSet_pending ..)
  | .accessSet => .next (takeAtOnce_pending accessSet_pending ..)
  | .dayAdvance => .next (takeAtOnce_pending dayAdvance_pending ..)
  | .journalRelease => .next (takeAtOnce_pending journalRelease_pending ..)
  | .watchSet => .next (takeAtOnce_pending watchSet_pending ..)
  | .watchClear => .next (takeAtOnce_pending watchClear_pending ..)
  | .noticeClear => .next (takeAtOnce_pending noticeClear_pending ..)
  | .programWrite => .next (takeAtOnce_pending programWrite_pending ..)
  | .programState => .next (takeAtOnce_pending programState_pending ..)
  | .promotionWrite => .next (takeAtOnce_pending promotionWrite_pending ..)
  | .promotionEnable => .next (takeAtOnce_pending promotionEnable_pending ..)
  | .promotionDisable => .next (takeAtOnce_pending promotionDisable_pending ..)
  | .loadOpen => .next (takeAtOnce_pending loadOpen_pending ..)
  | .loadData => .next (takeAtOnce_pending loadData_pending ..)
  | .paceSet => .next (takeAtOnce_pending paceSet_pending ..)
  | .cardFreeze | .cardThaw => .next (takeCommand_pending (fun _ _ => cardCorrection_pending ..) ..)
  | .cardRead => .next (takeCommand_pending cardRead_pending ..)
  | .journalRead => .next (takeCommand_pending journalRead_pending ..)
  | .watchRelease => .next (takeCommand_pending watchRelease_pending ..)
  | .noticeEnable => .next (takeCommand_pending noticeEnable_pending ..)
  | .holdDrop => .next (takeCommand_pending holdDrop_pending ..)
  | .cardWrite => .next (takeCommand_pending cardWrite_pending ..)
  | .cardRestore => .next (takeCommand_pending cardRestore_pending ..)
  | .loadFetch => .next (takeCommand_pending loadFetch_pending ..)
  | .loadClear => .next (takeCommand_pending loadClear_pending ..)
  | .engineReset => .next (takeCommand_pending (rule := engineReset) (fun _ _ => rfl) ..)

/-- Settles O2: a command faults only where it looks at its operand, and no block holds the queue of commands. -/
theorem commandsAnswerNext : Obligations.CommandsAnswerNext := fun c s => exec_answers s c

end Sys2Proof.Machine
